-- ==== Sys2Proof/Word.lean ====
section
/-! DEFINITION. The word types of the Umbrega 46 and the interval of rail (sections 1.6.1 to 1.6.4). -/

namespace Sys2Proof

/-- A byte of a frame (R1). -/
abbrev Byte := BitVec 8

/-- A turntable angle in units of 1/65,536 turn; sums are taken modulo 65,536 (section 1.6.2). -/
abbrev Angle := BitVec 16

/-- A trace sequence number, compared modulo 65,536 (section 1.6.4). -/
abbrev Seq := BitVec 16

/-- A stretch of rail along x, in µm (R176). -/
structure Interval where
  lo : Int
  hi : Int
deriving DecidableEq, Repr

end Sys2Proof
end

