-- ==== Sys2Proof/Syntax.lean ====
section
/-! DEFINITION. The commands of spec/opcode_table.json, one constructor of `Instr` per row, with what each carries. -/

namespace Sys2Proof

/-- The role strap (section 1.3). -/
inductive Role where
  | tracer
  | carver
deriving DecidableEq, Repr

/-- The bus rate strap (section 1.3). -/
inductive BusRate where
  | k250
  | k500
  | m1
  | m2
deriving DecidableEq, Repr

/-- The strap pins, sampled once at each reset (section 1.3, R24). -/
structure Straps where
  number : Fin 32
  role : Role
  rail : Fin 4
  slot : Fin 8
  rate : BusRate
  /-- The courtesy strap is on (R6). -/
  courtesy : Bool
  /-- The self-check strap says run (R26). -/
  selfCheck : Bool
deriving DecidableEq, Repr

/-- A side of the carriage along its rail (R33). -/
inductive Side where
  | left
  | right
deriving DecidableEq, Repr

/-- What ended a transmission in a transmit failure (R17). -/
inductive FailCause where
  /-- A bit after the arbitration byte read back different from the bit sent. -/
  | bit
  /-- The frame was sent whole but its read-back tested bad (R9). -/
  | echo
deriving DecidableEq, Repr

/-- What the probe port gives at a sample's arrival (R62). -/
structure Probe where
  depth : Int
  overtravel : Bool
deriving DecidableEq, Repr

/-- One probe report of the FOLLOW stream (section 4.5, R66). -/
structure ProbeReport where
  u : Int
  v : Int
  depth : Int
  inGroove : Bool
  overtravel : Bool
  /-- The width gauge's half-width at the stylus. -/
  width : Nat
deriving DecidableEq, Repr

/-- The commands: one constructor per row of spec/opcode_table.json. -/
inductive Instr where
  /-- PIN_RESET (R22). -/
  | pinReset
  /-- LEAVE_RESET, with the strap pins as they are wired at that moment (R22, R24). -/
  | leaveReset (straps : Straps)
  /-- MEMORY_TEST_END: the memory under test read back as written, or not (R26). -/
  | memoryTestEnd (passed : Bool)
  /-- BUS_IDLE: `cut` when another station's frame had begun in the idle before and was cut off by this one (R4). -/
  | busIdle (cut : Bool)
  /-- COURTESY_HOLD_END (R6). -/
  | courtesyHoldEnd
  /-- ARBITRATION_LOSS (R5). -/
  | arbitrationLoss
  /-- TRANSMIT_FAILURE (R17). -/
  | transmitFailure (cause : FailCause)
  /-- FRAME_SENT: the acknowledge bit read dominant (heard) or recessive (R10). -/
  | frameSent (heard : Bool)
  /-- FRAME_RECEIVED: the bytes read, from the arbitration byte to the check byte (R1, R7). -/
  | frameReceived (bytes : List Byte)
  /-- RESET: the end of the acknowledge slot of an accepted RESET, with the strap pins as wired (R23, R24). -/
  | reset (straps : Straps)
  /-- UNUSED_FRAME_TAKEN (R2). -/
  | unusedFrameTaken
  /-- JOIN (R30). -/
  | join
  /-- JOB (R36). -/
  | job
  /-- START (R48). -/
  | start
  /-- ABORT (R49). -/
  | abort
  /-- EXCUSE (R50, R51). -/
  | excuse
  /-- RESUME (R175). -/
  | resume
  /-- CLEAR (R189). -/
  | clear
  /-- FINISH (R52). -/
  | finish
  /-- QUERY (R191). -/
  | query
  /-- CREDIT (R79). -/
  | credit
  /-- TRACE (R106). -/
  | trace
  /-- REACH (R179). -/
  | reach
  /-- REACH_TIMER_EXPIRY (R178). -/
  | reachTimerExpiry
  /-- VIEW_STALE: the view of one side has gone 25 ms without a REACH (R179). -/
  | viewStale (side : Side)
  /-- SETTLE_TIMER_EXPIRY (R181). -/
  | settleTimerExpiry
  /-- WAIT_TIMER_EXPIRY (R183). -/
  | waitTimerExpiry
  /-- ENROLMENT_TIMER_EXPIRY (R76). -/
  | enrolmentTimerExpiry
  /-- ENTRY_SILENT: the lag entry of one carver has gone 50 ms without a CREDIT (R82). -/
  | entrySilent (carver : Nat)
  /-- TAIL_TIMER_EXPIRY (R86). -/
  | tailTimerExpiry
  /-- CREDIT_TIMER_EXPIRY (R117). -/
  | creditTimerExpiry
  /-- EMISSION (R57). -/
  | emission
  /-- PROBE_REPORT (R66). -/
  | probeReport (report : ProbeReport)
  /-- PASS_START_BUTTON (R65). -/
  | passStartButton
  /-- PASS_END_BUTTON (R71). -/
  | passEndButton
  /-- HEAD_HANDED_ON (R111). -/
  | headHandedOn
  /-- SETPOINT_ISSUE (R165). -/
  | setpointIssue
  /-- ARRIVED: the drives' arrived report with its tag, and what the probe port gives at that moment (R166, R62). -/
  | arrived (tag : Byte) (probe : Probe)
  /-- SWEEP_END (R145). -/
  | sweepEnd
  /-- HALTED (R168). -/
  | halted
  /-- DRIVE_FAULT_REPORT with the fault's code (R172). -/
  | driveFaultReport (code : Byte)
  /-- FAULT_CLEARED (R172). -/
  | faultCleared
  /-- ACTUAL_POSITION_CHANGE: the drives' actual x, y and turntable angle (R166, R186). -/
  | actualPositionChange (x : Int) (y : Int) (angle : Angle)
  /-- SPIN_UP_END (R169). -/
  | spinUpEnd
  /-- LOAD_CHANGE: the load reading in percent, and the stall signal (R170). -/
  | loadChange (load : Nat) (stall : Bool)
  /-- HIGH_LOAD_EXPIRY (R170). -/
  | highLoadExpiry
  /-- LOW_LOAD_EXPIRY (R170). -/
  | lowLoadExpiry
  /-- STALL (R171). -/
  | stall
  /-- STOP_SENSED (R20, R53). -/
  | stopSensed
  /-- STOP_RELEASED (R20). -/
  | stopReleased
  /-- BAD_FRAME (R4). -/
  | badFrame
deriving DecidableEq, Repr

end Sys2Proof
end

