-- ==== Sys2Proof/Config.lean ====
section
/-! DEFINITION. The free values: what the manual leaves open, each an opaque constant that nothing can evaluate.
Log entries 10, 11, 13, 14, 15, 16, 28, 30, 42 and 66 of notes/assumptions/ name them. -/

namespace Sys2Proof.Config

/-- What a 3-byte length field carries when the length lies outside its range (section 1.6.1; log entry 10). -/
opaque openLength : Int → BitVec 24

/-- The class read from a class byte outside 0 to 3 (R77, R79; log entry 11). -/
opaque openClass : Byte → BitVec 2

/-- The value read from a yes/no byte outside 0 and 1 (section 13.6; log entry 11). -/
opaque openFlag : Byte → Bool

/-- The step kind byte of REPLY section 0 when there is no current step (R162; log entry 15). -/
opaque openStepKind : Nat → Byte

/-- The requested class of a CREDIT filled when no record is held (R116, R158; log entry 15). -/
opaque openRequestedClass : Nat → BitVec 2

/-- The field bytes of an absent roster entry in a REPLY, by free-value number, station and offset (R29; log entry 16). -/
opaque absentRosterByte : Nat → Nat → Nat → Byte

/-- The field bytes of an empty last-refusal record in REPLY section 0, by free-value number and offset
(R40, section 13.7; log entry 42). -/
opaque emptyRefusalByte : Nat → Nat → Byte

/-- The first-risen byte of an ALERT filled with no condition pending (R188; log entry 30). -/
opaque openFirstRisen : Nat → Byte

/-- The order in which a sweep visits the cells, each once: a cell's place in it (R145; log entry 14). -/
opaque sweepOrder : Equiv.Perm (Fin 32768)

/-- How many of the cells of the present 100 µs a running sweep has visited at the moment it is read or abandoned
(R146, R147; log entry 14). -/
opaque sweepInTick : Nat → Nat

/-- The cleared depth a failed Cut Map memory was left with, by free-value number and cell (R26; log entry 13). -/
opaque failedCleared : Nat → Nat → BitVec 23

/-- The pass minimum a failed Cut Map memory was left with (R26; log entry 13). -/
opaque failedMinimum : Nat → Nat → Option (BitVec 24)

/-- The two flags a failed Cut Map memory was left with (R26; log entry 13). -/
opaque failedFlags : Nat → Nat → Bool × Bool

/-- The guard gap a check goes by while no record is held, by the clock (R180; log entry 66). -/
opaque openGuardGap : Nat → Nat

/-- The feed rate sent with a setpoint that is no closing lift while no record is held, by the clock (R165; log entry 66). -/
opaque openRate : Nat → Nat

/-- Where the lamps' cycles of 500 ms stand when the clock is 0, in ticks (R34; log entry 28). -/
opaque flashOffset : Nat

end Sys2Proof.Config
end

