-- ==== Sys2Proof/Machine/State.lean ====
section
/-! DEFINITION. The state of one Umbrega 46 station as plain data, block by block, and its value after reset.
Each structure's docstring names the rule of spec/ that lists it. -/

namespace Sys2Proof.Machine

/-! ## Station states and frames -/

/-- The station's state (section 1.8, R35). `held` is a station held in reset (R22). -/
inductive StationState where
  | held
  | starting
  | ready
  | idle
  | loading
  | armed
  | running
  | done
  | stopped
  | suspended
  | excused
  | failed
deriving DecidableEq, Repr

/-- The frame kinds (R2). -/
inductive Kind where
  | alert
  | reach
  | start
  | abort
  | excuse
  | resume
  | reset
  | clear
  | finish
  | credit
  | trace
  | job
  | join
  | query
  | reply
deriving DecidableEq, Repr

/-- An accepted frame in the receive buffer (R11): its kind, source station number, destination and payload. -/
structure Frame where
  kind : Kind
  src : Nat
  dest : Byte
  payload : List Byte
deriving DecidableEq, Repr

/-- A held place of the transmit queue (R13). A report's payload is empty until its attempt starts (R16). -/
structure TxFrame where
  kind : Kind
  dest : Byte
  payload : List Byte
  /-- The moment the place was filled, as the number of the offer that filled it. -/
  age : Nat
deriving DecidableEq, Repr

/-- The due-again mark of a report place in transmission (R16): the age and destination of the offer that made it. -/
structure Again where
  age : Nat
  dest : Byte
deriving DecidableEq, Repr

/-- The frame in transmission, at the head of the transmit queue (R13), with its payload as filled. -/
structure Sending where
  frame : TxFrame
  again : Option Again
deriving DecidableEq, Repr

/-- What the receiver is doing (R4). -/
inductive RxPhase where
  /-- Not started: the station is held in reset or in STARTING. -/
  | off
  /-- Waiting for the bus to be idle before it takes a start bit. -/
  | waitIdle
  /-- The bus has been idle: the next start bit begins a frame. -/
  | ready
  /-- Inside a frame whose start this station took part in or saw. -/
  | inFrame
deriving DecidableEq, Repr

/-- The Bus Controller (chapter 1, R21). -/
structure Bus where
  /-- The held places other than the one in transmission, in the order of R13. -/
  queue : List TxFrame
  sending : Option Sending
  /-- The number of offers placed so far: the next age (R13). -/
  offers : Nat
  /-- The receive buffer, oldest first (R11). -/
  rx : List Frame
  rxPhase : RxPhase
  /-- Whether this station drove the acknowledge bit of the frame last settled (R7). -/
  ack : Bool
  /-- An accepted RESET waits for the end of its acknowledge slot (R11). -/
  resetDue : Bool
  /-- Consecutive transmit failures (R17). -/
  failures : Nat
  mute : Bool
  /-- The courtesy hold runs (R6). -/
  hold : Bool
  drivePull : Bool
  breachPull : Bool
  /-- The sensed bed stop level is low (R20). -/
  sensedLow : Bool
  /-- The filter (R20): the ticks without a break at which the line has read the other level than the sensed one. -/
  filter : Nat
deriving DecidableEq, Repr

/-- A present entry of the peer roster (R29). -/
structure Peer where
  role : Role
  rail : Nat
  slot : Nat
  selfCheck : Nat
  pathCapacity : Nat
  storeCapacity : Nat
  joinOrder : Nat
deriving DecidableEq, Repr

/-- The peer roster (R29): 32 entries, and the JOIN that is due, by its answer flag (R14, R31). -/
structure Roster where
  entries : List (Option Peer)
  joinOrder : Nat
  joinDue : Option Bool
deriving DecidableEq, Repr

/-! ## Jobs -/

/-- The refusal codes (R40). -/
inductive JobCode where
  | busy
  | order
  | length
  | wrongRole
  | badScale
  | badPlan
  | badWindow
  | badFaces
  | noTracer
deriving DecidableEq, Repr

/-- The last-refusal record (R40); its kind is JOB, the only kind that is refused. -/
structure LastRefusal where
  jobId : Nat
  code : JobCode
  index : Nat
deriving DecidableEq, Repr

/-- The tracing mode (R42). -/
inductive Mode where
  | raster
  | follow
deriving DecidableEq, Repr

/-- The step kinds of a pass plan (R44). -/
inductive StepKind where
  | rough
  | finish
  | letter
deriving DecidableEq, Repr

/-- The advance conditions of a pass plan (R44). -/
inductive Advance where
  | count
  | dry
  | floor
  | once
deriving DecidableEq, Repr

/-- One step of the pass plan (R44, R151). -/
structure PlanStep where
  kind : StepKind
  first : Int
  delta : Int
  last : Int
  cls : Nat
  limit : Nat
  advance : Advance
deriving DecidableEq, Repr

/-- The feed rates of the four feed classes, mm/min (R41). -/
structure Feeds where
  cut : Nat
  plunge : Nat
  rapid : Nat
  lift : Nat
deriving DecidableEq, Repr

/-- The tracer's part of a job record (R42). -/
structure TracerJob where
  mode : Mode
  u0 : Int
  u1 : Int
  v0 : Int
  v1 : Int
  spacing : Int
  stepovers : List Nat
  passLimit : Nat
  useStore : Bool
  faces : List Angle
  enrol : List Nat
deriving DecidableEq, Repr

/-- The carver's part of a job record (R43, R44). -/
structure CarverJob where
  tracer : Nat
  snum : Nat
  sden : Nat
  mirror : Bool
  reversed : Bool
  xOff : Int
  yOff : Int
  dOff : Int
  phase : Angle
  dMax : Int
  letterFactor : Nat
  letterLimit : Int
  baseX : Int
  baseY : Int
  shift : Nat
  faces : List Angle
  plan : List PlanStep
deriving DecidableEq, Repr

/-- The part of a job record that belongs to the station's role. -/
inductive Work where
  | tracer (t : TracerJob)
  | carver (c : CarverJob)
deriving DecidableEq, Repr

/-- The names that can stand on a clamped list (R45). -/
inductive ClampName where
  | spacing
  | gap
  | cut
  | plunge
  | rapid
  | lift
  | clearance
  | letterLimit
deriving DecidableEq, Repr

/-- A validated job record with its clamped list (R35, R41). -/
structure JobRecord where
  id : Nat
  halfLeft : Int
  halfRight : Int
  gap : Int
  xMin : Int
  xMax : Int
  yMin : Int
  yMax : Int
  clearance : Int
  feeds : Feeds
  work : Work
  clamped : List ClampName
deriving DecidableEq, Repr

/-- The assembly buffer (R35). -/
structure Assembly where
  jobId : Nat
  total : Nat
  lastIndex : Nat
  data : List Byte
  back : StationState
deriving DecidableEq, Repr

/-- The Job Store (R35), with the station state. -/
structure JobStore where
  state : StationState
  /-- The state a STOPPED station remembers (R53). -/
  remembered : StationState
  record : Option JobRecord
  assembly : Option Assembly
  refusal : Option LastRefusal
  halfLeft : Int
  halfRight : Int
  finishing : Bool
deriving DecidableEq, Repr

/-! ## The tracer's blocks -/

/-- The record kinds of the trace stream (section 1.7, R55). -/
inductive RecordKind where
  | surface
  | stroke
  | lift
  | passStart
  | passEnd
deriving DecidableEq, Repr

/-- A trace record (R55). -/
structure TraceRecord where
  seq : Seq
  pass : Nat
  kind : RecordKind
  u : Int
  v : Int
  depth : Int
  angle : Angle
  width : Nat
  cls : Nat
  faces : Nat
deriving DecidableEq, Repr

/-- The Trace Generator's phases (R54). -/
inductive GenPhase where
  | quiet
  | faceMove
  | sampleMove
  | atSample
  | awaitStart
  | inPass
deriving DecidableEq, Repr

/-- A pass order: its number and stepover class (R59). -/
structure PassOrder where
  pass : Nat
  cls : Nat
deriving DecidableEq, Repr

/-- A position on the template, in µm. -/
structure Point where
  u : Int
  v : Int
deriving DecidableEq, Repr

/-- The last probe report taken (R54): its position and groove reading. -/
structure LastReport where
  at_ : Point
  inGroove : Bool
deriving DecidableEq, Repr

/-- The Trace Generator (R54). The arm brake is an output computed from the state (R68). -/
structure Generator where
  phase : GenPhase
  current : Option PassOrder
  face : Nat
  row : Nat
  col : Nat
  /-- The row runs back. -/
  back : Bool
  nextSeq : Seq
  due : List TraceRecord
  /-- The turntable setpoint of AWAIT_START has arrived (R65). -/
  tableArrived : Bool
  following : Bool
  acc : Nat
  last : Option LastReport
  exitPoint : Option Point
  passEndNoted : Bool
deriving DecidableEq, Repr

/-- The Pacer's phases (R74). -/
inductive PacerPhase where
  | off
  | enrolling
  | passing
  | collecting
deriving DecidableEq, Repr

/-- A lag-table entry (R75). -/
structure LagEntry where
  carver : Nat
  capacity : Nat
  released : Seq
  last : StationState
  completed : Nat
  wants : Bool
  cls : Nat
  free : Nat
  lastHeard : Nat
  silent : Bool
  dropped : Bool
  presumed : Bool
deriving DecidableEq, Repr

/-- What a decision held in STOPPED was reached at (R89). -/
inductive PendingDecision where
  /-- The end of enrolment. -/
  | enrolment
  /-- The end of a pass's collection. -/
  | collection
deriving DecidableEq, Repr

/-- The Pacer (R74). -/
structure Pacer where
  phase : PacerPhase
  enrolTimer : Option Nat
  pass : Nat
  cls : Nat
  emitted : Seq
  lag : List LagEntry
  tailTimer : Option Nat
  tailExpired : Bool
  decision : Option PendingDecision
  finishDue : Bool
  /-- The carvers restarted in this job, which are not admitted again in it (R84; log entry 50). -/
  restarted : List Nat
deriving DecidableEq, Repr

/-- The Trace Store's states (R92). -/
inductive StoreState where
  | empty
  | recording
  | complete
  | overflowed
deriving DecidableEq, Repr

/-- A stored record (R92). -/
structure StoredRecord where
  kind : RecordKind
  u : Int
  v : Int
  depth : Int
  angle : Angle
  width : Nat
deriving DecidableEq, Repr

/-- The item of a replay to be built next, or in the due list (R98). -/
inductive Cursor where
  | passStart
  | record (i : Nat)
  | passEnd
deriving DecidableEq, Repr

/-- The Trace Store (R92). The record count is the number of stored records. -/
structure TraceStore where
  state : StoreState
  records : List StoredRecord
  cls : Nat
  faces : Nat
  cursor : Option Cursor
deriving DecidableEq, Repr

/-! ## Setpoints -/

/-- The feed classes (R141). -/
inductive FeedClass where
  | cut
  | plunge
  | rapid
  | lift
deriving DecidableEq, Repr

/-- The tracer's moves (R61, R62, R65, R85). -/
inductive Move where
  | face
  | sample
  | turntable
  | comeback
deriving DecidableEq, Repr

/-- A closing lift with the values the port keeps for it (R168, R90). -/
structure ClosingLift where
  level : Int
  rate : Nat
  feed : FeedClass
  /-- It is the retract of a FINISH drain: DONE follows at its arrival (R52). -/
  drain : Bool
deriving DecidableEq, Repr

/-- The origin of a setpoint (R164). -/
inductive Origin where
  | entry
  | jobStartLift
  /-- `drain` when it stands as the drain's retract (R175). -/
  | resumeLift (drain : Bool)
  | closingLift (c : ClosingLift)
  | tracerMove (m : Move)
deriving DecidableEq, Repr

/-- The limit marks of a candidate (R120, R133). -/
structure Marks where
  rangeClip : Bool
  outOfTravel : Bool
  letterCap : Bool
  envelopeClip : Bool
deriving DecidableEq, Repr

/-- A setpoint (R120, R164). For a carver's candidate it carries the air class and the cell too (R141). -/
structure Setpoint where
  x : Int
  y : Int
  depth : Int
  angle : Angle
  feed : FeedClass
  origin : Origin
  traced : Option Angle
  /-- A cutting candidate, not a lift (R120). -/
  cutting : Bool
  /-- Classed air by the air test (R140). -/
  air : Bool
  /-- The tracked cell of a cutting candidate (R138, R139). -/
  cell : Option Nat
  marks : Marks
deriving DecidableEq, Repr

/-- A setpoint sent to the drives, with its tag and feed rate (R165). -/
structure Outstanding where
  tag : Byte
  sp : Setpoint
  rate : Nat
deriving DecidableEq, Repr

/-! ## The carver's blocks -/

/-- The entry kinds of the Path Queue (R104). -/
inductive EntryKind where
  | surface
  | stroke
  | lift
  | passStart
  | passEnd
  | gapLift
  | endSynth
deriving DecidableEq, Repr

/-- An entry of the Path Queue (R104). -/
structure Entry where
  kind : EntryKind
  synthetic : Bool
  release : Seq
  pass : Nat
  u : Int
  v : Int
  depth : Int
  angle : Angle
  width : Nat
  lost : Nat
  broken : Bool
deriving DecidableEq, Repr

/-- An issued entry: the tag and setpoint it was issued with, and whether the queue has emptied since (R111, R114). -/
structure Issued where
  entry : Entry
  tag : Byte
  sp : Setpoint
  emptied : Bool
deriving DecidableEq, Repr

/-- The Path Queue (R104). A free slot holds nothing, so the free list is a count. -/
structure PathQueue where
  free : Nat
  posted : List Entry
  issued : List Issued
  expected : Seq
  released : Seq
  lastPass : Nat
  inPass : Bool
  creditTimer : Option Nat
  freeAtOffer : Nat
deriving DecidableEq, Repr

/-- A cell record of the Cut Map (R136). -/
structure Cell where
  cleared : Nat
  minimum : Option Int
  touched : Bool
  gapMarked : Bool
deriving DecidableEq, Repr

/-- The Cut Map (R136): the cells that differ from the after-reset cell, by rising cell number
face × 4096 + row × 64 + column; the free-value number of a failed memory (R26); the sweep (R145, R146). -/
structure CutMap where
  cells : List (Nat × Cell)
  failed : Option Nat
  sweeping : Bool
  progress : Nat
  sweepTimer : Option Nat
deriving DecidableEq, Repr

/-- Pass tallies (R150). -/
structure Tallies where
  cut : Nat
  air : Nat
  gap : Nat
  broken : Bool
deriving DecidableEq, Repr

/-- The Pass Sequencer's decision phases (R150). -/
inductive DecisionPhase where
  | none
  | awaiting
  | sweeping
deriving DecidableEq, Repr

/-- The Pass Sequencer (R150). The step index is none at END. -/
structure Sequencer where
  index : Option Nat
  counter : Nat
  rep : Nat
  floor : Int
  openPass : Option Nat
  resting : Bool
  running : Tallies
  reported : Tallies
  completed : Nat
  phase : DecisionPhase
deriving DecidableEq, Repr

/-! ## Motion, guard and conditions -/

/-- The halt state (R164). While halting, `closing` says that the stop was commanded for a closing lift (R168). -/
inductive HaltState where
  | moving
  | halting (closing : Bool)
deriving DecidableEq, Repr

/-- The spindle (R164): spinning up with the ticks left of its 2 s. -/
inductive Spindle where
  | off
  | spinningUp (left : Nat)
  | on
deriving DecidableEq, Repr

/-- The feed override (R164). -/
inductive Override where
  | p100
  | p75
  | p50
  | p25
deriving DecidableEq, Repr

/-- The port lift that is due and not yet issued (R167). -/
inductive PortLift where
  | jobStart
  | resume (drain : Bool)
deriving DecidableEq, Repr

/-- The Motion Port (R164). -/
structure Motion where
  outstanding : List Outstanding
  nextTag : Byte
  reference : Option Setpoint
  /-- The reference setpoint has been reported arrived. -/
  refArrived : Bool
  halt : HaltState
  held : List Setpoint
  /-- Tracer moves commanded and waiting for the Guard (R165, R180). -/
  waiting : List Setpoint
  portLift : Option PortLift
  closing : Option ClosingLift
  spindle : Spindle
  restNotice : Bool
  override : Override
  highTimer : Option Nat
  lowTimer : Option Nat
  stallTimer : Option Nat
  faultStanding : Bool
  faultCode : Byte
deriving DecidableEq, Repr

/-- The check phases of the Neighbour Guard (R176). -/
inductive CheckPhase where
  | none
  | settle
  | wait
deriving DecidableEq, Repr

/-- What a REACH told of a neighbour (R179, R181). -/
structure Seen where
  claim : Interval
  announce : Option Interval
deriving DecidableEq, Repr

/-- The last REACH taken from a neighbour, when it was taken, and whether the view has gone stale since (R179). -/
structure Heard where
  seen : Seen
  time : Nat
  stale : Bool
deriving DecidableEq, Repr

/-- A neighbour view (R179): the station named, or none, and what was heard of it, none when never heard. -/
structure View where
  station : Option Nat
  heard : Option Heard
deriving DecidableEq, Repr

/-- The Neighbour Guard (R176). -/
structure Guard where
  claim : Interval
  announce : Option Interval
  /-- The REACH in transmission carries the present announce (R181). -/
  announceSent : Bool
  phase : CheckPhase
  /-- The side of the announce or of the wait (R180). -/
  side : Side
  atCheck : Option Setpoint
  passed : Option Setpoint
  settleTimer : Option Nat
  /-- The announce heard flag. -/
  heard : Bool
  /-- The last reply. -/
  reply : Option Seen
  waitTimer : Option Nat
  waitExpired : Bool
  reachTimer : Option Nat
  reports : Nat
  left : View
  right : View
  leftArmed : Bool
  rightArmed : Bool
deriving DecidableEq, Repr

/-- The conditions, in the order of their numbers (R187). -/
inductive Cond where
  | busMute
  | duplicateNumber
  | selfCheckFail
  | jobRefused
  | jobDone
  | noCarvers
  | carverAbsent
  | carverSilent
  | carverRestarted
  | carverDropped
  | passLimit
  | traceSkip
  | probeOvertravel
  | storeFull
  | traceGap
  | queueOverrun
  | envelopeClip
  | outOfTravel
  | loadRelief
  | spindleStall
  | driveFault
  | neighbourStale
  | guardWaitLong
  | guardBreach
  | bedStop
  | resumeRefused
deriving DecidableEq, Repr

/-- The counters, in the order of R190. -/
inductive Counter where
  | unheardFrames
  | badCheckFrames
  | receiveOverruns
  | transmitFailures
  | strayControls
  | strayTraces
  | staleDuplicates
  | gapTotal
  | overruns
  | rangeClips
  | outOfTravel
  | envelopeClips
  | letterCaps
  | loadReliefs
  | droppedReplies
deriving DecidableEq, Repr

/-- The Condition Unit (R187 to R190). Condition n is bit 31 − n of the set, so that the word is the four bytes of
section 13.6, most significant first; the counters stand in the order of R190. -/
structure ConditionUnit where
  set : BitVec 32
  risen : Option Cond
  inflight : Option Cond
  counters : List Nat
deriving DecidableEq, Repr

/-- What the motion port, the spindle lines and the bed stop line read from outside (R164, R166, R170, R20). A reset does
not change them. -/
structure Inputs where
  x : Int
  y : Int
  angle : Angle
  load : Nat
  stall : Bool
  /-- The fault the drives report as standing, with its code. -/
  driveFault : Option Byte
  /-- Another station or the console's button pulls the bed stop line (R19, R20). -/
  lineLow : Bool
  /-- Whether they pull it at each of the ticks to come, the next first; after the last it stays (log entry 25). -/
  lineAhead : List Bool
deriving DecidableEq, Repr

end Sys2Proof.Machine

namespace Sys2Proof.Machine

/-- The whole station. -/
structure State where
  straps : Straps
  inputs : Inputs
  /-- The clock, in ticks of 100 µs (section 1.6.6). -/
  now : Nat
  /-- The number of the next free value. -/
  seed : Nat
  /-- The code of the memory under test (R26). -/
  selfTest : Option Nat
  bus : Bus
  roster : Roster
  job : JobStore
  gen : Generator
  pacer : Pacer
  store : TraceStore
  pq : PathQueue
  map : CutMap
  seq : Sequencer
  motion : Motion
  guard : Guard
  cond : ConditionUnit
  /-- The commands waiting, first in, first out. -/
  pending : List Instr
deriving DecidableEq, Repr

/-- No command stops the machine with a fault: the manual gives every command an effect in every state (log entry 38).
Safe: nothing is cut off. -/
inductive Fault where
deriving DecidableEq, Repr

/-- Why a command is refused. -/
inductive Refusal where
  /-- Raised by no arm now: a command whose meaning is not written yet. Safe: nothing is claimed of it. -/
  | notModelled (mnemonic : String)
deriving DecidableEq, Repr

/-! ## After reset -/

/-- The Bus Controller after any reset (R21). -/
def Bus.afterReset : Bus where
  queue := []
  sending := none
  offers := 0
  rx := []
  rxPhase := .off
  ack := false
  resetDue := false
  failures := 0
  mute := false
  hold := false
  drivePull := false
  breachPull := false
  sensedLow := false
  filter := 0

/-- The roster while held in reset: every entry absent (R29); the own entry is written when the straps are sampled. -/
def Roster.afterReset : Roster where
  entries := List.replicate 32 none
  joinOrder := 0
  joinDue := none

/-- The Job Store after any reset (R35). -/
def JobStore.afterReset : JobStore where
  state := .held
  remembered := .armed
  record := none
  assembly := none
  refusal := none
  halfLeft := 0
  halfRight := 0
  finishing := false

/-- The Trace Generator after any reset (R54). -/
def Generator.afterReset : Generator where
  phase := .quiet
  current := none
  face := 0
  row := 0
  col := 0
  back := false
  nextSeq := 1
  due := []
  tableArrived := false
  following := false
  acc := 0
  last := none
  exitPoint := none
  passEndNoted := false

/-- The Pacer after any reset and at arming (R74). -/
def Pacer.afterReset : Pacer where
  phase := .off
  enrolTimer := none
  pass := 0
  cls := 0
  emitted := 0
  lag := []
  tailTimer := none
  tailExpired := false
  decision := none
  finishDue := false
  restarted := []

/-- The Trace Store after any reset, at arming and at an ABORT (R92, R93). -/
def TraceStore.afterReset : TraceStore where
  state := .empty
  records := []
  cls := 0
  faces := 0
  cursor := none

/-- The Path Queue after any reset and at arming (R104). -/
def PathQueue.afterReset : PathQueue where
  free := 240
  posted := []
  issued := []
  expected := 1
  released := 0
  lastPass := 0
  inPass := false
  creditTimer := none
  freeAtOffer := 240

/-- The Cut Map after any reset and at arming: every cell is the after-reset cell (R136). -/
def CutMap.afterReset : CutMap where
  cells := []
  failed := none
  sweeping := false
  progress := 0
  sweepTimer := none

/-- Tallies of nothing (R150). -/
def Tallies.zero : Tallies where
  cut := 0
  air := 0
  gap := 0
  broken := false

/-- The Pass Sequencer after any reset (R150). -/
def Sequencer.afterReset : Sequencer where
  index := some 0
  counter := 0
  rep := 0
  floor := 0
  openPass := none
  resting := false
  running := Tallies.zero
  reported := Tallies.zero
  completed := 0
  phase := .none

/-- The Motion Port after any reset (R164). -/
def Motion.afterReset : Motion where
  outstanding := []
  nextTag := 0
  reference := none
  refArrived := false
  halt := .moving
  held := []
  waiting := []
  portLift := none
  closing := none
  spindle := .off
  restNotice := false
  override := .p100
  highTimer := none
  lowTimer := none
  stallTimer := none
  faultStanding := false
  faultCode := 0

/-- The Neighbour Guard after any reset, with the carriage at x (R176): the occupied interval with half-widths 0. -/
def Guard.afterReset (x : Int) : Guard where
  claim := ⟨x, x⟩
  announce := none
  announceSent := false
  phase := .none
  side := .left
  atCheck := none
  passed := none
  settleTimer := none
  heard := false
  reply := none
  waitTimer := none
  waitExpired := false
  reachTimer := none
  reports := 0
  left := ⟨none, none⟩
  right := ⟨none, none⟩
  leftArmed := true
  rightArmed := true

/-- The Condition Unit after any reset (R187, R188, R190). -/
def ConditionUnit.afterReset : ConditionUnit where
  set := 0
  risen := none
  inflight := none
  counters := List.replicate 15 0

/-- The strap values while none has been sampled yet (log entry 4). -/
def Straps.unsampled : Straps where
  number := 0
  role := .tracer
  rail := 0
  slot := 0
  rate := .k250
  courtesy := false
  selfCheck := true

/-- The inputs before anything has been read from them (log entry 5). -/
def Inputs.atPowerUp : Inputs where
  x := 0
  y := 0
  angle := 0
  load := 0
  stall := false
  driveFault := none
  lineLow := false
  lineAhead := []

/-- The machine right after reset: held in reset (R22), every block at its after-reset value, no command waiting. -/
def State.reset : State where
  straps := Straps.unsampled
  inputs := Inputs.atPowerUp
  now := 0
  seed := 0
  selfTest := none
  bus := Bus.afterReset
  roster := Roster.afterReset
  job := JobStore.afterReset
  gen := Generator.afterReset
  pacer := Pacer.afterReset
  store := TraceStore.afterReset
  pq := PathQueue.afterReset
  map := CutMap.afterReset
  seq := Sequencer.afterReset
  motion := Motion.afterReset
  guard := Guard.afterReset 0
  cond := ConditionUnit.afterReset
  pending := []

end Sys2Proof.Machine
end

