-- ==== Sys2Proof/Machine/Setters.lean ====
section
/-! DEFINITION. One setter per field of State. Every operation changes the state through these, so that what an
operation leaves unchanged is read off its setters (Sys2Proof/Laws/State.lean). -/

namespace Sys2Proof.Machine

/-- s with its straps replaced. -/
def State.setStraps (s : State) (x : Straps) : State := { s with straps := x }

/-- s with its inputs replaced. -/
def State.setInputs (s : State) (x : Inputs) : State := { s with inputs := x }

/-- s with its now replaced. -/
def State.setNow (s : State) (x : Nat) : State := { s with now := x }

/-- s with its seed replaced. -/
def State.setSeed (s : State) (x : Nat) : State := { s with seed := x }

/-- s with its selfTest replaced. -/
def State.setSelfTest (s : State) (x : Option Nat) : State := { s with selfTest := x }

/-- s with its bus replaced. -/
def State.setBus (s : State) (x : Bus) : State := { s with bus := x }

/-- s with its roster replaced. -/
def State.setRoster (s : State) (x : Roster) : State := { s with roster := x }

/-- s with its job replaced. -/
def State.setJob (s : State) (x : JobStore) : State := { s with job := x }

/-- s with its gen replaced. -/
def State.setGen (s : State) (x : Generator) : State := { s with gen := x }

/-- s with its pacer replaced. -/
def State.setPacer (s : State) (x : Pacer) : State := { s with pacer := x }

/-- s with its store replaced. -/
def State.setStore (s : State) (x : TraceStore) : State := { s with store := x }

/-- s with its pq replaced. -/
def State.setPq (s : State) (x : PathQueue) : State := { s with pq := x }

/-- s with its map replaced. -/
def State.setMap (s : State) (x : CutMap) : State := { s with map := x }

/-- s with its seq replaced. -/
def State.setSeq (s : State) (x : Sequencer) : State := { s with seq := x }

/-- s with its motion replaced. -/
def State.setMotion (s : State) (x : Motion) : State := { s with motion := x }

/-- s with its guard replaced. -/
def State.setGuard (s : State) (x : Guard) : State := { s with guard := x }

/-- s with its cond replaced. -/
def State.setCond (s : State) (x : ConditionUnit) : State := { s with cond := x }

/-- s with its pending replaced. -/
def State.setPending (s : State) (x : List Instr) : State := { s with pending := x }

end Sys2Proof.Machine
end

