-- ==== Sys2Proof/Machine/Operands.lean ====
section
/-! DEFINITION. Reading and writing frame fields: byte order, lengths, the check byte, the frame kinds, and the codes
of section 13.6. Pure functions of bytes and values. -/

namespace Sys2Proof.Machine

open Sys2Proof

/-! ## Bytes, in the order of section 1.6.3 -/

/-- The byte of the low eight bits of n. -/
def byteOf (n : Nat) : Byte := BitVec.ofNat 8 n

/-- The byte at offset k of a payload; 0 beyond its end, which no reader of a checked length meets. -/
def byteAt (l : List Byte) (k : Nat) : Nat := (l.getD k 0).toNat

/-- A 2-byte unsigned field at offset k, most significant byte first. -/
def u16At (l : List Byte) (k : Nat) : Nat := byteAt l k * 256 + byteAt l (k + 1)

/-- A 3-byte unsigned field at offset k. -/
def u24At (l : List Byte) (k : Nat) : Nat := byteAt l k * 65536 + u16At l (k + 1)

/-- A 3-byte two's complement length at offset k (section 1.6.1). -/
def lengthAt (l : List Byte) (k : Nat) : Int :=
  if u24At l k < 8388608 then (u24At l k : Int) else (u24At l k : Int) - 16777216

/-- Two bytes of n, most significant first. -/
def put16 (n : Nat) : List Byte := [byteOf (n / 256), byteOf n]

/-- Three bytes of n, most significant first. -/
def put24 (n : Nat) : List Byte := byteOf (n / 65536) :: put16 n

/-- A length as a 3-byte field: two's complement in its range, else a free value (section 1.6.1; log entry 10). -/
def putLength (i : Int) : List Byte :=
  if -8388608 ≤ i ∧ i ≤ 8388607 then put24 (i % 16777216).toNat
  else put24 (Config.openLength i).toNat

/-- A yes/no field (section 13.6). -/
def putFlag (b : Bool) : Byte := if b then 1 else 0

/-- The value of a yes/no byte: no 0, yes 1, any other a free value (section 13.6; log entry 11). -/
def flagOf (n : Nat) : Bool := if n = 0 then false else if n = 1 then true else Config.openFlag (byteOf n)

/-- The value of a stepover class byte: 0 to 3, any other a free class (log entry 11). -/
def classOf (n : Nat) : Nat := if n < 4 then n else (Config.openClass (byteOf n)).toNat

/-- A length held to the 3-byte range: the nearer end when it lies outside (R55, R124, R127). -/
def saturate (i : Int) : Int := max (-8388608) (min i 8388607)

/-! ## Frame kinds (R2) -/

/-- The class of a kind (R2). -/
def Kind.cls : Kind → Nat
  | .alert => 0
  | .reach => 1
  | .start => 2
  | .abort => 2
  | .excuse => 2
  | .resume => 2
  | .reset => 2
  | .clear => 2
  | .finish => 2
  | .credit => 3
  | .trace => 4
  | .job => 5
  | .join => 6
  | .query => 7
  | .reply => 7

/-- The kind code (R2). -/
def Kind.code : Kind → Nat
  | .alert => 1
  | .reach => 2
  | .start => 3
  | .abort => 4
  | .excuse => 5
  | .resume => 6
  | .reset => 7
  | .clear => 8
  | .finish => 9
  | .credit => 10
  | .trace => 11
  | .job => 12
  | .join => 13
  | .query => 14
  | .reply => 15

/-- The kind of a kind byte; none when the code is none of the table's or the flags field is not zero (R2). -/
def kindOf : Nat → Option Kind
  | 1 => some .alert
  | 2 => some .reach
  | 3 => some .start
  | 4 => some .abort
  | 5 => some .excuse
  | 6 => some .resume
  | 7 => some .reset
  | 8 => some .clear
  | 9 => some .finish
  | 10 => some .credit
  | 11 => some .trace
  | 12 => some .job
  | 13 => some .join
  | 14 => some .query
  | 15 => some .reply
  | _ => none

/-- The payload lengths a kind allows (R2). -/
def Kind.allows (k : Kind) (n : Nat) : Bool :=
  match k with
  | .alert => n == 8
  | .reach => n == 15
  | .start => n == 2
  | .abort => n == 2
  | .excuse => n == 3
  | .resume => n == 2
  | .reset => n == 0
  | .clear => n == 6
  | .finish => n == 2
  | .credit => n == 18
  | .trace => n == 18
  | .job => decide (4 ≤ n ∧ n ≤ 32)
  | .join => n == 8
  | .query => decide (n ≤ 4)
  | .reply => decide (1 ≤ n ∧ n ≤ 32)

/-- The kinds that hold a report place of their own; the others hold general places (R13). -/
def Kind.isReport : Kind → Bool
  | .reach => true
  | .credit => true
  | .alert => true
  | _ => false

/-! ## The check byte (R3, section 13.8) -/

/-- One step of the code: shifted left, with 0x2F combined in when the bit shifted out was 1. -/
def checkBit (c : Byte) : Byte := if c.msb then (c <<< 1) ^^^ 0x2F#8 else c <<< 1

/-- The code after one byte: combined by exclusive-or, then eight steps. -/
def checkStep (c b : Byte) : Byte :=
  checkBit (checkBit (checkBit (checkBit (checkBit (checkBit (checkBit (checkBit (c ^^^ b))))))))

/-- The check code over the covered bytes, from the value 255. -/
def checkByte (bytes : List Byte) : Byte := bytes.foldl checkStep 255#8

/-! ## Whole frames (R1) -/

/-- The bytes of a frame before its check byte. -/
def frameHead (src : Nat) (k : Kind) (dest : Byte) (payload : List Byte) : List Byte :=
  byteOf (k.cls * 32 + src) :: byteOf k.code :: dest :: byteOf payload.length :: payload

/-- The bytes a station puts on the wire for a frame. -/
def wireBytes (src : Nat) (k : Kind) (dest : Byte) (payload : List Byte) : List Byte :=
  frameHead src k dest payload ++ [checkByte (frameHead src k dest payload)]

/-- The bytes of a frame in transmission from the station of number src. -/
def Sending.wire (t : Sending) (src : Nat) : List Byte :=
  wireBytes src t.frame.kind t.frame.dest t.frame.payload

/-- The frame that bytes read from the wire make, when they are whole, well-formed and of good check (R2, R3, R7). -/
def readFrame (bytes : List Byte) : Option Frame :=
  match bytes with
  | arb :: kb :: dest :: len :: rest =>
    if len.toNat ≤ 32 ∧ rest.length = len.toNat + 1 then
      match kindOf kb.toNat with
      | some k =>
        if arb.toNat / 32 = k.cls ∧ k.allows len.toNat = true
            ∧ rest.getD len.toNat 0 = checkByte (arb :: kb :: dest :: len :: rest.take len.toNat) then
          some ⟨k, arb.toNat % 32, dest, rest.take len.toNat⟩
        else none
      | none => none
    else none
  | _ => none

/-! ## Codes used in frames (section 13.6) -/

/-- The station state codes. A station held in reset sends nothing; it is given STARTING's code. -/
def StationState.code : StationState → Nat
  | .held => 0
  | .starting => 0
  | .ready => 1
  | .idle => 2
  | .loading => 3
  | .armed => 4
  | .running => 5
  | .done => 6
  | .stopped => 7
  | .suspended => 8
  | .excused => 9
  | .failed => 10

/-- The station state of a code; a code outside 1 to 10 is read as STARTING, a state outside any job (log entry 11). -/
def stateOf : Nat → StationState
  | 1 => .ready
  | 2 => .idle
  | 3 => .loading
  | 4 => .armed
  | 5 => .running
  | 6 => .done
  | 7 => .stopped
  | 8 => .suspended
  | 9 => .excused
  | 10 => .failed
  | _ => .starting

/-- The record kind codes. -/
def RecordKind.code : RecordKind → Nat
  | .surface => 1
  | .stroke => 2
  | .lift => 3
  | .passStart => 4
  | .passEnd => 5

/-- The record kind of a code. -/
def recordKindOf : Nat → Option RecordKind
  | 1 => some .surface
  | 2 => some .stroke
  | 3 => some .lift
  | 4 => some .passStart
  | 5 => some .passEnd
  | _ => none

/-- The role codes. -/
def roleCode : Role → Nat
  | .tracer => 0
  | .carver => 1

/-- The refusal codes. -/
def JobCode.code : JobCode → Nat
  | .busy => 1
  | .order => 2
  | .length => 3
  | .wrongRole => 4
  | .badScale => 5
  | .badPlan => 6
  | .badWindow => 7
  | .badFaces => 8
  | .noTracer => 9

/-- The step kind codes (section 13.7). -/
def StepKind.code : StepKind → Nat
  | .rough => 0
  | .finish => 1
  | .letter => 2

/-- The store state codes (section 13.7). -/
def StoreState.code : StoreState → Nat
  | .empty => 0
  | .recording => 1
  | .complete => 2
  | .overflowed => 3

/-- The clamped list's weights in REPLY section 0 (section 13.7). -/
def ClampName.weight : ClampName → Nat
  | .spacing => 128
  | .gap => 64
  | .cut => 32
  | .plunge => 16
  | .rapid => 8
  | .lift => 4
  | .clearance => 2
  | .letterLimit => 1

/-! ## Trace records on the wire (section 13.6) -/

/-- The 18 payload bytes of a TRACE. -/
def tracePayload (r : TraceRecord) : List Byte :=
  put16 r.seq.toNat ++ [byteOf r.pass, byteOf r.kind.code] ++ putLength r.u ++ putLength r.v ++ putLength r.depth
    ++ put16 r.angle.toNat ++ put16 r.width ++ [byteOf (r.cls * 16 + r.faces)]

/-- The record of a TRACE payload; none when its kind is outside 1 to 5. -/
def readTrace (p : List Byte) : Option TraceRecord :=
  match recordKindOf (byteAt p 3) with
  | some k =>
    some ⟨BitVec.ofNat 16 (u16At p 0), byteAt p 2, k, lengthAt p 4, lengthAt p 7, lengthAt p 10,
      BitVec.ofNat 16 (u16At p 13), u16At p 15, byteAt p 17 / 16, byteAt p 17 % 16⟩
  | none => none

end Sys2Proof.Machine
end

