-- ==== Sys2Proof/Machine/Transform.lean ====
section
/-! DEFINITION. The Transform (chapter 8): exact arithmetic from an entry of the Path Queue to a candidate setpoint, as
functions of the entry, the job record, the floor, the step kind and the reference setpoint (R119). -/

namespace Sys2Proof.Machine

open Sys2Proof

/-- The quotient n / d rounded half away from zero (RHA, section 1.6.5). -/
def rha (n : Int) (d : Nat) : Int :=
  let q : Int := ((2 * n.natAbs + d) / (2 * d) : Nat)
  if n < 0 then -q else q

/-- The quotient n / d rounded toward minus infinity (FLOOR, section 1.6.5). -/
def floorDiv (n : Int) (d : Nat) : Int := n.fdiv (d : Int)

/-- A value was saturated: it lies outside the length range (R124, R127, R129). -/
def clips (i : Int) : Bool := saturate i != i

/-- x before saturation (R123). -/
def CarverJob.rawX (c : CarverJob) (u : Int) : Int :=
  if c.mirror then c.xOff - rha (u * c.snum) c.sden else c.xOff + rha (u * c.snum) c.sden

/-- y before saturation (R123). -/
def CarverJob.rawY (c : CarverJob) (v : Int) : Int := c.yOff + rha (v * c.snum) c.sden

/-- The turntable angle a′ (R126). -/
def CarverJob.turn (c : CarverJob) (a : Angle) : Angle := if c.reversed then c.phase - a else c.phase + a

/-- The surface depth Ds before saturation (R127). -/
def CarverJob.rawSurface (c : CarverJob) (dt : Int) : Int := floorDiv (dt * c.snum) c.sden + c.dOff

/-- The letter depth Dv before the cap (R128). -/
def CarverJob.rawLetter (c : CarverJob) (w : Nat) : Int :=
  floorDiv ((w : Int) * c.snum * c.letterFactor) (c.sden * 256)

/-- The letter depth Dv after the cap (R129). -/
def CarverJob.letter (c : CarverJob) (w : Nat) : Int := min (c.rawLetter w) c.letterLimit

/-- The entry is cut to its V-depth: a STROKE in a LETTER step (R128). -/
def isLetterStroke (kind : StepKind) (e : Entry) : Bool := e.kind == .stroke && kind == .letter

/-- The target depth Dc before its last saturation: Ds, or Ds + Dv for a letter stroke (R127, R129). -/
def rawTarget (c : CarverJob) (kind : StepKind) (e : Entry) : Int :=
  if isLetterStroke kind e then saturate (c.rawSurface e.depth) + c.letter e.width
  else saturate (c.rawSurface e.depth)

/-- The target depth Dc (R129). -/
def targetDepth (c : CarverJob) (kind : StepKind) (e : Entry) : Int := saturate (rawTarget c kind e)

/-- The commanded depth Dcmd = min(Dc, F, Dmax) (R130). -/
def commandedDepth (c : CarverJob) (floor : Int) (kind : StepKind) (e : Entry) : Int :=
  min (min (targetDepth c kind e) floor) c.dMax

/-- No limit mark. -/
def Marks.none : Marks := ⟨false, false, false, false⟩

/-- A lift candidate of an entry (R120). -/
def liftCandidate (x y level : Int) (angle : Angle) (traced : Option Angle) (marks : Marks) : Setpoint :=
  { x, y, depth := level, angle, feed := .lift, origin := .entry, traced, cutting := false, air := false
    cell := none, marks }

/-- The lateral range clip mark of an entry (R124). -/
def lateralClip (c : CarverJob) (e : Entry) : Bool := clips (c.rawX e.u) || clips (c.rawY e.v)

/-- The saturated lateral position of an entry (R123, R124). -/
def lateral (c : CarverJob) (e : Entry) : Int × Int := (saturate (c.rawX e.u), saturate (c.rawY e.v))

/-- A coordinate clamped into its bounds (R125). -/
def clampInto (lo hi i : Int) : Int := max lo (min i hi)

/-- A point lies within the travel window (R125, R63). -/
def JobRecord.inTravel (r : JobRecord) (x y : Int) : Bool :=
  decide (r.xMin ≤ x ∧ x ≤ r.xMax ∧ r.yMin ≤ y ∧ y ≤ r.yMax)

/-- An entry out of travel: a lift to the clamped point (R125). -/
def travelLift (r : JobRecord) (c : CarverJob) (e : Entry) : Setpoint :=
  liftCandidate (clampInto r.xMin r.xMax (lateral c e).1) (clampInto r.yMin r.yMax (lateral c e).2) r.clearance
    (c.turn e.angle) (some e.angle) ⟨lateralClip c e, true, false, false⟩

/-- The limit marks of an entry taken through the depth steps (R133). -/
def depthMarks (c : CarverJob) (kind : StepKind) (e : Entry) : Marks where
  rangeClip := lateralClip c e || clips (c.rawSurface e.depth) || clips (rawTarget c kind e)
  outOfTravel := false
  letterCap := isLetterStroke kind e && decide (c.letterLimit < c.rawLetter e.width)
  envelopeClip := decide (c.dMax < targetDepth c kind e)

/-- A SURFACE or STROKE entry within travel (R127 to R130): cutting, or, above the clearance level, a lift at its own point
for which no mark is set (R130, R133). Where only the floor is so shallow, and not the target, the lift carries no mark either:
no range clip or letter cap set on the way, and no envelope clip where Dc is deeper than Dmax (DESIGN CHOICE, log entry 60). -/
def cutOrLift (r : JobRecord) (c : CarverJob) (floor : Int) (kind : StepKind) (e : Entry) : Setpoint :=
  let depth := commandedDepth c floor kind e
  let (x, y) := lateral c e
  if depth < r.clearance then
    liftCandidate x y r.clearance (c.turn e.angle) (some e.angle) Marks.none
  else
    { x, y, depth, angle := c.turn e.angle, feed := .cut, origin := .entry, traced := some e.angle, cutting := true
      air := false, cell := none, marks := depthMarks c kind e }

/-- A LIFT entry within travel (R131). -/
def plainLift (r : JobRecord) (c : CarverJob) (e : Entry) : Setpoint :=
  liftCandidate (lateral c e).1 (lateral c e).2 r.clearance (c.turn e.angle) (some e.angle)
    ⟨lateralClip c e, false, false, false⟩

/-- A GAP_LIFT entry: straight up at the reference setpoint (R132). -/
def gapLift (r : JobRecord) (ref : Setpoint) : Setpoint :=
  liftCandidate ref.x ref.y r.clearance ref.angle ref.traced Marks.none

/-- The candidate of an entry (R121). Markers are never transformed (R111); they are given the GAP_LIFT's lift. -/
def transform (r : JobRecord) (c : CarverJob) (floor : Int) (kind : StepKind) (ref : Setpoint) (e : Entry) : Setpoint :=
  let inside := r.inTravel (lateral c e).1 (lateral c e).2
  match e.kind with
  | .surface => if inside then cutOrLift r c floor kind e else travelLift r c e
  | .stroke => if inside then cutOrLift r c floor kind e else travelLift r c e
  | .lift => if inside then plainLift r c e else travelLift r c e
  | .gapLift => gapLift r ref
  | .passStart => gapLift r ref
  | .passEnd => gapLift r ref
  | .endSynth => gapLift r ref

end Sys2Proof.Machine
end

