-- ==== Sys2Proof/Machine/CutMap.lean ====
section
/-! DEFINITION. The Cut Map (chapter 9): the cells as a sparse memory in one canonical form, indexing, the air test, the
updates at arrival and at a gap, and the sweep. -/

namespace Sys2Proof.Machine

open Sys2Proof

/-! ## The cell memory (R136) -/

/-- The cell record after reset and at arming (R136): what an unlisted cell reads as. -/
def Cell.blank : Cell := ⟨0, none, false, false⟩

/-- The cells listed by rising cell number, none of them blank. -/
abbrev CutMap.wf (m : CutMap) : Prop :=
  m.cells.Pairwise (fun a b => a.1 < b.1) ∧ ∀ p ∈ m.cells, p.2 ≠ Cell.blank

/-- The record listed for cell k, blank when it is not listed. -/
def lookCell : List (Nat × Cell) → Nat → Cell
  | [], _ => Cell.blank
  | (j, c) :: rest, k => if j = k then c else lookCell rest k

/-- Cell k set to c in canonical form: a blank record is not listed. -/
def putCell : List (Nat × Cell) → Nat → Cell → List (Nat × Cell)
  | [], k, c => if c = Cell.blank then [] else [(k, c)]
  | (j, d) :: rest, k, c =>
    if k < j then (if c = Cell.blank then (j, d) :: rest else (k, c) :: (j, d) :: rest)
    else if k = j then (if c = Cell.blank then rest else (k, c) :: rest)
    else (j, d) :: putCell rest k c

/-- The cell record of cell k (R136). -/
def CutMap.read (m : CutMap) (k : Nat) : Cell := lookCell m.cells k

/-- Cell k written. -/
def CutMap.write (m : CutMap) (k : Nat) (c : Cell) : CutMap := { m with cells := putCell m.cells k c }

/-- Every cell visited by f, which leaves a blank cell blank; the list stays canonical. -/
def mapCells (f : Nat → Cell → Cell) : List (Nat × Cell) → List (Nat × Cell)
  | [] => []
  | (k, c) :: rest => if f k c = Cell.blank then mapCells f rest else (k, f k c) :: mapCells f rest

/-! ## Faces and cells (R138, R139) -/

/-- The place of an angle in a face list, from i on. -/
def faceFrom (a : Angle) : List Angle → Nat → Option Nat
  | [], _ => none
  | b :: rest, i => if b = a then some i else faceFrom a rest (i + 1)

/-- The face of a traced angle: its position in the face table, or none (R138). -/
def CarverJob.faceOf (c : CarverJob) (a : Angle) : Option Nat := faceFrom a c.faces 0

/-- The column or row of a coordinate (R139). -/
def CarverJob.cellCoord (c : CarverJob) (i base : Int) : Int := floorDiv (i - base) (2 ^ c.shift)

/-- The number of a cell: face × 4096 + row × 64 + column. -/
def cellNumber (face row col : Nat) : Nat := face * 4096 + row * 64 + col

/-- The cell a position is placed in, or none when it is untracked (R138, R139). -/
def CarverJob.cellOf (c : CarverJob) (x y : Int) (traced : Option Angle) : Option Nat :=
  match traced.bind c.faceOf with
  | some face =>
    let col := c.cellCoord x c.baseX
    let row := c.cellCoord y c.baseY
    if 0 ≤ col ∧ col < 64 ∧ 0 ≤ row ∧ row < 64 then some (cellNumber face row.toNat col.toNat) else none
  | none => none

/-! ## The air test (R140, R141) -/

/-- A cutting candidate is air: tracked, and not deeper than its cell's cleared depth (R140). -/
def CutMap.isAir (m : CutMap) (cell : Option Nat) (depth : Int) : Bool :=
  match cell with
  | some k => decide (depth ≤ ((m.read k).cleared : Int))
  | none => false

/-- The feed class of a cutting candidate (R141). -/
def feedOf (air : Bool) (refDepth clearance : Int) : FeedClass :=
  if air then .rapid else if refDepth = clearance then .plunge else .cut

/-- A candidate after the air test: its cell, its class and its feed class; a lift is not tested (R140, R141). -/
def CutMap.airTest (m : CutMap) (r : JobRecord) (c : CarverJob) (ref : Setpoint) (sp : Setpoint) : Setpoint :=
  if sp.cutting then
    let cell := c.cellOf sp.x sp.y sp.traced
    let air := m.isAir cell sp.depth
    { sp with cell, air, feed := feedOf air ref.depth r.clearance }
  else sp

/-! ## Updates (R143, R144) -/

/-- The cell after the arrival of a cutting setpoint of depth d (R143). -/
def Cell.arrive (c : Cell) (d : Int) : Cell :=
  { c with
    minimum := match c.minimum with
      | some m => some (min m d)
      | none => some d
    touched := true }

/-- The map after the arrival of a setpoint: a tracked cutting candidate updates its cell (R143). -/
def CutMap.arrive (m : CutMap) (sp : Setpoint) : CutMap :=
  if sp.cutting then
    match sp.cell with
    | some k => m.write k ((m.read k).arrive sp.depth)
    | none => m
  else m

/-- A cell gap-marked, where there is one (R144). -/
def CutMap.gapMark (m : CutMap) (cell : Option Nat) : CutMap :=
  match cell with
  | some k => m.write k { m.read k with gapMarked := true }
  | none => m

/-- The cell returned to: of the entry next behind the GAP_LIFT, when it is a SURFACE or STROKE record (R144). -/
def CarverJob.returnCell (c : CarverJob) (behind : List Entry) : Option Nat :=
  match behind with
  | e :: _ =>
    if (e.kind = .surface ∨ e.kind = .stroke) ∧ e.synthetic = false then
      c.cellOf (lateral c e).1 (lateral c e).2 (some e.angle)
    else none
  | [] => none

/-! ## The sweep (R145 to R147) -/

/-- A cell after the sweep's visit (R145). -/
def Cell.sweep (c : Cell) : Cell :=
  match c.minimum with
  | some m =>
    if c.touched && !c.gapMarked then ⟨(max (c.cleared : Int) m).toNat, none, false, false⟩
    else ⟨c.cleared, none, false, false⟩
  | none => ⟨c.cleared, none, false, false⟩

/-- The sweep has visited cell k when it has reached n cells: the order of the visits is open (R145; log entry 14). -/
def visited (n k : Nat) : Bool := if h : k < 32768 then decide ((Config.sweepOrder ⟨k, h⟩).val < n) else false

/-- The sweep begins (R145): 32,768 cells of 100 ns each, 33 ticks (R146). -/
def CutMap.startSweep (m : CutMap) : CutMap := { m with sweeping := true, progress := 0, sweepTimer := some 33 }

/-- The whole ticks that a sweep has run (R146). -/
def CutMap.sweptTicks (m : CutMap) : Nat := 33 - m.sweepTimer.getD 0

/-- The cells visited after the whole ticks a sweep has run and, by free-value number n, a part of the present one: 100 ns
each, 1,000 in a tick (R146; log entry 14). -/
def CutMap.pace (m : CutMap) (n : Nat) : Nat := min 32768 (1000 * m.sweptTicks + Config.sweepInTick n % 1000)

/-- How far a running sweep has come when it is looked at, by free-value number n: never less than before
(R146; log entry 14). -/
def CutMap.reach (m : CutMap) (n : Nat) : CutMap :=
  if m.sweeping then { m with progress := max m.progress (m.pace n) } else m

/-- The sweep ends: every cell has been visited (R145). -/
def CutMap.endSweep (m : CutMap) : CutMap :=
  { m with cells := mapCells (fun _ c => c.sweep) m.cells, sweeping := false, progress := 0, sweepTimer := none }

/-- A sweep abandoned: the cells visited keep what the sweep gave them, the others keep theirs (R147). -/
def CutMap.abandonSweep (m : CutMap) : CutMap :=
  if m.sweeping then
    { m with
      cells := mapCells (fun k c => if visited m.progress k then c.sweep else c) m.cells
      sweeping := false, progress := 0, sweepTimer := none }
  else m

/-- The record of cell k as a QUERY finds it (R146, R148): during a sweep, after its visit or before it; of a failed
memory, what the failed test left, a free value (R26; log entry 13). -/
def CutMap.look (m : CutMap) (k : Nat) : Cell :=
  match m.failed with
  | some n =>
    ⟨(Config.failedCleared n k).toNat, (Config.failedMinimum n k).map BitVec.toInt, (Config.failedFlags n k).1,
      (Config.failedFlags n k).2⟩
  | none => if m.sweeping && visited m.progress k then (m.read k).sweep else m.read k

end Sys2Proof.Machine
end

