-- ==== Sys2Proof/Machine/TransmitQueue.lean ====
section
/-! DEFINITION. The transmit queue (R13 to R16): its places, its order, and the offers that fill them, as operations on
the Bus Controller alone. -/

namespace Sys2Proof.Machine

/-- a stands before b in the order of R13: lower class first, then the older place. -/
def TxFrame.before (a b : TxFrame) : Bool :=
  decide (a.kind.cls < b.kind.cls ∨ (a.kind.cls = b.kind.cls ∧ a.age < b.age))

/-- f put at its place in the order of R13. -/
def place (f : TxFrame) : List TxFrame → List TxFrame
  | [] => [f]
  | g :: rest => if f.before g then f :: g :: rest else g :: place f rest

/-- The held places: the queue and the frame in transmission (R13). -/
def Bus.places (b : Bus) : List TxFrame :=
  match b.sending with
  | some t => t.frame :: b.queue
  | none => b.queue

/-- The number of general places held (R13). -/
def Bus.generalHeld (b : Bus) : Nat := (b.places.filter fun f => !f.kind.isReport).length

/-- The number of TRACE frames held (R14). -/
def Bus.tracesHeld (b : Bus) : Nat := (b.places.filter fun f => f.kind == .trace).length

/-- A general place is free for a kind other than TRACE; none is given in MUTE (R14, R18). -/
def Bus.hasRoom (b : Bus) : Bool := !b.mute && decide (b.generalHeld < 5)

/-- Room for a TRACE: a general place free and fewer than 4 TRACE frames held (R14). -/
def Bus.hasTraceRoom (b : Bus) : Bool := b.hasRoom && decide (b.tracesHeld < 4)

/-- A frame put in a place now. -/
def Bus.fill (b : Bus) (k : Kind) (dest : Byte) (payload : List Byte) : Bus :=
  { b with queue := place ⟨k, dest, payload, b.offers⟩ b.queue, offers := b.offers + 1 }

/-- A report offered into its place: the place is filled when it is free, and keeps its age when it is held (R16). -/
def Bus.fillReport (b : Bus) (k : Kind) (dest : Byte) : Bus :=
  if b.queue.any fun f => f.kind == k then b else b.fill k dest []

/-- A report offered by its owner (R16): in MUTE it is discarded (R18); a place in transmission is marked due again. -/
def Bus.offerReport (b : Bus) (k : Kind) (dest : Byte) : Bus :=
  if b.mute then b
  else
    match b.sending with
    | some t =>
      if t.frame.kind = k then
        match t.again with
        | some _ => b
        | none => { b with sending := some { t with again := some ⟨b.offers, dest⟩ }, offers := b.offers + 1 }
      else b.fillReport k dest
    | none => b.fillReport k dest

/-- The frame in transmission back at its place, its due-again mark dropped (R13, R16): arbitration loss or failure. -/
def Bus.returnFrame (b : Bus) : Bus :=
  match b.sending with
  | some t =>
    let f := if t.frame.kind.isReport then { t.frame with payload := [] } else t.frame
    { b with queue := place f b.queue, sending := none }
  | none => b

/-- The frame in transmission gone, heard or unheard (R10); a report place marked due again stays held (R16). -/
def Bus.dropFrame (b : Bus) : Bus :=
  match b.sending with
  | some t =>
    match t.again with
    | some g => { b with queue := place ⟨t.frame.kind, g.dest, [], g.age⟩ b.queue, sending := none }
    | none => { b with sending := none }
  | none => b

/-- The TRACE frames not in transmission withdrawn (R15). -/
def Bus.withdrawTraces (b : Bus) : Bus := { b with queue := b.queue.filter fun f => f.kind != .trace }

/-- A JOIN of the station's own is held and not in transmission (R31). -/
def Bus.joinQueued (b : Bus) : Bool := b.queue.any fun f => f.kind == .join

/-- The station pulls the bed stop line (R19). -/
def Bus.pulls (b : Bus) : Bool := b.drivePull || b.breachPull

end Sys2Proof.Machine
end

