-- ==== Sys2Proof/Machine/Flags.lean ====
section
/-! DEFINITION. The conditions and counters (chapter 13): raising, clearing and counting. -/

namespace Sys2Proof.Machine

/-- The number of a condition (R187). -/
def Cond.number : Cond → Nat
  | .busMute => 0
  | .duplicateNumber => 1
  | .selfCheckFail => 2
  | .jobRefused => 3
  | .jobDone => 4
  | .noCarvers => 5
  | .carverAbsent => 6
  | .carverSilent => 7
  | .carverRestarted => 8
  | .carverDropped => 9
  | .passLimit => 10
  | .traceSkip => 11
  | .probeOvertravel => 12
  | .storeFull => 13
  | .traceGap => 14
  | .queueOverrun => 15
  | .envelopeClip => 16
  | .outOfTravel => 17
  | .loadRelief => 18
  | .spindleStall => 19
  | .driveFault => 20
  | .neighbourStale => 21
  | .guardWaitLong => 22
  | .guardBreach => 23
  | .bedStop => 24
  | .resumeRefused => 25

/-- Whether a condition alerts (R187). -/
def Cond.alerts : Cond → Bool
  | .selfCheckFail => false
  | .probeOvertravel => false
  | .traceGap => false
  | .envelopeClip => false
  | .outOfTravel => false
  | .loadRelief => false
  | _ => true

/-- Every condition, in the order of the numbers (R187). -/
def Cond.all : List Cond :=
  [.busMute, .duplicateNumber, .selfCheckFail, .jobRefused, .jobDone, .noCarvers, .carverAbsent, .carverSilent,
   .carverRestarted, .carverDropped, .passLimit, .traceSkip, .probeOvertravel, .storeFull, .traceGap, .queueOverrun,
   .envelopeClip, .outOfTravel, .loadRelief, .spindleStall, .driveFault, .neighbourStale, .guardWaitLong, .guardBreach,
   .bedStop, .resumeRefused]

/-- The bit of a condition in the 4-byte set: the lower number takes the more significant bit (section 13.6). -/
def Cond.mask (c : Cond) : BitVec 32 := 1#32 <<< (31 - c.number)

/-- The condition's entry is set. -/
def ConditionUnit.has (u : ConditionUnit) (c : Cond) : Bool := u.set &&& c.mask != 0#32

/-- The order of a counter (R190), from 0. -/
def Counter.index : Counter → Nat
  | .unheardFrames => 0
  | .badCheckFrames => 1
  | .receiveOverruns => 2
  | .transmitFailures => 3
  | .strayControls => 4
  | .strayTraces => 5
  | .staleDuplicates => 6
  | .gapTotal => 7
  | .overruns => 8
  | .rangeClips => 9
  | .outOfTravel => 10
  | .envelopeClips => 11
  | .letterCaps => 12
  | .loadReliefs => 13
  | .droppedReplies => 14

/-- The value of a counter. -/
def ConditionUnit.count (u : ConditionUnit) (c : Counter) : Nat := u.counters.getD c.index 0

/-- A counter that has n added, held at 65,535 (section 1.6.7, R190). -/
def ConditionUnit.countUp (u : ConditionUnit) (c : Counter) (n : Nat) : ConditionUnit :=
  { u with counters := u.counters.set c.index (min 65535 (u.count c + n)) }

/-- One counter counts n. -/
def count (c : Counter) (n : Nat) (s : State) : State := s.setCond (s.cond.countUp c n)

/-- One counter counts one when `p` holds. -/
def countIf (p : Bool) (c : Counter) (s : State) : State := if p then count c 1 s else s

/-- The station can offer frames: it has left STARTING (R25, R27). -/
def State.canOffer (s : State) : Bool := s.job.state != .held && s.job.state != .starting

/-- A report offered by its owner (R16); nothing is offered before the end of STARTING (R25). -/
def offerReport (k : Kind) (dest : Byte) (s : State) : State :=
  if s.canOffer then s.setBus (s.bus.offerReport k dest) else s

/-- A REACH offered to all (R178). -/
def offerReach (s : State) : State := offerReport .reach 255 s

/-- An alerting rise (R188): it becomes the pending first-risen and an ALERT is offered, or it merges. -/
def alertRise (c : Cond) (s : State) : State :=
  match s.cond.risen with
  | none => offerReport .alert 255 (s.setCond { s.cond with risen := some c })
  | some _ => s

/-- A block raises a condition (R187): a set entry stays set; one found clear rises, and alerts when it is of that kind. -/
def raise (c : Cond) (s : State) : State :=
  if s.cond.has c then s
  else
    let s := s.setCond { s.cond with set := s.cond.set ||| c.mask }
    if c.alerts then alertRise c s else s

/-- A condition raised when `p` holds. -/
def raiseIf (p : Bool) (c : Cond) (s : State) : State := if p then raise c s else s

/-- The station's number as a source number (R1). -/
def State.number (s : State) : Nat := s.straps.number.val

/-- A control frame that concerns the station and cannot be taken (R47). -/
def strayControl (s : State) : State := count .strayControls 1 s

end Sys2Proof.Machine
end

