-- ==== Sys2Proof/Machine/Ops.lean ====
section
/-! DEFINITION. Operations several blocks share: the record held, the station state, the load timers (R170), the spindle
(R169), CREDIT offers (R116, R117), and the outputs that are functions of the state (R1, R34, R68, R164, R169). -/

namespace Sys2Proof.Machine

/-! ## What is held -/

/-- The station is strapped as carver. -/
def State.isCarver (s : State) : Bool := s.straps.role == .carver

/-- The station is strapped as tracer. -/
def State.isTracer (s : State) : Bool := s.straps.role == .tracer

/-- The carver's part of the record held. -/
def State.carverJob (s : State) : Option CarverJob :=
  match s.job.record with
  | some r =>
    match r.work with
    | .carver c => some c
    | .tracer _ => none
  | none => none

/-- The tracer's part of the record held. -/
def State.tracerJob (s : State) : Option TracerJob :=
  match s.job.record with
  | some r =>
    match r.work with
    | .tracer t => some t
    | .carver _ => none
  | none => none

/-- The job id of the record held, 0 when none is held (R116, R188). -/
def State.jobId (s : State) : Nat :=
  match s.job.record with
  | some r => r.id
  | none => 0

/-- A job id names the record held. -/
def State.holdsId (s : State) (id : Nat) : Bool :=
  match s.job.record with
  | some r => r.id == id
  | none => false

/-- The state is RUNNING. -/
def State.isRunning (s : State) : Bool := s.job.state == .running

/-- The state is STOPPED. -/
def State.isStopped (s : State) : Bool := s.job.state == .stopped

/-- The station is in a started job: RUNNING or STOPPED. -/
def State.inJob (s : State) : Bool := s.isRunning || s.isStopped

/-! ## Load timers and spindle -/

/-- A timer of `full` ticks that runs exactly while p holds: started when p begins, kept while it stands. -/
def runWhile (p : Bool) (full : Nat) (t : Option Nat) : Option Nat := if p then some (t.getD full) else none

/-- The load is watched: a carver RUNNING with the spindle on (R170). -/
def State.loadWatched (s : State) : Bool := s.isCarver && s.isRunning && s.motion.spindle == .on

/-- The load is above 80%; a standing stall signal counts as above 100% (R170). -/
def Inputs.above80 (i : Inputs) : Bool := i.stall || decide (80 < i.load)

/-- The load is above 100% (R171). -/
def Inputs.above100 (i : Inputs) : Bool := i.stall || decide (100 < i.load)

/-- The load is below 60% (R170). -/
def Inputs.below60 (i : Inputs) : Bool := !i.stall && decide (i.load < 60)

/-- The load timers as the load, the override and the watch now have them (R170, R171). -/
def refreshLoad (s : State) : State :=
  s.setMotion { s.motion with
    highTimer := runWhile (s.loadWatched && s.inputs.above80) 500 s.motion.highTimer
    lowTimer := runWhile (s.loadWatched && s.inputs.below60) 2000 s.motion.lowTimer
    stallTimer := runWhile (s.loadWatched && s.inputs.above100 && s.motion.override == .p25) 5000 s.motion.stallTimer }

/-- The station state changed; the watch on the load follows it (R170). -/
def setStation (st : StationState) (s : State) : State := refreshLoad (s.setJob { s.job with state := st })

/-- The spindle off: a spin-up timer and the load timers stop (R169). -/
def spindleOff (s : State) : State :=
  s.setMotion { s.motion with spindle := .off, highTimer := none, lowTimer := none, stallTimer := none }

/-- The spindle turned on at START and RESUME: 2 s of spin-up, unless the plan is resting; a tracer has none (R169, R164). -/
def spindleOn (s : State) : State :=
  if s.isCarver && !s.motion.restNotice then s.setMotion { s.motion with spindle := .spinningUp 20000 } else s

/-! ## CREDIT offers -/

/-- A CREDIT offered to a station: it restarts the credit timer while the state is RUNNING or STOPPED, and notes the
free count (R117). -/
def offerCreditTo (dest : Byte) (s : State) : State :=
  offerReport .credit dest (s.setPq { s.pq with
    creditTimer := if s.inJob then some 100 else none
    freeAtOffer := s.pq.free })

/-- A CREDIT offered to the tracer of the record held (R116). -/
def offerCredit (s : State) : State :=
  match s.carverJob with
  | some c => offerCreditTo (byteOf c.tracer) s
  | none => s

/-- The free-growth offer: in RUNNING or STOPPED, the free count has grown by 16 or more (R117). -/
def offerOnGrowth (s : State) : State :=
  if s.inJob && decide (s.pq.freeAtOffer + 16 ≤ s.pq.free) then offerCredit s else s

/-! ## Outputs -/

/-- The station pulls the bed stop line; nothing is pulled while held in reset (R19, R22). -/
def pullsLine (s : State) : Bool := s.bus.pulls && s.job.state != .held

/-- The port asserts the drives' stop command: in reset, in STARTING, and while halting (R164, R168, R172, R173). -/
def stopCommand (s : State) : Bool :=
  s.job.state == .held || s.job.state == .starting || s.motion.halt != .moving

/-- The spindle output (R164, R169): it turns while spinning up and on. -/
def spindleOutput (s : State) : Bool := s.motion.spindle != .off

/-- The state lamp (R34). -/
inductive StateLamp where
  | off
  | redSteady
  | redFlashing
  | greenSteady
  | greenFlashing
  | alternating
deriving DecidableEq, Repr

/-- The code lamps (R34): off, or a code from 1 to 3 shown steady or flashing. -/
inductive CodeLamps where
  | off
  | steady (code : Nat)
  | flashing (code : Nat)
deriving DecidableEq, Repr

/-- The self-check result in the own roster entry (R26, R29). -/
def State.selfCheckResult (s : State) : Nat :=
  match s.roster.entries.getD s.number none with
  | some p => p.selfCheck
  | none => 0

/-- The lamps: the first pattern of R34's table whose case holds. -/
def lamps (s : State) : StateLamp × CodeLamps :=
  if s.job.state = .held then (.off, .off)
  else if s.bus.mute then (.redSteady, .steady 3)
  else
    match s.job.state with
    | .held => (.off, .off)
    | .starting =>
      match s.selfTest with
      | some code => (.redSteady, .flashing code)
      | none => (.redSteady, .off)
    | .failed => (.redFlashing, .steady s.selfCheckResult)
    | .stopped => (.alternating, .off)
    | .armed => (.greenFlashing, .off)
    | .running => (.greenFlashing, .off)
    | .suspended => (.greenSteady, .flashing 1)
    | .excused => (.greenSteady, .flashing 2)
    | .ready => (.greenSteady, .off)
    | .idle => (.greenSteady, .off)
    | .loading => (.greenSteady, .off)
    | .done => (.greenSteady, .off)

/-- The levels of the lamps (R34): the state lamp's red and green, and the two code lamps. -/
structure LampLevels where
  red : Bool
  green : Bool
  first : Bool
  second : Bool
deriving DecidableEq, Repr

/-- The state lamp's red and green in the first (`on`) or second half of a cycle (R34). -/
def StateLamp.lit (on : Bool) : StateLamp → Bool × Bool
  | .off => (false, false)
  | .redSteady => (true, false)
  | .redFlashing => (on, false)
  | .greenSteady => (false, true)
  | .greenFlashing => (false, on)
  | .alternating => (on, !on)

/-- The code lamps that show a code: 1 the first alone, 2 the second alone, 3 both (R34). -/
def codeLit (code : Nat) : Bool × Bool := (code == 1 || code == 3, code == 2 || code == 3)

/-- The code lamps, first and second, in the first (`on`) or second half of a cycle (R34). -/
def CodeLamps.lit (on : Bool) : CodeLamps → Bool × Bool
  | .off => (false, false)
  | .steady code => codeLit code
  | .flashing code => if on then codeLit code else (false, false)

/-- The half of the 500 ms cycle the lamps are in: 250 ms on, 250 ms off (R34). Where the cycles begin is open
(DESIGN CHOICE, log entry 28). -/
def flashOn (s : State) : Bool := (s.now + Config.flashOffset) / 2500 % 2 == 0

/-- The lamps as they are lit now (R34). -/
def lampLevels (s : State) : LampLevels where
  red := ((lamps s).1.lit (flashOn s)).1
  green := ((lamps s).1.lit (flashOn s)).2
  first := ((lamps s).2.lit (flashOn s)).1
  second := ((lamps s).2.lit (flashOn s)).2

/-- The bytes of the frame in transmission, if there is one, with the station number of the straps in its arbitration byte
(R1). -/
def sentBytes (s : State) : Option (List Byte) := s.bus.sending.map fun t => t.wire s.number

end Sys2Proof.Machine
end

