-- ==== Sys2Proof/Machine/Guard.lean ====
section
/-! DEFINITION. The Neighbour Guard (chapter 12) and the neighbour lookup (R33): intervals, the check, settle and
conflict, waiting, shrinking, abandoning, and breach. -/

namespace Sys2Proof.Machine

/-! ## Intervals (R177, R180) -/

/-- The smallest interval that contains both. -/
def Interval.hull (a b : Interval) : Interval := ⟨min a.lo b.lo, max a.hi b.hi⟩

/-- The carriage half-widths: of the record held, else the last half-widths (R35, R177). -/
def State.halfWidths (s : State) : Int × Int :=
  match s.job.record with
  | some r => (r.halfLeft, r.halfRight)
  | none => (s.job.halfLeft, s.job.halfRight)

/-- The stretch the carriage body covers with the carriage at x (R177). -/
def State.intervalAt (s : State) (x : Int) : Interval := ⟨x - s.halfWidths.1, x + s.halfWidths.2⟩

/-- The occupied interval (R177). -/
def State.occupied (s : State) : Interval := s.intervalAt s.inputs.x

/-- The gap from n to a reach on a side (R180). -/
def gapTo (side : Side) (n reach : Interval) : Int :=
  match side with
  | .left => n.lo - reach.hi
  | .right => reach.lo - n.hi

/-- The reach of a neighbour: the hull of its claim and its announce (R180). -/
def Seen.reach (v : Seen) : Interval :=
  match v.announce with
  | some a => Interval.hull v.claim a
  | none => v.claim

/-- The guard gap of the record held (R45, R180); with none held, a free value (log entry 66). -/
def State.guardGap (s : State) : Int :=
  match s.job.record with
  | some r => r.gap
  | none => Config.openGuardGap s.now

/-! ## Views -/

/-- The view of a side. -/
def Guard.view (g : Guard) (side : Side) : View :=
  match side with
  | .left => g.left
  | .right => g.right

/-- The view of a side replaced. -/
def Guard.setView (g : Guard) (side : Side) (v : View) : Guard :=
  match side with
  | .left => { g with left := v }
  | .right => { g with right := v }

/-- The breach test of a side is armed. -/
def Guard.armed (g : Guard) (side : Side) : Bool :=
  match side with
  | .left => g.leftArmed
  | .right => g.rightArmed

/-- The breach test of a side armed or spent. -/
def Guard.setArmed (g : Guard) (side : Side) (b : Bool) : Guard :=
  match side with
  | .left => { g with leftArmed := b }
  | .right => { g with rightArmed := b }

/-- At least one view is stale: the cause of NEIGHBOUR_STALE (R179). -/
def Guard.anyStale (g : Guard) : Bool :=
  let stale (v : View) : Bool := match v.heard with
    | some h => h.stale
    | none => false
  stale g.left || stale g.right

/-- No setpoint is at the check and none awaits its issue: the check can begin (R180). -/
def Guard.isFree (g : Guard) : Bool := g.atCheck.isNone && g.passed.isNone

/-! ## Claim and announce (R177, R178) -/

/-- The claim set; a change offers a REACH at once. -/
def setClaim (iv : Interval) (s : State) : State :=
  if iv = s.guard.claim then s else offerReach (s.setGuard { s.guard with claim := iv })

/-- The announce set or cleared; a change offers a REACH at once. -/
def setAnnounce (a : Option Interval) (s : State) : State :=
  if a = s.guard.announce then s
  else offerReach (s.setGuard { s.guard with announce := a, announceSent := false })

/-- The hull of the occupied interval, the targets outstanding and the passed target (R184). -/
def State.neededInterval (s : State) : Interval :=
  let base := s.motion.outstanding.foldl (fun iv o => Interval.hull iv (s.intervalAt o.sp.x)) s.occupied
  match s.guard.passed with
  | some sp => Interval.hull base (s.intervalAt sp.x)
  | none => base

/-- The claim recomputed (R184); while halting it is held as it stood. -/
def recomputeClaim (s : State) : State :=
  if s.motion.halt = .moving then setClaim s.neededInterval s else s

/-- The claim follows the occupied interval while the carriage has nothing to do (R177). -/
def followClaim (s : State) : State :=
  if s.motion.halt = .moving ∧ s.motion.outstanding = [] ∧ s.guard.isFree = true then setClaim s.occupied s else s

/-! ## The check (R180 to R183) -/

/-- The setpoint at the check passes: it awaits its issue, and the timers of the check stop. The phase is NONE from here on,
as table 12.8 has it for a passed setpoint, and not from its issue only (R180: DEDUCED, log entry 64). -/
def passCheck (s : State) : State :=
  s.setGuard { s.guard with
    passed := s.guard.atCheck, atCheck := none, phase := .none
    settleTimer := none, waitTimer := none, waitExpired := false }

/-- The check enters GUARD_WAIT on a side: no announce, and the wait timer starts if it has not (R183). -/
def enterWait (side : Side) (s : State) : State :=
  let s := setAnnounce none s
  s.setGuard { s.guard with
    phase := .wait, side := side, settleTimer := none
    waitTimer := if s.guard.waitExpired then none else some (s.guard.waitTimer.getD 20000) }

/-- The Guard announces n on a side and settles for 12 ms (R180). -/
def announceOn (side : Side) (n : Interval) (s : State) : State :=
  let s := setAnnounce (some n) s
  s.setGuard { s.guard with phase := .settle, side := side, settleTimer := some 120, heard := false, reply := none }

/-- The check of a setpoint whose N goes beyond the claim on a side (R180 cases 2 and 3). The claim grows to N while the
drives halt too, although R184 holds it then (DESIGN CHOICE, log entry 53). -/
def checkBeyond (side : Side) (n : Interval) (s : State) : State :=
  match (s.guard.view side).station with
  | none => passCheck (setClaim n s)
  | some _ =>
    match (s.guard.view side).heard with
    | none => enterWait side s
    | some h =>
      if h.stale = true ∨ gapTo side n h.seen.reach < s.guardGap then enterWait side s else announceOn side n s

/-- The check of the setpoint at it, run from the start with N formed afresh (R180). N extends beyond the claim on one side
at most; where wider half-widths, armed while a move of the job before is at the check, have it extend on both, the right side
alone is tested (DESIGN CHOICE, log entry 57). -/
def runCheck (s : State) : State :=
  match s.guard.atCheck with
  | none => s
  | some sp =>
    let n := Interval.hull s.guard.claim (s.intervalAt sp.x)
    if n = s.guard.claim then passCheck s
    else if s.guard.claim.hi < n.hi then checkBeyond .right n s
    else checkBeyond .left n s

/-- A setpoint put at the check (R180). -/
def beginCheck (sp : Setpoint) (s : State) : State := runCheck (s.setGuard { s.guard with atCheck := some sp })

/-- A waiting check run again (R183). -/
def recheck (s : State) : State := if s.guard.phase = .wait then runCheck s else s

/-- A waiting check run again when the claim is no longer `before` (R183). -/
def recheckIfMoved (before : Interval) (s : State) : State := if s.guard.claim = before then s else recheck s

/-- The claim shrinks at an arrival or a halted report, and a waiting check looks again (R183, R184). -/
def shrinkClaim (s : State) : State := recheckIfMoved s.guard.claim (recomputeClaim s)

/-- A reply is clear of n (R181). -/
def replyClear (gap : Int) (side : Side) (n : Interval) (r : Seen) : Bool :=
  decide (gap ≤ gapTo side n r.claim) &&
    match r.announce with
    | none => true
    | some a => decide (gap ≤ gapTo side n a)

/-- The look at the last reply after the settle timer has expired: on a clear one the claim becomes N (R181), while the
drives halt too (DESIGN CHOICE, log entry 53). -/
def takeOnClearReply (s : State) : State :=
  if s.guard.phase = .settle ∧ s.guard.settleTimer = none then
    match s.guard.announce, s.guard.reply with
    | some n, some r =>
      if replyClear s.guardGap s.guard.side n r then passCheck (setAnnounce none (setClaim n s)) else s
    | _, _ => s
  else s

/-- What a REACH from the side of the announce does in SETTLE (R181, R182). -/
def settleOnReach (v : Seen) (s : State) : State :=
  match s.guard.announce with
  | none => s
  | some n =>
    let s := if s.guard.heard then s.setGuard { s.guard with reply := some v } else s
    let near (iv : Interval) : Bool := decide (gapTo s.guard.side n iv < s.guardGap)
    let announceNear : Bool := match v.announce with
      | some a => near a
      | none => false
    if near v.claim || (announceNear && s.guard.side == .left) then enterWait s.guard.side s
    else if s.guard.heard then takeOnClearReply s
    else s

/-- A check in progress abandoned, and a passed setpoint dropped (R185): the drop has the claim recomputed (R184). With
nothing at the check and nothing passed there is nothing to abandon. The announce heard flag and the last reply are cleared
here, and stay where a check passes or falls back to GUARD_WAIT (R185 lists neither: DESIGN CHOICE, log entry 62). -/
def abandonCheck (s : State) : State :=
  if s.guard.isFree then s
  else
    let s := setAnnounce none s
    recomputeClaim (s.setGuard { s.guard with
      phase := .none, atCheck := none, passed := none, settleTimer := none, waitTimer := none, waitExpired := false
      heard := false, reply := none })

/-! ## Breach (R186) -/

/-- The breach test of a side, made while a record is held and the view is heard and not stale. A spent test is armed again
at a test made so, and not while the view is stale or no record is held (R186 does not say: DESIGN CHOICE, log entry 65). -/
def testBreach (side : Side) (s : State) : State :=
  match s.job.record, (s.guard.view side).heard with
  | some r, some h =>
    if h.stale then s
    else if 2 * gapTo side s.occupied h.seen.claim < r.gap then
      if s.guard.armed side then
        let s := s.setGuard (s.guard.setArmed side false)
        raise .guardBreach (s.setBus { s.bus with breachPull := true })
      else s
    else s.setGuard (s.guard.setArmed side true)
  | _, _ => s

/-! ## The neighbour lookup (R33) and join notices (R179) -/

/-- The rail order of a present station as one number: slot, then station number. -/
def railKey (slot number : Nat) : Nat := slot * 32 + number

/-- The rail keys of the present stations of a rail. -/
def Roster.railKeys (r : Roster) (rail : Nat) : List Nat :=
  (List.range 32).filterMap fun k =>
    match r.entries.getD k none with
    | some p => if p.rail = rail then some (railKey p.slot k) else none
    | none => none

/-- The station's own rail key. -/
def State.ownKey (s : State) : Nat := railKey s.straps.slot.val s.number

/-- The nearest present station on the own rail to a side, or none (R33). -/
def neighbour (side : Side) (s : State) : Option Nat :=
  let keys := s.roster.railKeys s.straps.rail.val
  match side with
  | .left => (keys.filter fun k => decide (k < s.ownKey)).max?.map (· % 32)
  | .right => (keys.filter fun k => decide (s.ownKey < k)).min?.map (· % 32)

/-- A side's view reset to name a station or none; its breach test is armed again (R179, R186). -/
def resetView (side : Side) (station : Option Nat) (s : State) : State :=
  s.setGuard ((s.guard.setView side ⟨station, none⟩).setArmed side true)

/-- The join notice for one side: a view whose station changes, or has joined again, is reset, and a check on that side
falls back to GUARD_WAIT or runs again (R179, R181, R183). -/
def joinNoticeOn (side : Side) (joined : Nat) (s : State) : State :=
  let found := neighbour side s
  if found = (s.guard.view side).station ∧ found ≠ some joined then s
  else
    let s := resetView side found s
    if s.guard.side = side then
      match s.guard.phase with
      | .settle => enterWait side s
      | .wait => runCheck s
      | .none => s
    else s

/-- The Roster tells the Guard that a station has joined (R30, R179). -/
def joinNotice (joined : Nat) (s : State) : State := joinNoticeOn .right joined (joinNoticeOn .left joined s)

/-- The lookup made when STARTING ends (R179). -/
def lookUpNeighbours (s : State) : State :=
  resetView .right (neighbour .right s) (resetView .left (neighbour .left s) s)

/-- The side whose view names a station (R179). -/
def sideOf (station : Nat) (s : State) : Option Side :=
  if s.guard.left.station = some station then some .left
  else if s.guard.right.station = some station then some .right
  else none

end Sys2Proof.Machine
end

