-- ==== Sys2Proof/Machine/Motion.lean ====
section
/-! DEFINITION. The Motion Port (chapter 11): issue, the port's own lifts, closing lifts, halting, and the tracer's moves. -/

namespace Sys2Proof.Machine

/-! ## Issue (R165) -/

/-- The conditions of issue: moving, fewer than 2 outstanding, the sensed level high, the spindle on for a cutting
setpoint (R165, R169, R173), and no job that is armed and does not run yet (R46). -/
def State.canIssue (s : State) (cutting : Bool) : Bool :=
  s.job.state != .armed && s.motion.halt == .moving && decide (s.motion.outstanding.length < 2) && !s.bus.sensedLow
    && (!cutting || s.motion.spindle == .on)

/-- The rate of a feed class (R41). -/
def Feeds.rate (f : Feeds) : FeedClass → Nat
  | .cut => f.cut
  | .plunge => f.plunge
  | .rapid => f.rapid
  | .lift => f.lift

/-- The feed rate sent with a setpoint: of its class in the record held, or the rate kept for a closing lift (R165); of
another setpoint with no record held, a free value (log entry 66). -/
def State.rateOf (s : State) (sp : Setpoint) : Nat :=
  match sp.origin with
  | .closingLift c => c.rate
  | _ =>
    match s.job.record with
    | some r => r.feeds.rate sp.feed
    | none => Config.openRate s.now

/-- The limit marks of an issued candidate take effect (R133). -/
def countMarks (m : Marks) (s : State) : State :=
  let s := countIf m.rangeClip .rangeClips s
  let s := raiseIf m.outOfTravel .outOfTravel (countIf m.outOfTravel .outOfTravel s)
  let s := raiseIf m.envelopeClip .envelopeClip (countIf m.envelopeClip .envelopeClips s)
  countIf m.letterCap .letterCaps s

/-- The cells gap-marked at the issue of a GAP_LIFT: the cell lifted from and the cell returned to (R144). -/
def markGap (sp : Setpoint) (behind : List Entry) (s : State) : State :=
  match s.carverJob with
  | some c => s.setMap ((s.map.gapMark (c.cellOf sp.x sp.y sp.traced)).gapMark (c.returnCell behind))
  | none => s

/-- The head entry goes to the issued list with the tag and setpoint it is issued with (R105, R111). -/
def issueEntry (tag : Byte) (sp : Setpoint) (s : State) : State :=
  match s.pq.posted with
  | e :: rest =>
    let s := s.setPq { s.pq with posted := rest, issued := s.pq.issued ++ [⟨e, tag, sp, false⟩] }
    let s := countMarks sp.marks s
    if e.kind = .gapLift then markGap sp rest s else s
  | [] => s

/-- The passed setpoint is sent to the drives (R165): it takes the next tag, joins the outstanding setpoints, becomes the
reference setpoint and leaves the Guard. -/
def issue (sp : Setpoint) (s : State) : State :=
  let tag := s.motion.nextTag
  let s := s.setMotion { s.motion with
    outstanding := s.motion.outstanding ++ [⟨tag, sp, s.rateOf sp⟩]
    nextTag := tag + 1, reference := some sp, refArrived := false }
  let s := s.setGuard { s.guard with passed := none }
  if sp.origin = .entry then issueEntry tag sp s else s

/-- The passed setpoint is issued if the conditions of issue hold (R165). -/
def issuePassed (s : State) : State :=
  match s.guard.passed with
  | some sp => if s.canIssue sp.cutting then issue sp s else s
  | none => s

/-! ## The port's own lifts (R167, R168) -/

/-- A lift at the carriage's actual x, y and angle (R167, R168). -/
def State.liftHere (s : State) (level : Int) (feed : FeedClass) (origin : Origin) (traced : Option Angle) : Setpoint :=
  { x := s.inputs.x, y := s.inputs.y, depth := level, angle := s.inputs.angle, feed, origin, traced
    cutting := false, air := false, cell := none, marks := Marks.none }

/-- The traced angle of the setpoint issued before in the job, or none (R167, R168). -/
def State.refTraced (s : State) : Option Angle :=
  match s.motion.reference with
  | some sp => sp.traced
  | none => none

/-- The clearance level of the record held. -/
def State.clearance (s : State) : Int :=
  match s.job.record with
  | some r => r.clearance
  | none => 0

/-- A lift checked by the Guard and issued at once (R165, R180 case 1). -/
def checkAndIssue (sp : Setpoint) (s : State) : State := issuePassed (beginCheck sp s)

/-- The carriage already stands in a lift at a level: nothing is outstanding and the reference setpoint is a lift at it
that has arrived (R168; log entry 18). -/
def State.standsAt (s : State) (level : Int) : Bool :=
  s.motion.outstanding.isEmpty && s.motion.refArrived &&
    match s.motion.reference with
    | some sp => sp.feed == .lift && sp.depth == level
    | none => false

/-- A drain ends at the arrival of its retract: the finishing flag clears, the state becomes DONE and a CREDIT is offered
(R52, R117). A drain that an ABORT, an EXCUSE or a stall has ended does not. -/
def endDrain (s : State) : State :=
  if s.job.finishing && s.isRunning then
    offerCredit (setStation .done (s.setJob { s.job with finishing := false }))
  else s

/-- What follows the arrival of a closing lift, or its being found unneeded (R168 step 3). -/
def closingDone (c : ClosingLift) (s : State) : State :=
  let s := spindleOff s
  if c.drain then endDrain s else s

/-- A closing lift falls due (R168): it replaces one that is pending; outstanding setpoints are halted first. A job-start
or resume lift that is due and not yet issued is dropped (R168 names only a pending closing lift: DESIGN CHOICE, log
entry 52). -/
def closingDue (c : ClosingLift) (s : State) : State :=
  s.setMotion { s.motion with
    closing := some c, portLift := none
    halt := if s.motion.outstanding = [] then s.motion.halt else .halting true }

/-- The closing lift a carver makes with the record held: its clearance level and LIFT rate (R168). -/
def State.retract (s : State) (drain : Bool) : ClosingLift :=
  match s.job.record with
  | some r => ⟨r.clearance, r.feeds.lift, .lift, drain⟩
  | none => ⟨0, 0, .lift, drain⟩

/-- A pending closing lift goes on as far as it can (R168 steps 1 to 3, R173). -/
def pumpClosing (s : State) : State :=
  match s.motion.closing with
  | none => s
  | some c =>
    if s.standsAt c.level then closingDone c (s.setMotion { s.motion with closing := none })
    else if s.motion.outstanding.isEmpty && s.canIssue false && s.guard.isFree then
      checkAndIssue (s.liftHere c.level c.feed (.closingLift c) s.refTraced) (s.setMotion { s.motion with closing := none })
    else s

/-- The origin of a port lift. -/
def PortLift.origin : PortLift → Origin
  | .jobStart => .jobStartLift
  | .resume drain => .resumeLift drain

/-- The traced angle of a port lift: none at the job's start, else that of the setpoint issued before (R167). -/
def PortLift.traced (l : PortLift) (s : State) : Option Angle :=
  match l with
  | .jobStart => none
  | .resume _ => s.refTraced

/-- A job-start or resume lift is issued as soon as it can be (R165, R167; log entry 21). -/
def pumpPortLift (s : State) : State :=
  match s.motion.portLift with
  | none => s
  | some l =>
    if s.canIssue false && s.guard.isFree then
      checkAndIssue (s.liftHere s.clearance .lift l.origin (l.traced s)) (s.setMotion { s.motion with portLift := none })
    else s

/-- The port's own lifts that are due go on as far as they can. -/
def pumpLifts (s : State) : State := pumpPortLift (pumpClosing s)

/-! ## The tracer's moves (R165, R180) -/

/-- The first tracer move waiting goes to the check when the Guard is free and the job-start lift has been issued. -/
def pumpMoves (s : State) : State :=
  match s.motion.waiting with
  | sp :: rest =>
    if s.guard.isFree && s.motion.portLift.isNone then
      beginCheck sp (s.setMotion { s.motion with waiting := rest })
    else s
  | [] => s

/-- A tracer move handed on (R61, R62, R65, R85). -/
def commandMove (sp : Setpoint) (s : State) : State :=
  pumpMoves (s.setMotion { s.motion with waiting := s.motion.waiting ++ [sp] })

/-- Everything that waits for the port goes on as far as it can: its lifts, then the tracer's moves. -/
def pumpPort (s : State) : State := pumpMoves (pumpLifts s)

/-! ## Stops -/

/-- The drives' stop command for a fault or a bed stop (R172, R173); a halt for a closing lift keeps its mark. -/
def HaltState.stop : HaltState → HaltState
  | .moving => .halting false
  | .halting c => .halting c

/-- Some setpoints of the tracer, from a list: those commanded as tracer moves. -/
def tracerMoves (l : List Setpoint) : List Setpoint :=
  l.filter fun sp => match sp.origin with
    | .tracerMove _ => true
    | _ => false

/-- The tracer moves not yet arrived, oldest first: outstanding, passed, at the check, waiting (R72, R173, R185). -/
def State.unarrivedMoves (s : State) : List Setpoint :=
  tracerMoves (s.motion.outstanding.map (·.sp)) ++ tracerMoves s.guard.passed.toList
    ++ tracerMoves s.guard.atCheck.toList ++ s.motion.waiting

/-- The closing lift among the outstanding setpoints, if there is one (R173). -/
def closingAmong : List Outstanding → Option ClosingLift
  | [] => none
  | o :: rest =>
    match o.sp.origin with
    | .closingLift c => some c
    | _ => closingAmong rest

/-- The lists of a queue from which the issued entries of abandoned setpoints have been released: slots go free, L and
the map stay (R114, R168). -/
def PathQueue.releaseIssued (q : PathQueue) : PathQueue := { q with free := q.free + q.issued.length, issued := [] }

/-- A drive fault (R172): stop command, spindle off; the condition, its pull and its code. A second report while a fault
stands changes the code alone: it sends no stop command and leaves a spindle started since as it is (R172's list against its
last sentence on the report: DESIGN CHOICE, log entry 61). -/
def driveFault (code : Byte) (s : State) : State :=
  let s := s.setMotion { s.motion with faultCode := code }
  if s.motion.faultStanding then s
  else
    let s := s.setMotion { s.motion with faultStanding := true, halt := s.motion.halt.stop }
    let s := s.setBus { s.bus with drivePull := true }
    spindleOff (raise .driveFault s)

end Sys2Proof.Machine
end

