-- ==== Sys2Proof/Machine/PathQueue.lean ====
section
/-! DEFINITION. The Path Queue (chapter 7) and the Pass Sequencer (chapter 10): intake, completion and release, passes,
tallies, the decision, and what a stop or the end of a carver's work does to them. -/

namespace Sys2Proof.Machine

open Sys2Proof

/-! ## Intake (R106 to R110) -/

/-- A synthetic entry (R104). -/
def synthetic (kind : EntryKind) (release : Seq) (pass lost : Nat) : Entry :=
  { kind, synthetic := true, release, pass, u := 0, v := 0, depth := 0, angle := 0, width := 0, lost, broken := true }

/-- The entry kind of a record kind. -/
def RecordKind.entry : RecordKind → EntryKind
  | .surface => .surface
  | .stroke => .stroke
  | .lift => .lift
  | .passStart => .passStart
  | .passEnd => .passEnd

/-- The record entry of a trace record (R108). -/
def TraceRecord.toEntry (r : TraceRecord) : Entry :=
  { kind := r.kind.entry, synthetic := false, release := r.seq, pass := r.pass, u := r.u, v := r.v, depth := r.depth
    angle := r.angle, width := r.width, lost := 0, broken := false }

/-- The END_SYNTH for the pass in progress, if one is (R109). -/
def PathQueue.endSynths (q : PathQueue) (release : Seq) : List Entry :=
  if q.inPass then [synthetic .endSynth release q.lastPass 0] else []

/-- What a record's pass number and kind call for (R109). -/
structure Posting where
  /-- The markers posted ahead of the record, and the record. -/
  entries : List Entry
  lastPass : Nat
  inPass : Bool
deriving DecidableEq, Repr

/-- The posting of a record, or none when the pass state finds it stale (R109). -/
def PathQueue.posting (q : PathQueue) (r : TraceRecord) : Option Posting :=
  let before := r.seq - 1
  match r.kind with
  | .passStart =>
    if q.lastPass < r.pass then some ⟨q.endSynths before ++ [r.toEntry], r.pass, true⟩ else none
  | .passEnd =>
    if q.lastPass < r.pass then
      some ⟨q.endSynths before ++ [synthetic .passStart before r.pass 0, r.toEntry], r.pass, false⟩
    else if r.pass = q.lastPass ∧ q.inPass = true then some ⟨[r.toEntry], q.lastPass, false⟩
    else none
  | _ =>
    if q.lastPass < r.pass then
      some ⟨q.endSynths before ++ [synthetic .passStart before r.pass 0, r.toEntry], r.pass, true⟩
    else if r.pass = q.lastPass ∧ q.inPass = true then some ⟨[r.toEntry], q.lastPass, true⟩
    else none

/-- The GAP_LIFT ahead of a record at distance d from the expected sequence (R108). -/
def PathQueue.gapLifts (q : PathQueue) (r : TraceRecord) (d : Nat) : List Entry :=
  if d = 0 then [] else [synthetic .gapLift (r.seq - 1) q.lastPass d]

/-- The entries posted on the tail; their slots leave the free list (R105). -/
def PathQueue.post (q : PathQueue) (l : List Entry) : PathQueue :=
  { q with posted := q.posted ++ l, free := q.free - l.length }

/-- A gap of d counted and reported (R108). -/
def noteGap (d : Nat) (s : State) : State := if d = 0 then s else raise .traceGap (count .gapTotal d s)

/-- An overrun (R110): the record is discarded and nothing of the queue changes. -/
def overrun (s : State) : State := raise .queueOverrun (count .overruns 1 s)

/-- A record in order or after a gap of d (R108 to R110). A stale record whose GAP_LIFT finds no free slot counts an overrun
and no stale duplicate (R110 against R109: DESIGN CHOICE, log entry 59). -/
def intakeAt (r : TraceRecord) (d : Nat) (s : State) : State :=
  let gap := s.pq.gapLifts r d
  match s.pq.posting r with
  | some p =>
    let entries := gap ++ p.entries
    if s.pq.free < entries.length then overrun s
    else
      noteGap d (s.setPq { s.pq.post entries with
        expected := r.seq + 1, lastPass := p.lastPass, inPass := p.inPass })
  | none =>
    if s.pq.free < gap.length then overrun s
    else count .staleDuplicates 1 (noteGap d (s.setPq { s.pq.post gap with expected := r.seq + 1 }))

/-- A record taken into intake, classed by its distances from the expected sequence and from L (R107). -/
def intake (r : TraceRecord) (s : State) : State :=
  let d := (r.seq - s.pq.expected).toNat
  let a := (r.seq - s.pq.released).toNat
  if d = 0 ∨ (d ≤ 1023 ∧ a ≤ 1023) then intakeAt r d s else count .staleDuplicates 1 s

/-- A TRACE frame is taken into intake (R106). -/
def State.takesTrace (s : State) (src : Nat) : Bool :=
  s.inJob && !s.job.finishing &&
    match s.carverJob with
    | some c => c.tracer == src
    | none => false

/-! ## The drain and the end of a carver's work -/

/-- A completion during a drain tests whether both lists are empty; the retract is then due (R52, R115). -/
def testDrain (s : State) : State :=
  if s.job.finishing && s.isRunning && s.pq.posted.isEmpty && s.pq.issued.isEmpty then closingDue (s.retract true) s else s

/-- The posted entries go back to free at once; the issued ones will only be released (R114). -/
def PathQueue.emptied (q : PathQueue) : PathQueue :=
  { q with posted := [], free := q.free + q.posted.length, issued := q.issued.map fun i => { i with emptied := true } }

/-- The queue empties (R114). -/
def emptyQueue (s : State) : State := s.setPq s.pq.emptied

/-- The issued entries go back, in issue order, to the front of the posted list (R113). -/
def PathQueue.returned (q : PathQueue) : PathQueue :=
  { q with posted := q.issued.map (·.entry) ++ q.posted, issued := [] }

/-- A close in progress is dropped, and a sweep in progress abandoned where it stands (R147, R155). -/
def dropClose (s : State) : State :=
  let s := if s.map.sweeping then (s.setMap (s.map.reach s.seed).abandonSweep).setSeed (s.seed + 1) else s
  s.setSeq { s.seq with phase := .none }

/-- The slots of the issued entries whose setpoints were abandoned go free (R114, R168). -/
def releaseIssued (s : State) : State := s.setPq s.pq.releaseIssued

/-! ## The Pass Sequencer -/

/-- The current step of the plan, none at END or with no plan held. -/
def State.planStep (s : State) : Option PlanStep :=
  match s.carverJob, s.seq.index with
  | some c, some k => c.plan[k]?
  | _, _ => none

/-- The floor of a step at repetition r: the lesser of F0 + r × ΔF and F1 (R152). -/
def PlanStep.floorAt (p : PlanStep) (r : Nat) : Int := min (p.first + r * p.delta) p.last

/-- The largest cut or air count (R153). -/
def tallyLimit : Nat := 16777215

/-- An arrival of a class counted (R153). -/
def Tallies.classed (t : Tallies) (air : Bool) : Tallies :=
  if air then { t with air := min tallyLimit (t.air + 1) } else { t with cut := min tallyLimit (t.cut + 1) }

/-- A completed GAP_LIFT counted (R153, R154). -/
def Tallies.gapped (t : Tallies) (lost : Nat) : Tallies := { t with gap := min 65535 (t.gap + lost), broken := true }

/-- The tallies of a pass just opened (R152, R159). -/
def Tallies.opened (broken : Bool) : Tallies := ⟨0, 0, 0, broken⟩

/-- What a completed entry adds to the running tallies while its pass is open (R142, R153, R154). -/
def Sequencer.tally (q : Sequencer) (e : Entry) (sp : Setpoint) : Sequencer :=
  if q.openPass.isSome && !q.resting then
    if sp.cutting then { q with running := q.running.classed sp.air }
    else if e.kind = .gapLift ∧ q.openPass = some e.pass then { q with running := q.running.gapped e.lost }
    else q
  else q

/-- The sweep starts for a held marker (R145, R155). -/
def startSweep (s : State) : State :=
  (s.setMap s.map.startSweep).setSeq { s.seq with phase := .sweeping }

/-- A marker held until the issued list is empty goes on to its sweep when it is (R155). -/
def sweepIfAwaited (s : State) : State :=
  if s.seq.phase = .awaiting ∧ s.pq.issued = [] then startSweep s else s

/-- The head entry completed: its slot goes free and L becomes its release sequence (R112). -/
def completeHead (s : State) : State :=
  match s.pq.posted with
  | e :: rest =>
    offerOnGrowth (s.setPq { s.pq with posted := rest, free := s.pq.free + 1, released := e.release })
  | [] => s

/-- A marker completed: the pass is reported, the marker's slot goes free and a CREDIT is offered (R158). -/
def completeMarker (e : Entry) (s : State) : State :=
  let s := s.setSeq { s.seq with
    completed := e.pass, reported := s.seq.running, openPass := none, phase := .none }
  testDrain (offerCredit (completeHead s))

/-- A PASS_START opens its pass (R152). -/
def openPass (e : Entry) (s : State) : State :=
  match s.planStep with
  | some p =>
    testDrain (completeHead (s.setSeq { s.seq with
      openPass := some e.pass, floor := p.floorAt s.seq.rep, running := Tallies.opened e.broken }))
  | none => s

/-- A PASS_END or END_SYNTH closes its pass: it is held, awaiting an empty issued list (R154, R155). -/
def closePass (e : Entry) (s : State) : State :=
  sweepIfAwaited (s.setSeq { s.seq with
    phase := .awaiting
    running := if e.kind = .endSynth then { s.seq.running with broken := true } else s.seq.running })

/-- A resting Sequencer completes the head entry at once, with no setpoint (R159). -/
def completeResting (e : Entry) (s : State) : State :=
  match e.kind with
  | .passStart =>
    testDrain (completeHead (s.setSeq { s.seq with openPass := some e.pass, running := Tallies.opened e.broken }))
  | .passEnd => completeMarker e s
  | .endSynth => completeMarker e (s.setSeq { s.seq with running := { s.seq.running with broken := true } })
  | .gapLift =>
    testDrain (completeHead (if s.seq.openPass.isSome then
      s.setSeq { s.seq with running := { s.seq.running with broken := true } } else s))
  | _ => testDrain (completeHead s)

/-- The advance condition is met by the pass just closed (R156). -/
def advances (p : PlanStep) (t : Tallies) (floor : Int) : Bool :=
  match p.advance with
  | .count => false
  | .dry => t.cut == 0 && !t.broken
  | .floor => floor == p.last
  | .once => true

/-- The rest notice at the Motion Port: in RUNNING a rest lift is due (R157, R168, R169). -/
def restNotice (s : State) : State :=
  let s := s.setMotion { s.motion with restNotice := true }
  if s.isRunning then closingDue (s.retract false) s else s

/-- The step advances: to the next step of the plan, or past the last one to END and rest (R157). -/
def advanceStep (c : CarverJob) (k : Nat) (s : State) : State :=
  match c.plan[k + 1]? with
  | some next => s.setSeq { s.seq with index := some (k + 1), counter := next.limit, rep := 0 }
  | none => restNotice (s.setSeq { s.seq with index := none, resting := true, counter := 0, rep := 0 })

/-- The decision for the pass just closed (R156, R157). -/
def decideStep (s : State) : State :=
  match s.carverJob, s.seq.index with
  | some c, some k =>
    match c.plan[k]? with
    | some p =>
      let s := s.setSeq { s.seq with counter := s.seq.counter - 1, rep := s.seq.rep + 1 }
      if advances p s.seq.running s.seq.floor || s.seq.counter == 0 then advanceStep c k s else s
    | none => s
  | _, _ => s

/-! ## Hand-on and arrival -/

/-- An entry that is to produce a setpoint: transformed, tested for air, and handed to the Guard's check (R111, R120). -/
def handSetpoint (e : Entry) (s : State) : State :=
  match s.job.record, s.carverJob, s.planStep, s.motion.reference with
  | some r, some c, some p, some ref =>
    beginCheck (s.map.airTest r c ref (transform r c s.seq.floor p.kind ref e)) s
  | _, _, _, _ => s

/-- A resume lift is due and not yet issued (R167). -/
def Motion.resumeWaits (m : Motion) : Bool :=
  match m.portLift with
  | some (.resume _) => true
  | _ => false

/-- The head of the posted list may be handed on: RUNNING, no sweep, no marker held, and no resume lift due, which is issued
before the head is handed on again (R111, R167). -/
def State.headOpen (s : State) : Bool :=
  s.isCarver && s.isRunning && !s.map.sweeping && s.seq.phase == .none && !s.motion.resumeWaits

/-- A setpoint can be made for the head and handed to the check: fewer than 2 entries issued, the Guard free, and the
job-start lift, the first setpoint of the job, issued (R111, R167, R180). -/
def State.setpointOpen (s : State) : Bool :=
  decide (s.pq.issued.length < 2) && s.guard.isFree && s.motion.portLift.isNone

/-- The head entry handed on by its kind (R111). -/
def handHead (e : Entry) (s : State) : State :=
  if s.seq.resting then (if s.pq.issued = [] then completeResting e s else s)
  else
    match e.kind with
    | .passStart => if s.pq.issued = [] then openPass e s else s
    | .passEnd => closePass e s
    | .endSynth => closePass e s
    | _ => if s.setpointOpen then handSetpoint e s else s

/-- The oldest issued entry completed at its setpoint's arrival: tally, cell, slot and L (R112, R142, R143, R153). -/
def completeIssued (i : Issued) (rest : List Issued) (s : State) : State :=
  let s := s.setPq { s.pq with issued := rest, free := s.pq.free + 1, released := i.entry.release }
  let s := s.setSeq (s.seq.tally i.entry i.sp)
  let s := s.setMap (s.map.arrive i.sp)
  testDrain (offerOnGrowth (sweepIfAwaited s))

/-- An arrival handed to the Path Queue: the issued entry of that tag is completed, or only released after the queue has
emptied; an arrival that names no issued entry releases nothing (R112, R114, R166). -/
def arriveEntry (tag : Byte) (s : State) : State :=
  match s.pq.issued with
  | i :: rest =>
    if i.tag = tag then
      if i.emptied then s.setPq { s.pq with issued := rest, free := s.pq.free + 1 } else completeIssued i rest s
    else s
  | [] => s

end Sys2Proof.Machine
end

