-- ==== Sys2Proof/Machine/Reports.lean ====
section
/-! DEFINITION. What the station puts on the bus: the report payloads filled at the start of an attempt (R16, R116, R178,
R188), contention (R4), and the content of a REPLY (R191, section 13.7). -/

namespace Sys2Proof.Machine

open Sys2Proof

/-! ## Report payloads (section 13.6) -/

/-- The two lengths of an interval. -/
def putInterval (iv : Interval) : List Byte := putLength iv.lo ++ putLength iv.hi

/-- The REACH payload (R178): with no announce, its low and high are sent as zero. -/
def reachPayload (s : State) : List Byte :=
  let flag := if s.guard.announce.isSome then 128 else 0
  byteOf (flag + s.straps.rail.val) :: putInterval s.guard.claim ++ putInterval (s.guard.announce.getD ⟨0, 0⟩)
    ++ [byteOf s.job.state.code, byteOf s.guard.reports]

/-- The requested stepover class (R116, R158, R160): of the current step, of the last step while resting; free with no
plan held (log entry 15). -/
def requestedClass (s : State) : Nat :=
  let open_ := (Config.openRequestedClass s.seed).toNat
  match s.carverJob with
  | some c =>
    let step := match s.seq.index with
      | some k => c.plan[k]?
      | none => c.plan.getLast?
    match step with
    | some p => p.cls
    | none => open_
  | none => open_

/-- The CREDIT payload (R116). -/
def creditPayload (s : State) : List Byte :=
  put16 s.jobId ++ [byteOf s.job.state.code] ++ put16 s.pq.released.toNat
    ++ [byteOf s.pq.free, byteOf s.seq.completed, putFlag (!s.seq.resting), byteOf (requestedClass s)]
    ++ put24 s.seq.reported.cut ++ put24 s.seq.reported.air ++ put16 s.seq.reported.gap
    ++ [putFlag s.seq.reported.broken]

/-- The four bytes of the condition set (section 13.6). -/
def putSet (w : BitVec 32) : List Byte := put16 (w.toNat / 65536) ++ put16 w.toNat

/-- The first-risen byte of an ALERT; free when none is pending, which no run reaches (log entry 30). -/
def firstRisen (s : State) : Byte :=
  match s.cond.risen with
  | some c => byteOf c.number
  | none => Config.openFirstRisen s.seed

/-- The ALERT payload (R188). -/
def alertPayload (s : State) : List Byte :=
  put16 s.jobId ++ [firstRisen s] ++ putSet s.cond.set ++ [byteOf s.job.state.code]

/-- The payload a frame is sent with: a report's is filled now, any other's is the one offered (R16). -/
def fillPayload (f : TxFrame) (s : State) : List Byte :=
  match f.kind with
  | .reach => reachPayload s
  | .credit => creditPayload s
  | .alert => alertPayload s
  | _ => f.payload

/-! ## Contention (R4) -/

/-- The owner of a report is told that an attempt of it starts (R181, R188). -/
def noteAttempt (k : Kind) (s : State) : State :=
  match k with
  | .reach => s.setGuard { s.guard with announceSent := s.guard.announce.isSome }
  | .alert => s.setCond { s.cond with risen := none, inflight := s.cond.risen }
  | _ => s

/-- The head frame begins its transmission (R4, R16). -/
def startAttempt (f : TxFrame) (rest : List TxFrame) (s : State) : State :=
  let frame := { f with payload := fillPayload f s }
  let s := s.setBus { s.bus with queue := rest, sending := some ⟨frame, none⟩, rxPhase := .inFrame }
  noteAttempt f.kind (s.setSeed (s.seed + 1))

/-- The station contends with the frame at the head of its queue, unless a courtesy hold runs or it is in MUTE
(R4, R6, R18). -/
def contend (s : State) : State :=
  match s.bus.queue with
  | f :: rest => if s.bus.hold || s.bus.mute || s.bus.sending.isSome then s else startAttempt f rest s
  | [] => s

/-! ## REPLY content (R191, section 13.7) -/

/-- The last-refusal record in section 0: kind, job id, code, segment index; of an empty record only the kind is stated
(log entry 42). -/
def refusalBytes (s : State) : List Byte :=
  match s.job.refusal with
  | some r => byteOf 12 :: put16 r.jobId ++ [byteOf r.code.code, byteOf r.index]
  | none => 0 :: (List.range 4).map (Config.emptyRefusalByte s.seed)

/-- The clamped list's byte: the weights of its names, summed; an empty list with no record held (log entry 35). -/
def clampedByte (s : State) : Byte :=
  match s.job.record with
  | some r => byteOf ((r.clamped.map ClampName.weight).sum)
  | none => 0

/-- The bed stop pulls' byte: drive-fault 1, breach 2, summed. -/
def pullsByte (b : Bus) : Byte :=
  byteOf ((if b.drivePull then 1 else 0) + (if b.breachPull then 2 else 0))

/-- The step kind byte: of the current step; free with no current step (log entry 15). -/
def stepKindByte (s : State) : Byte :=
  match s.carverJob, s.seq.index with
  | some c, some k =>
    match c.plan[k]? with
    | some p => byteOf p.kind.code
    | none => Config.openStepKind s.seed
  | _, _ => Config.openStepKind s.seed

/-- The role's part of section 0, offsets 4 to 9. -/
def summaryWork (s : State) : List Byte :=
  match s.straps.role with
  | .carver =>
    [byteOf (s.seq.openPass.getD s.seq.completed), byteOf (s.seq.index.getD 255), stepKindByte s] ++ putLength s.seq.floor
  | .tracer =>
    [byteOf s.pacer.pass, byteOf s.store.state.code, byteOf s.store.cls] ++ put16 s.store.records.length ++ [0]

/-- Section 0: the station summary. -/
def summary (s : State) : List Byte :=
  byteOf s.job.state.code :: put16 s.jobId ++ summaryWork s ++ putSet s.cond.set
    ++ [clampedByte s, pullsByte s.bus, s.motion.faultCode] ++ refusalBytes s

/-- Section 2: a roster entry; the fields of an absent one are free (R29; log entry 16). -/
def rosterSection (k : Nat) (s : State) : List Byte :=
  if k < 32 then
    match s.roster.entries.getD k none with
    | some p =>
      [byteOf k, 1, byteOf (roleCode p.role), byteOf p.rail, byteOf p.slot, byteOf p.selfCheck, byteOf p.pathCapacity,
        byteOf p.storeCapacity] ++ put16 p.joinOrder
    | none => [byteOf k, 0] ++ (List.range 8).map (Config.absentRosterByte s.seed k)
  else [byteOf k]

/-- The three flags of a lag entry, summed. -/
def LagEntry.flags (e : LagEntry) : Nat :=
  (if e.silent then 1 else 0) + (if e.dropped then 2 else 0) + (if e.presumed then 4 else 0)

/-- Section 3 on a tracer: a lag entry, its time since last heard in ms rounded down (log entry 27). -/
def lagSection (i : Nat) (s : State) : List Byte :=
  match s.pacer.lag[i]? with
  | some e =>
    [byteOf i, byteOf e.carver, byteOf e.capacity] ++ put16 e.released.toNat
      ++ [byteOf e.last.code, byteOf e.completed, putFlag e.wants, byteOf e.cls, byteOf e.free, byteOf e.flags]
      ++ put16 (min 65535 ((s.now - e.lastHeard) / 10))
  | none => [byteOf i]

/-- Section 3 on a carver: the queue state (R118). -/
def queueSection (s : State) : List Byte :=
  [byteOf s.pq.free, byteOf s.pq.posted.length, byteOf s.pq.issued.length] ++ put16 s.pq.expected.toNat
    ++ put16 s.pq.released.toNat ++ [byteOf s.pq.lastPass, putFlag s.pq.inPass]

/-- The flags of a cell record, summed. -/
def Cell.flags (c : Cell) : Nat :=
  (if c.touched then 1 else 0) + (if c.gapMarked then 2 else 0) + (if c.minimum.isSome then 4 else 0)

/-- Section 4: a cell record (R148); a tracer, and an index out of range, get the indices alone. -/
def cellSection (face row col : Nat) (s : State) : List Byte :=
  let echo := [byteOf face, byteOf row, byteOf col]
  if s.isCarver && decide (face < 8 ∧ row < 64 ∧ col < 64) then
    let cell := s.map.look (cellNumber face row col)
    echo ++ putLength cell.cleared ++ putLength (cell.minimum.getD 0) ++ [byteOf cell.flags]
  else echo

/-- The payload of the REPLY to a QUERY's payload: a missing section or index byte reads as 0 (R191). -/
def replyPayload (query : List Byte) (s : State) : List Byte :=
  let index := byteAt query
  let content := match index 0 with
    | 0 => summary s
    | 1 => s.cond.counters.flatMap put16
    | 2 => rosterSection (index 1) s
    | 3 => if s.isCarver then queueSection s else lagSection (index 1) s
    | 4 => cellSection (index 1) (index 2) (index 3) s
    | _ => []
  byteOf (index 0) :: content

/-- A REPLY offered: taken into a general place, or dropped and counted (R14, R18). -/
def offerReply (dest : Nat) (payload : List Byte) (s : State) : State :=
  if s.bus.hasRoom then s.setBus (s.bus.fill .reply (byteOf dest) payload) else count .droppedReplies 1 s

/-- The QUERY answered (R191). The sweep's progress is looked at now (R146; log entry 14). -/
def answerQuery (src : Nat) (query : List Byte) (s : State) : State :=
  let s := s.setMap (s.map.reach s.seed)
  let payload := replyPayload query s
  offerReply src payload (s.setSeed (s.seed + 1))

end Sys2Proof.Machine
end

