-- ==== Sys2Proof/Machine/Tracer.lean ====
section
/-! DEFINITION. The tracer's blocks: the Trace Generator (chapter 4), the Pacer (chapter 5) and the Trace Store
(chapter 6), up to the emission of a record and all that follows it in the same step. -/

namespace Sys2Proof.Machine

open Sys2Proof

/-! ## Building records (R55, R56) -/

/-- The fields a rule gives a record it builds; the others are zero (R55). -/
structure Built where
  pass : Nat
  kind : RecordKind
  u : Int := 0
  v : Int := 0
  depth : Int := 0
  angle : Angle := 0
  width : Nat := 0
  cls : Nat := 0
  faces : Nat := 0
deriving DecidableEq, Repr

/-- The record of the next sequence; readings beyond a field's range are held to the nearer end (R55, R56). -/
def Built.record (b : Built) (seq : Seq) : TraceRecord :=
  { seq, pass := b.pass, kind := b.kind, u := saturate b.u, v := saturate b.v, depth := saturate b.depth
    angle := b.angle, width := min 65535 b.width, cls := b.cls, faces := b.faces }

/-- A record built: it takes the next sequence and stands at the tail of the due list (R54, R56). -/
def build (b : Built) (s : State) : State :=
  s.setGen { s.gen with due := s.gen.due ++ [b.record s.gen.nextSeq], nextSeq := s.gen.nextSeq + 1 }

/-- The number of the current pass, 0 when there is none. -/
def Generator.pass (g : Generator) : Nat :=
  match g.current with
  | some o => o.pass
  | none => 0

/-- The class of the current pass. -/
def Generator.cls (g : Generator) : Nat :=
  match g.current with
  | some o => o.cls
  | none => 0

/-- The angle of face k. -/
def TracerJob.faceAngle (t : TracerJob) (k : Nat) : Angle := t.faces.getD k 0

/-- The row spacing of the current pass (R59). -/
def TracerJob.rowSpacing (t : TracerJob) (cls : Nat) : Int := (t.stepovers.getD cls 0 : Nat)

/-- The angle a LIFT carries: the face angle in RASTER mode, the first face angle in FOLLOW mode (R55). -/
def TracerJob.liftAngle (t : TracerJob) (g : Generator) : Angle :=
  match t.mode with
  | .raster => t.faceAngle g.face
  | .follow => t.faceAngle 0

/-- A LIFT built at a point (R55). -/
def buildLift (t : TracerJob) (p : Point) (s : State) : State :=
  build { pass := s.gen.pass, kind := .lift, u := p.u, v := p.v, angle := t.liftAngle s.gen } s

/-- A PASS_END built (R55, R64, R71). -/
def buildPassEnd (s : State) : State := build { pass := s.gen.pass, kind := .passEnd } s

/-! ## RASTER mode (R60 to R64) -/

/-- The number of rows of a pass (R60). -/
def TracerJob.rows (t : TracerJob) (cls : Nat) : Nat := ((t.v1 - t.v0).fdiv (t.rowSpacing cls)).toNat + 1

/-- The number of columns of a pass (R60). -/
def TracerJob.cols (t : TracerJob) : Nat := ((t.u1 - t.u0).fdiv t.spacing).toNat + 1

/-- The sample point at the raster position (R60). -/
def samplePoint (t : TracerJob) (g : Generator) : Point :=
  ⟨t.u0 + g.col * t.spacing, t.v0 + g.row * t.rowSpacing g.cls⟩

/-- The raster position of the next point of the face, or none after the last one (R60). -/
def nextPosition (t : TracerJob) (g : Generator) : Option Generator :=
  if g.back then
    if 0 < g.col then some { g with col := g.col - 1 }
    else if g.row + 1 < t.rows g.cls then some { g with row := g.row + 1, back := false }
    else none
  else
    if g.col + 1 < t.cols then some { g with col := g.col + 1 }
    else if g.row + 1 < t.rows g.cls then some { g with row := g.row + 1, back := true }
    else none

/-- A tracer's setpoint (R61, R62, R65, R85): at the job's clearance level, carrying no traced angle. -/
def tracerSetpoint (r : JobRecord) (x y : Int) (angle : Angle) (feed : FeedClass) (m : Move) : Setpoint :=
  { x, y, depth := r.clearance, angle, feed, origin := .tracerMove m, traced := none, cutting := false, air := false
    cell := none, marks := Marks.none }

/-- A face begins: the raster position goes to its first point, and the face-start LIFT is built (R60, R61). -/
def beginFace (t : TracerJob) (k : Nat) (s : State) : State :=
  let s := s.setGen { s.gen with face := k, row := 0, col := 0, back := false, phase := .faceMove }
  buildLift t ⟨t.u0, t.v0⟩ s

/-- The setpoint of a face move, clamped into the travel window (R61). -/
def faceMove (r : JobRecord) (t : TracerJob) (g : Generator) : Setpoint :=
  tracerSetpoint r (clampInto r.xMin r.xMax t.u0) (clampInto r.yMin r.yMax t.v0) (t.faceAngle g.face) .rapid .face

/-- The setpoint of the return move on entering COLLECTING (R85). -/
def returnMove (r : JobRecord) (t : TracerJob) : Setpoint :=
  tracerSetpoint r (clampInto r.xMin r.xMax t.u0) (clampInto r.yMin r.yMax t.v0) (t.faceAngle 0) .rapid .comeback

/-- The record of the sample point, on arrival there with the probe's reading, or on reaching a point outside travel
with no reading: a SURFACE, or a LIFT in its place (R62, R63). -/
def takeSample (r : JobRecord) (t : TracerJob) (probe : Option Probe) (s : State) : State :=
  let p := samplePoint t s.gen
  let s := s.setGen { s.gen with phase := .atSample }
  match probe with
  | some reading =>
    if r.inTravel p.u p.v then
      if reading.overtravel then raise .probeOvertravel (buildLift t p s)
      else
        build { pass := s.gen.pass, kind := .surface, u := p.u, v := p.v, depth := reading.depth
                angle := t.faceAngle s.gen.face } s
    else buildLift t p s
  | none => buildLift t p s

/-- The move on after a sample's record has been emitted (R62 to R64). -/
def nextPoint (r : JobRecord) (t : TracerJob) (s : State) : State :=
  match nextPosition t s.gen with
  | some g =>
    let s := s.setGen g
    let p := samplePoint t g
    if r.inTravel p.u p.v then
      commandMove (tracerSetpoint r p.u p.v (t.faceAngle g.face) .cut .sample)
        (s.setGen { s.gen with phase := .sampleMove })
    else takeSample r t none s
  | none =>
    if s.gen.face + 1 < t.faces.length then beginFace t (s.gen.face + 1) s else buildPassEnd s

/-! ## FOLLOW mode (R65 to R71) -/

/-- One bit of an integer square root, from the guess so far. -/
def rootBit (n guess bit : Nat) : Nat := if (guess + bit) * (guess + bit) ≤ n then guess + bit else guess

/-- The integer square root by bits, from bit k down. -/
def rootFrom (n : Nat) : Nat → Nat → Nat
  | 0, guess => rootBit n guess 1
  | k + 1, guess => rootFrom n k (rootBit n guess (2 ^ (k + 1)))

/-- The integer square root, rounded down. -/
def intRoot (n : Nat) : Nat := rootFrom n (Nat.log2 n / 2) 0

/-- The straight distance between two points, rounded down to a whole µm (R66). -/
def distance (a b : Point) : Nat :=
  intRoot ((a.u - b.u).natAbs * (a.u - b.u).natAbs + (a.v - b.v).natAbs * (a.v - b.v).natAbs)

/-- A report is in groove: it reads so, shows no overtravel, and lies within the model window (R66). -/
def inGroove (t : TracerJob) (r : ProbeReport) : Bool :=
  r.inGroove && !r.overtravel && decide (t.u0 ≤ r.u ∧ r.u ≤ t.u1 ∧ t.v0 ≤ r.v ∧ r.v ≤ t.v1)

/-- A hold is in force: in IN_PASS, while the due list is not empty or the station is STOPPED (R69). -/
def State.inHold (s : State) : Bool := s.gen.phase == .inPass && (!s.gen.due.isEmpty || s.isStopped)

/-- The position of the last report. -/
def Generator.lastPoint (g : Generator) : Point :=
  match g.last with
  | some l => l.at_
  | none => ⟨0, 0⟩

/-- The report becomes the last report (R66). -/
def noteReport (r : ProbeReport) (s : State) : State :=
  s.setGen { s.gen with last := some ⟨⟨r.u, r.v⟩, r.inGroove⟩ }

/-- A STROKE built at a report (R55, R66). -/
def buildStroke (t : TracerJob) (r : ProbeReport) (s : State) : State :=
  build { pass := s.gen.pass, kind := .stroke, u := r.u, v := r.v, depth := r.depth, angle := t.faceAngle 0
          width := r.width } s

/-- The accumulator with the distance to a report added (R66, R69). -/
def Generator.accTo (g : Generator) (r : ProbeReport) : Nat := g.acc + distance g.lastPoint ⟨r.u, r.v⟩

/-- A report with no hold in force (R66, R67): an entry, a spaced stroke, or an exit. -/
def followReport (t : TracerJob) (r : ProbeReport) (s : State) : State :=
  if s.gen.following then
    if inGroove t r then
      let acc := s.gen.accTo r
      if t.spacing ≤ (acc : Int) then
        let s := buildStroke t r s
        s.setGen { s.gen with acc := 0 }
      else s.setGen { s.gen with acc := acc }
    else
      let s := buildLift t s.gen.lastPoint s
      s.setGen { s.gen with following := false, acc := 0 }
  else if inGroove t r then
    let s := buildStroke t r s
    s.setGen { s.gen with following := true, acc := 0 }
  else s

/-- A report during a hold (R69): the distance and the exit point are noted, nothing is built. -/
def holdReport (t : TracerJob) (r : ProbeReport) (s : State) : State :=
  if s.gen.following then
    if inGroove t r then s.setGen { s.gen with acc := s.gen.accTo r }
    else s.setGen { s.gen with exitPoint := some s.gen.lastPoint, following := false }
  else s

/-- The end of a FOLLOW pass: a LIFT if following, then the PASS_END (R71). The distance accumulator keeps its value, which
nothing reads before the next pass-start sets it to 0 (R71 does not say: DESIGN CHOICE, log entry 63). -/
def endFollowPass (t : TracerJob) (s : State) : State :=
  if s.gen.following then
    let s := buildLift t s.gen.lastPoint s
    buildPassEnd (s.setGen { s.gen with following := false })
  else buildPassEnd s

/-- The stylus has outrun the stream by more than two sample spacings (R70). -/
def Generator.skips (g : Generator) (t : TracerJob) : Bool := decide (2 * t.spacing < (g.acc : Int))

/-- The LIFT a hold's end calls for: at the exit point noted, or a skip lift (R70). -/
def holdLift (t : TracerJob) (s : State) : State :=
  let skip := s.gen.skips t
  match s.gen.exitPoint with
  | some p =>
    let s := buildLift t p s
    raiseIf skip .traceSkip (s.setGen { s.gen with acc := 0 })
  | none =>
    if s.gen.following && skip then
      let s := buildLift t s.gen.lastPoint s
      raise .traceSkip (s.setGen { s.gen with acc := 0, following := false })
    else s

/-- A hold ends when the due list is empty and the station is not STOPPED (R70). -/
def endHold (s : State) : State :=
  match s.tracerJob with
  | some t =>
    if s.gen.phase = .inPass ∧ s.gen.due = [] ∧ s.isStopped = false then
      let noted := s.gen.passEndNoted
      let s := holdLift t s
      let s := s.setGen { s.gen with exitPoint := none, passEndNoted := false }
      if noted then endFollowPass t s else s
    else s
  | none => s

/-! ## Passes: live (R59, R65) and replayed (R97, R98) -/

/-- The face count a PASS_START carries: of the list in RASTER mode, 1 in FOLLOW mode (R55). -/
def TracerJob.faceCount (t : TracerJob) : Nat :=
  match t.mode with
  | .raster => t.faces.length
  | .follow => 1

/-- A live pass begins (R59); in FOLLOW mode the model turntable is turned to the first face (R65). In RASTER mode the phase
stays QUIET until the PASS_START is emitted and the first face begins (no rule names it: DESIGN CHOICE, log entry 58). -/
def beginLive (r : JobRecord) (t : TracerJob) (p c : Nat) (s : State) : State :=
  let s := build { pass := p, kind := .passStart, cls := c, faces := t.faceCount } s
  match t.mode with
  | .raster => s.setGen { s.gen with current := some ⟨p, c⟩, face := 0, row := 0, col := 0, back := false }
  | .follow =>
    commandMove (tracerSetpoint r s.inputs.x s.inputs.y (t.faceAngle 0) .rapid .turntable)
      (s.setGen { s.gen with current := some ⟨p, c⟩, phase := .awaitStart, tableArrived := false })

/-- The replayed record of a cursor item in pass p (R98). -/
def TraceStore.item (st : TraceStore) (p : Nat) : Cursor → Built
  | .passStart => { pass := p, kind := .passStart, cls := st.cls, faces := st.faces }
  | .record i =>
    match st.records[i]? with
    | some q => { pass := p, kind := q.kind, u := q.u, v := q.v, depth := q.depth, angle := q.angle, width := q.width }
    | none => { pass := p, kind := .passEnd }
  | .passEnd => { pass := p, kind := .passEnd }

/-- The cursor after the emission of an item (R98). -/
def TraceStore.after (st : TraceStore) : Cursor → Option Cursor
  | .passStart => if st.records.isEmpty then some .passEnd else some (.record 0)
  | .record i => if i + 1 < st.records.length then some (.record (i + 1)) else some .passEnd
  | .passEnd => none

/-- The cursor goes to an item, whose record is built onto the due list (R98). -/
def buildReplay (c : Cursor) (s : State) : State :=
  build (s.store.item s.pacer.pass c) (s.setStore { s.store with cursor := some c })

/-- The Store's choice at an order: replay from a COMPLETE recording that is dense enough (R97). -/
def TraceStore.serves (st : TraceStore) (t : TracerJob) (c : Nat) : Bool :=
  st.state == .complete &&
    match t.mode with
    | .follow => true
    | .raster => decide (st.cls ≤ c)

/-- Pass p is ordered at class c (R87) and the Store replays it or passes it on (R97). -/
def orderPass (p c : Nat) (s : State) : State :=
  let s := s.setPacer { s.pacer with
    pass := p, cls := c, phase := .passing, enrolTimer := none, tailTimer := none, tailExpired := false }
  match s.job.record, s.tracerJob with
  | some r, some t => if s.store.serves t c then buildReplay .passStart s else beginLive r t p c s
  | _, _ => s

/-! ## Recording (R94 to R96) -/

/-- The stored form of an emitted record (R92). -/
def TraceRecord.stored (r : TraceRecord) : StoredRecord := ⟨r.kind, r.u, r.v, r.depth, r.angle, r.width⟩

/-- The number of records the Trace Store holds at most (R92). -/
def storeLimit : Nat := 16384

/-- An emitted record handed to the Store (R94, R95, R96). -/
def recordEmitted (t : TracerJob) (r : TraceRecord) (s : State) : State :=
  match s.store.state with
  | .empty =>
    if r.kind = .passStart ∧ t.useStore = true then
      s.setStore { s.store with
        state := .recording, records := [], faces := r.faces
        cls := match t.mode with
          | .raster => r.cls
          | .follow => 0 }
    else s
  | .recording =>
    match r.kind with
    | .passStart => s
    | .passEnd => s.setStore { s.store with state := .complete }
    | _ =>
      if s.store.records.length < storeLimit then
        s.setStore { s.store with records := s.store.records ++ [r.stored] }
      else raise .storeFull (s.setStore { s.store with state := .overflowed, records := [], cls := 0, faces := 0 })
  | .complete => s
  | .overflowed => s

/-! ## The Pacer's decision (R85 to R89) -/

/-- The participating entries (R75). -/
def Pacer.participating (p : Pacer) : List LagEntry := p.lag.filter fun e => !e.dropped

/-- The participating entries that want another pass (R87). -/
def Pacer.wanting (p : Pacer) : List LagEntry := p.participating.filter (·.wants)

/-- A participating entry is silent (R82). -/
def Pacer.anySilent (p : Pacer) : Bool := p.participating.any (·.silent)

/-- The cause of CARVER_SILENT: a silent participating entry while RUNNING (R82). -/
def State.silentCause (s : State) : Bool := s.isRunning && s.pacer.anySilent

/-- The lowest class requested by the entries that want another pass (R87). -/
def Pacer.finestClass (p : Pacer) : Nat := p.wanting.foldl (fun m e => min m e.cls) 3

/-- FINISH offered (R88): when it is taken into a place the tracer enters DONE and the Pacer goes OFF; else it is
pending. -/
def offerFinish (s : State) : State :=
  if s.isRunning && s.bus.hasRoom then
    let s := s.setBus (s.bus.fill .finish 255 (put16 s.jobId))
    let s := s.setPacer { s.pacer with
      phase := .off, enrolTimer := none, tailTimer := none, tailExpired := false, finishDue := false, decision := none }
    setStation .done s
  else s.setPacer { s.pacer with finishDue := true }

/-- The job's pass limit (R87). -/
def State.passLimit (s : State) : Nat :=
  match s.tracerJob with
  | some t => t.passLimit
  | none => 0

/-- The decision at the end of collection of pass p, or with p = 0 at the end of enrolment (R78, R87). -/
def decidePass (p : Nat) (s : State) : State :=
  if s.pacer.wanting.isEmpty then raise .jobDone (offerFinish s)
  else if p = s.passLimit then raise .passLimit (raise .jobDone (offerFinish s))
  else orderPass (p + 1) s.pacer.finestClass s

/-- Every participating entry shows pass p completed (R86). -/
def Pacer.collected (p : Pacer) : Bool := p.participating.all fun e => decide (p.pass ≤ e.completed)

/-- The end of collection tested (R86): in STOPPED the decision is held (R89), and one reached already is not reached
again while its FINISH is pending (R88). -/
def testCollection (s : State) : State :=
  if s.pacer.phase = .collecting ∧ s.pacer.finishDue = false ∧ s.pacer.collected = true then
    if s.isStopped then s.setPacer { s.pacer with decision := some .collection }
    else decidePass s.pacer.pass s
  else s

/-- COLLECTING entered at the emission of a PASS_END: the return move in RASTER mode, and the test at once (R85). -/
def enterCollecting (r : JobRecord) (t : TracerJob) (s : State) : State :=
  let s := s.setGen { s.gen with phase := .quiet, exitPoint := none, passEndNoted := false }
  let s := s.setPacer { s.pacer with phase := .collecting, tailTimer := none, tailExpired := false }
  testCollection (match t.mode with
    | .raster => commandMove (returnMove r t) s
    | .follow => s)

/-- The result of the end of enrolment (R78). -/
def enrolmentResult (s : State) : State :=
  let s := s.setPacer { s.pacer with enrolTimer := none, decision := none }
  if s.pacer.lag.isEmpty then
    setStation .armed (raise .noCarvers (s.setPacer { s.pacer with phase := .off }))
  else
    let absent := match s.tracerJob with
      | some t => t.enrol.any fun k => !s.pacer.lag.any fun e => e.carver == k
      | none => false
    decidePass 0 (raiseIf absent .carverAbsent s)

/-- Enrolment ends (R76, R78); in STOPPED its result is held (R89). -/
def endEnrolment (s : State) : State :=
  if s.isStopped then s.setPacer { s.pacer with enrolTimer := none, decision := some .enrolment }
  else enrolmentResult s

/-- Enrolment is open: no result has been reached or held (R76, R89). -/
def Pacer.enrolling (p : Pacer) : Bool := p.phase == .enrolling && p.decision.isNone && !p.finishDue

/-- Every carver on the enrol list has an entry, or the list is empty (R76). -/
def State.enrolComplete (s : State) : Bool :=
  match s.tracerJob with
  | some t => t.enrol.all fun k => s.pacer.lag.any fun e => e.carver == k
  | none => true

/-- The end of enrolment tested (R76). -/
def testEnrolment (s : State) : State := if s.pacer.enrolling && s.enrolComplete then endEnrolment s else s

/-! ## The emission gate (R57, R58, R81) -/

/-- The Pacer's allowance for sequence n (R81). -/
def Pacer.allows (p : Pacer) (n : Seq) : Bool :=
  p.participating.all fun e => !e.silent && decide ((n - e.released).toNat ≤ e.capacity)

/-- The gate is open for the head of the due list (R57); a PASS_START is not offered before the press (R65). -/
def State.gateOpen (s : State) : Bool :=
  s.isTracer && s.isRunning && s.bus.hasTraceRoom && s.gen.phase != .awaitStart &&
    match s.gen.due with
    | r :: _ => s.pacer.allows r.seq
    | [] => false

/-- What follows the emission of a live record (R59, R61, R62, R64, R70). -/
def afterLive (j : JobRecord) (t : TracerJob) (r : TraceRecord) (s : State) : State :=
  match r.kind with
  | .passEnd => enterCollecting j t s
  | .passStart =>
    match t.mode with
    | .raster => beginFace t 0 s
    | .follow => endHold s
  | _ =>
    match t.mode with
    | .raster =>
      if s.gen.phase = .faceMove then commandMove (faceMove j t s.gen) s else nextPoint j t s
    | .follow => endHold s

/-- What follows the emission of a replayed record (R98). -/
def afterReplay (j : JobRecord) (t : TracerJob) (c : Cursor) (s : State) : State :=
  match s.store.after c with
  | some next => buildReplay next s
  | none => enterCollecting j t (s.setStore { s.store with cursor := none })

/-- The head record is emitted: offered as a TRACE to all, its sequence the last emitted, recorded, and followed up
(R57, R58). -/
def emitHead (s : State) : State :=
  match s.gen.due, s.job.record, s.tracerJob with
  | r :: rest, some j, some t =>
    let s := s.setGen { s.gen with due := rest }
    let s := s.setBus (s.bus.fill .trace 255 (tracePayload r))
    let s := s.setPacer { s.pacer with emitted := r.seq }
    let s := recordEmitted t r s
    match s.store.cursor with
    | some c => afterReplay j t c s
    | none => afterLive j t r s
  | _, _, _ => s

/-- The arm brake (R68). -/
def armBrake (s : State) : Bool :=
  match s.tracerJob with
  | some t =>
    t.mode == .follow && s.isTracer &&
      ((s.gen.phase == .inPass && !s.gen.due.isEmpty && !s.gateOpen)
        || s.isStopped
        || (s.isRunning && s.gen.phase == .quiet)
        || (s.gen.phase == .awaitStart && !s.gen.tableArrived))
  | none => false

/-! ## CREDIT (R77 to R80, R86, R91) -/

/-- The fields of a CREDIT the Pacer reads (section 13.6). -/
structure CreditReport where
  src : Nat
  jobId : Nat
  state : StationState
  released : Seq
  free : Nat
  completed : Nat
  wants : Bool
  cls : Nat
deriving DecidableEq, Repr

/-- A CREDIT frame read. -/
def readCredit (f : Frame) : CreditReport where
  src := f.src
  jobId := u16At f.payload 0
  state := stateOf (byteAt f.payload 2)
  released := BitVec.ofNat 16 (u16At f.payload 3)
  free := byteAt f.payload 5
  completed := byteAt f.payload 6
  wants := flagOf (byteAt f.payload 7)
  cls := classOf (byteAt f.payload 8)

/-- A carver state in the job: ARMED, RUNNING or STOPPED (R77, R79). -/
def StationState.takesPart (st : StationState) : Bool := st == .armed || st == .running || st == .stopped

/-- A carver state that has left the job with its record kept: SUSPENDED, EXCUSED or DONE (R79). -/
def StationState.hasLeft (st : StationState) : Bool := st == .suspended || st == .excused || st == .done

/-- L taken forward toward e only (R79). -/
def forward (l e l' : Seq) : Seq := if (l' - l).toNat ≤ (e - l).toNat then l' else l

/-- The end-of-pass fields of an entry updated (R79, R86). -/
def LagEntry.updatePass (e : LagEntry) (c : CreditReport) : LagEntry :=
  if e.completed ≤ c.completed then
    { e with completed := c.completed, wants := c.wants, cls := c.cls, presumed := false }
  else e

/-- An entry updated by a CREDIT (R79); while ENROLLING the end-of-pass fields stay as taken at admission (R77). -/
def LagEntry.update (e : LagEntry) (c : CreditReport) (emitted : Seq) (now : Nat) (enrolling : Bool) : LagEntry :=
  let e := { e with last := c.state, free := c.free, lastHeard := now, silent := false
                    released := forward e.released emitted c.released }
  if enrolling then e else e.updatePass c

/-- A dropped entry's reporting update (R80); the presumed flag is kept (R86 would clear it at some CREDITs: DESIGN CHOICE, log
entry 48). -/
def LagEntry.report (e : LagEntry) (c : CreditReport) (now : Nat) : LagEntry :=
  { e with last := c.state, free := c.free, lastHeard := now }

/-- The entry of a carver. -/
def Pacer.entryOf (p : Pacer) (k : Nat) : Option LagEntry := p.lag.find? fun e => e.carver == k

/-- The entry of a carver replaced. -/
def Pacer.setEntry (p : Pacer) (k : Nat) (new : LagEntry) : Pacer :=
  { p with lag := p.lag.map fun e => if e.carver = k then new else e }

/-- The entry of a carver removed; those behind it move up (R75). -/
def Pacer.removeEntry (p : Pacer) (k : Nat) : Pacer := { p with lag := p.lag.filter fun e => e.carver != k }

/-- An entry dropped: CARVER_DROPPED is raised once for it (R80). -/
def dropEntry (k : Nat) (e : LagEntry) (s : State) : State :=
  raise .carverDropped (s.setPacer (s.pacer.setEntry k { e with dropped := true, silent := false }))

/-- The presumption made on the CREDIT just taken, after the tail timer's expiry (R86). -/
def presumes (p : Pacer) (e : LagEntry) (c : CreditReport) : Bool :=
  p.phase == .collecting && p.tailExpired && decide (e.completed < p.pass) && e.free == e.capacity
    && c.state == .running && !e.dropped

/-- An entry presumed to have completed pass p (R86). -/
def LagEntry.presume (e : LagEntry) (p : Nat) (c : CreditReport) : LagEntry :=
  { e with completed := p, wants := true, cls := c.cls, presumed := true }

/-- A CREDIT of the job from a carver taking part (R79, R86). -/
def creditUpdate (e : LagEntry) (c : CreditReport) (s : State) : State :=
  let new := e.update c s.pacer.emitted s.now (s.pacer.phase == .enrolling)
  let new := if presumes s.pacer new c then new.presume s.pacer.pass c else new
  testCollection (s.setPacer (s.pacer.setEntry c.src new))

/-- A CREDIT from a carver with an entry while the Pacer is not OFF (R79, R80). One that drops the entry by the third row of R79
writes its last state and last heard alone, and the presumed flag is kept (DESIGN CHOICE against R86, log entry 48). -/
def creditFromEntry (e : LagEntry) (c : CreditReport) (s : State) : State :=
  if e.dropped then s.setPacer (s.pacer.setEntry c.src (e.report c s.now))
  else if s.holdsId c.jobId && c.state.takesPart then creditUpdate e c s
  else if s.holdsId c.jobId && c.state.hasLeft then
    testCollection (dropEntry c.src (e.update c s.pacer.emitted s.now (s.pacer.phase == .enrolling)) s)
  else testCollection (dropEntry c.src { e with last := c.state, lastHeard := s.now } s)

/-- The capacity C of an admitted carver: from its roster entry, else its free slot count (R77). -/
def capacityOf (s : State) (c : CreditReport) : Nat :=
  match s.roster.entries.getD c.src none with
  | some p => if p.role = .carver then p.pathCapacity else c.free
  | none => c.free

/-- The conditions of admission (R77); a carver restarted in this job is not admitted again (R84; log entry 50). -/
def admits (s : State) (c : CreditReport) : Bool :=
  s.pacer.enrolling && s.holdsId c.jobId && c.state.takesPart && c.released == 0 && c.completed == 0
    && decide (1 ≤ c.free ∧ c.free ≤ 240) && !s.pacer.restarted.contains c.src &&
    match s.tracerJob with
    | some t => t.enrol.any fun k => k == c.src
    | none => false

/-- A carver admitted: its entry is appended (R77), and the end of enrolment is tested (R76). -/
def admitCarver (c : CreditReport) (s : State) : State :=
  let e : LagEntry :=
    { carver := c.src, capacity := capacityOf s c, released := 0, last := c.state, completed := 0, wants := c.wants
      cls := c.cls, free := c.free, lastHeard := s.now, silent := false, dropped := false, presumed := false }
  testEnrolment (s.setPacer { s.pacer with lag := s.pacer.lag ++ [e] })

/-- A CREDIT in DONE updates its entry for reporting only (R91): the silent flag is kept, and the presumed flag clears with
the end-of-pass fields as R86 has it (R91 names neither: DESIGN CHOICE, log entry 48). -/
def creditInDone (e : LagEntry) (c : CreditReport) (s : State) : State :=
  let new := e.update c s.pacer.emitted s.now false
  s.setPacer (s.pacer.setEntry c.src { new with silent := e.silent })

/-- A CREDIT taken by the Pacer (R77, R79, R91). -/
def takeCredit (c : CreditReport) (s : State) : State :=
  match s.pacer.entryOf c.src with
  | some e =>
    if s.pacer.phase = .off then (if s.job.state = .done then creditInDone e c s else s)
    else creditFromEntry e c s
  | none => if admits s c then admitCarver c s else s

/-- A lag entry removed by an EXCUSE or a rejoin: the ends of enrolment and collection are tested (R83, R84). -/
def removeCarver (k : Nat) (s : State) : State :=
  testCollection (testEnrolment (s.setPacer (s.pacer.removeEntry k)))

/-- A carver restarted: its entry is removed, and it is not admitted again in this job (R84; log entry 50). -/
def Pacer.restart (p : Pacer) (k : Nat) : Pacer := { p.removeEntry k with restarted := k :: p.restarted }

/-- A rejoin notice (R84). -/
def rejoinNotice (k : Nat) (s : State) : State :=
  if s.isTracer && s.pacer.phase != .off && (s.pacer.entryOf k).isSome then
    testCollection (raise .carverRestarted (s.setPacer (s.pacer.restart k)))
  else s

/-! ## JOIN offers and the freed general place (R14, R30, R31) -/

/-- The payload of the station's JOIN (R30, section 13.6). -/
def State.joinPayload (s : State) (answer : Bool) : List Byte :=
  [0xB6#8, byteOf (roleCode s.straps.role), byteOf s.straps.rail.val, byteOf s.straps.slot.val, byteOf s.selfCheckResult,
   if s.isCarver then 240#8 else 0#8, if s.isCarver then 0#8 else 64#8, putFlag answer]

/-- A JOIN offered: into a general place, or kept due (R14). -/
def offerJoin (answer : Bool) (s : State) : State :=
  if s.bus.hasRoom then
    (s.setBus (s.bus.fill .join 255 (s.joinPayload answer))).setRoster { s.roster with joinDue := none }
  else s.setRoster { s.roster with joinDue := some answer }

/-- A general place has freed: it goes to the waiting FINISH, TRACE or JOIN of lowest class that can be taken (R14). -/
def placeFreed (s : State) : State :=
  if s.pacer.finishDue && s.isRunning && s.bus.hasRoom then offerFinish s
  else if s.gateOpen then emitHead s
  else
    match s.roster.joinDue with
    | some answer => if s.bus.hasRoom then offerJoin answer s else s
    | none => s

end Sys2Proof.Machine
end

