-- ==== Sys2Proof/Machine/StartUp.lean ====
section
/-! DEFINITION. Resets, STARTING and the self-check (R22 to R27): PIN_RESET, LEAVE_RESET, MEMORY_TEST_END, RESET. -/

namespace Sys2Proof.Machine

open Sys2Proof

/-- What a command answers. Every command answers a next state (log entry 38). -/
abbrev Result := Host.Outcome State Fault Refusal

/-! ## Reset -/

/-- Every block at its after-reset value, held in reset (R21 to R25); the straps, the inputs, the clock, the free-value
number and the command queue are not the reset's (log entry 36). -/
def holdReset (s : State) : State :=
  let s := ((s.setSelfTest none).setBus Bus.afterReset).setRoster Roster.afterReset
  let s := ((s.setJob JobStore.afterReset).setGen Generator.afterReset).setPacer Pacer.afterReset
  let s := ((s.setStore TraceStore.afterReset).setPq PathQueue.afterReset).setMap CutMap.afterReset
  let s := (s.setSeq Sequencer.afterReset).setMotion Motion.afterReset
  (s.setGuard (Guard.afterReset s.inputs.x)).setCond ConditionUnit.afterReset

/-- The path capacity of a role (R29, R30). -/
def pathCapacityOf : Role → Nat
  | .carver => 240
  | .tracer => 0

/-- The store capacity of a role, in units of 256 records (R29, R30). -/
def storeCapacityOf : Role → Nat
  | .carver => 0
  | .tracer => 64

/-- The own roster entry, from the straps (R29). -/
def ownPeer (p : Straps) (selfCheck : Nat) : Peer where
  role := p.role
  rail := p.rail.val
  slot := p.slot.val
  selfCheck := selfCheck
  pathCapacity := pathCapacityOf p.role
  storeCapacity := storeCapacityOf p.role
  joinOrder := 0

/-- The own roster entry written with a self-check result (R29). -/
def writeOwnEntry (selfCheck : Nat) (s : State) : State :=
  s.setRoster { s.roster with entries := s.roster.entries.set s.number (some (ownPeer s.straps selfCheck)) }

/-- A pending ALERT is offered when STARTING ends (R27, R188). -/
def offerPendingAlert (s : State) : State := if s.cond.risen.isSome then offerReport .alert 255 s else s

/-- A fault standing when STARTING ends is treated as reported at that moment (R164, R172). -/
def readStandingFault (s : State) : State :=
  match s.inputs.driveFault with
  | some code => driveFault code s
  | none => s

/-- STARTING ends with a self-check result (R27): READY or FAILED, the receiver started, the neighbours looked up, the
pending ALERT, the REACH and the start-up JOIN offered, the drives' fault state read. -/
def endStarting (result : Nat) (s : State) : State :=
  let s := writeOwnEntry result (s.setSelfTest none)
  let s := setStation (if result = 0 then .ready else .failed) s
  let s := raiseIf (result != 0) .selfCheckFail s
  let s := offerPendingAlert (s.setBus { s.bus with rxPhase := .waitIdle })
  let s := lookUpNeighbours s
  let s := offerReach (s.setGuard { s.guard with reachTimer := some 50 })
  readStandingFault (offerJoin false s)

/-- The first memory a role tests (R26). -/
def firstMemory : Role → Nat
  | .carver => 1
  | .tracer => 3

/-- The station leaves reset (R22, R24, R25): the straps are sampled and STARTING is entered; with the self-check strap
at skip it ends at once. The own entry's self-check result is 0 until the self-check ends (R29 gives it only then: DESIGN
CHOICE, log entry 45). -/
def leaveReset (straps : Straps) (s : State) : State :=
  let s := writeOwnEntry 0 (s.setStraps straps)
  let s := s.setJob { s.job with state := .starting }
  if straps.selfCheck then s.setSelfTest (some (firstMemory straps.role)) else endStarting 0 s

/-- The failed memory is left as the test left it (R26): of the Cut Map, free cells (log entry 13); of the path slots and of
the Trace Store, what the blocks keep there stays at its after-reset content (DESIGN CHOICE, log entry 44). -/
def leaveFailed (code : Nat) (s : State) : State :=
  if code = 2 then (s.setMap { s.map with failed := some s.seed }).setSeed (s.seed + 1) else s

/-- The test of the memory of a code has ended (R26): the next memory, or the end of STARTING. -/
def memoryTested (code : Nat) (passed : Bool) (s : State) : State :=
  if passed then (if code = 1 then s.setSelfTest (some 2) else endStarting 0 s) else endStarting code (leaveFailed code s)

/-! ## The commands -/

/-- PIN_RESET (R22): in every state the station is held in reset. -/
def execPinReset (s : State) : Result := .next (holdReset s)

/-- LEAVE_RESET (R22): of a station held in reset. -/
def execLeaveReset (straps : Straps) (s : State) : Result :=
  .next (if s.job.state = .held then leaveReset straps s else s)

/-- MEMORY_TEST_END (R26): while a memory is under test. -/
def execMemoryTestEnd (passed : Bool) (s : State) : Result :=
  .next (match s.selfTest with
    | some code => memoryTested code passed s
    | none => s)

/-- RESET (R11, R23): an accepted RESET takes effect at the end of its acknowledge slot. -/
def execReset (straps : Straps) (s : State) : Result :=
  .next (if s.bus.resetDue then leaveReset straps (holdReset s) else s)

end Sys2Proof.Machine
end

