-- ==== Sys2Proof/Machine/Cutting.lean ====
section
/-! DEFINITION. The carver's own events: HEAD_HANDED_ON and SWEEP_END. -/

namespace Sys2Proof.Machine

open Sys2Proof

/-- HEAD_HANDED_ON (R111): the head entry goes to the Pass Sequencer or the Transform when it may; a lift that has
fallen due goes on. -/
def execHeadHandedOn (s : State) : Result :=
  .next (match s.pq.posted with
    | e :: _ => if s.headOpen then pumpLifts (handHead e s) else s
    | [] => s)

/-- The held marker's pass decided and completed (R145, R156, R158). -/
def closeSweep (e : Entry) (s : State) : State :=
  pumpLifts (completeMarker e (decideStep (s.setMap s.map.endSweep)))

/-- SWEEP_END (R145): of a running sweep. -/
def execSweepEnd (s : State) : Result :=
  .next (if s.map.sweeping then
      match s.pq.posted with
      | e :: _ => closeSweep e s
      | [] => s.setMap s.map.endSweep
    else s)

end Sys2Proof.Machine
end

