-- ==== Sys2Proof/Machine/Drives.lean ====
section
/-! DEFINITION. The Motion Port's events: SETPOINT_ISSUE, ARRIVED, HALTED, DRIVE_FAULT_REPORT, FAULT_CLEARED,
ACTUAL_POSITION_CHANGE, LOAD_CHANGE, STOP_SENSED, STOP_RELEASED. -/

namespace Sys2Proof.Machine

open Sys2Proof

/-! ## Issue and arrival (R165, R166) -/

/-- SETPOINT_ISSUE (R165): the passed setpoint is issued when the conditions hold, and what waited behind it goes on. -/
def execSetpointIssue (s : State) : Result := .next (pumpPort (issuePassed s))

/-- A tracer's move has arrived (R61, R62, R65, R85). -/
def moveArrived (m : Move) (probe : Probe) (s : State) : State :=
  match m with
  | .face =>
    match s.job.record, s.tracerJob with
    | some r, some t => if s.gen.phase = .faceMove then takeSample r t (some probe) s else s
    | _, _ => s
  | .sample =>
    match s.job.record, s.tracerJob with
    | some r, some t => if s.gen.phase = .sampleMove then takeSample r t (some probe) s else s
    | _, _ => s
  | .turntable => s.setGen { s.gen with tableArrived := true }
  | .comeback => s

/-- An arrived setpoint handed on by its origin (R166 to R168). -/
def handArrival (o : Outstanding) (probe : Probe) (s : State) : State :=
  match o.sp.origin with
  | .entry => arriveEntry o.tag s
  | .jobStartLift => s
  | .resumeLift drain => if drain then endDrain (spindleOff s) else s
  | .closingLift c => closingDone c s
  | .tracerMove m => moveArrived m probe s

/-- The oldest outstanding setpoint arrives, leaving `rest` outstanding; with none left it is the reference setpoint that
has arrived (R166). The claim shrinks (R184). -/
def arriveOne (o : Outstanding) (rest : List Outstanding) (probe : Probe) (s : State) : State :=
  let s := s.setMotion { s.motion with outstanding := rest, refArrived := rest.isEmpty }
  shrinkClaim (handArrival o probe s)

/-- An arrived report (R166): of the oldest outstanding setpoint, or of the newer, which arrives both in issue order. -/
def arriveTag (tag : Byte) (probe : Probe) (s : State) : State :=
  match s.motion.outstanding with
  | o :: rest =>
    if o.tag = tag then arriveOne o rest probe s
    else
      match rest with
      | n :: more => if n.tag = tag then arriveOne n more probe (arriveOne o rest probe s) else s
      | [] => s
  | [] => s

/-- ARRIVED (R166): a report of a tag that is not outstanding is discarded. -/
def execArrived (tag : Byte) (probe : Probe) (s : State) : Result := .next (pumpPort (arriveTag tag probe s))

/-! ## Halting and faults (R168, R172, R173) -/

/-- The issued entries whose setpoints were abandoned at a bed stop are released when nothing is outstanding any more
(R114, R173; log entry 51). -/
def releaseAbandoned (s : State) : State := if s.motion.outstanding = [] then releaseIssued s else s

/-- HALTED (R168, R172, R173): halting ends; after a stop for a closing lift the outstanding setpoints are abandoned
(log entry 20), and the entries of abandoned setpoints are released. -/
def execHalted (s : State) : Result :=
  .next (match s.motion.halt with
    | .moving => s
    | .halting closing =>
      let s := s.setMotion { s.motion with
        halt := .moving, outstanding := if closing then [] else s.motion.outstanding }
      pumpPort (shrinkClaim (releaseAbandoned s)))

/-- The port acts on the drives: the station has left STARTING (R164; log entry 33). -/
def execDriveFaultReport (code : Byte) (s : State) : Result :=
  .next (let s := s.setInputs { s.inputs with driveFault := some code }
    if s.canOffer then driveFault code s else s)

/-- FAULT_CLEARED (R172): the cause of DRIVE_FAULT goes; the condition and the pull stay. -/
def execFaultCleared (s : State) : Result :=
  .next ((s.setInputs { s.inputs with driveFault := none }).setMotion { s.motion with faultStanding := false })

/-- ACTUAL_POSITION_CHANGE (R166, R177, R186): the claim follows a carriage that has nothing to do, and both sides are
tested for breach. -/
def execActualPositionChange (x y : Int) (angle : Angle) (s : State) : Result :=
  .next (testBreach .right (testBreach .left (followClaim (s.setInputs { s.inputs with x, y, angle }))))

/-- LOAD_CHANGE (R170, R171): the load timers follow the reading and the stall signal. -/
def execLoadChange (load : Nat) (stall : Bool) (s : State) : Result :=
  .next (refreshLoad (s.setInputs { s.inputs with load, stall }))

/-! ## The bed stop (R20, R53, R173) -/

/-- The sensed level becomes low and BED_STOP is raised (R20). A stop sensed while the station itself does not pull the line
tells that another does (log entry 25). -/
def senseLow (s : State) : State :=
  let s := s.setInputs { s.inputs with lineLow := s.inputs.lineLow || !s.bus.pulls }
  raise .bedStop (s.setBus { s.bus with sensedLow := true, filter := 0 })

/-- What the port of either role does at stop sensed in every state (R173): the drives stop, and the spindle goes off. -/
def stopDrives (s : State) : State :=
  spindleOff (s.setMotion { s.motion with halt := s.motion.halt.stop, portLift := none })

/-- A closing lift pending or on its way is pending again (R173; log entry 19); of two the newer, which is the pending one,
since only one is made (R168; DEDUCED, log entry 56). -/
def closingAgain (m : Motion) : Option ClosingLift := m.closing.or (closingAmong m.outstanding)

/-- A station that keeps its state (R173): the setpoints outstanding are gone, tracer moves dropped, a closing lift pending
again. The Path Queue's lists stay as they are (R113); abandoned setpoints are released at HALTED (log entry 51). -/
def stopInPlace (s : State) : State :=
  abandonCheck (s.setMotion { s.motion with
    closing := closingAgain s.motion, outstanding := [], held := [], waiting := [] })

/-- The marker held while awaiting goes back behind the returned entries (R155). -/
def Sequencer.stopAwaiting (q : Sequencer) : Sequencer :=
  match q.phase with
  | .awaiting => { q with phase := .none }
  | _ => q

/-- A station that enters STOPPED (R53, R113, R155, R173): issued entries are returned, a tracer's moves are held, a
closing lift is dropped, and the left state is remembered. -/
def enterStopped (s : State) : State :=
  let moves := s.unarrivedMoves
  let s := s.setMotion { s.motion with outstanding := [], closing := none, held := moves, waiting := [] }
  let s := abandonCheck ((s.setPq s.pq.returned).setSeq s.seq.stopAwaiting)
  offerCredit (setStation .stopped (s.setJob { s.job with remembered := s.job.state }))

/-- The Motion Port at stop sensed, by the job state: a station that is STOPPED already stays as it is (R53, R173). -/
def stopPort (s : State) : State :=
  match s.job.state with
  | .stopped => s
  | .armed => enterStopped (stopDrives s)
  | .running => enterStopped (stopDrives s)
  | _ => stopInPlace (stopDrives s)

/-- STOP_SENSED (R20, R53, R173): the filtered level becomes low, in any state after reset. -/
def execStopSensed (s : State) : Result :=
  .next (if s.job.state = .held ∨ s.bus.sensedLow = true then s else stopPort (senseLow s))

/-- The line can have read high for 10 ms (R20): the station does not pull it, and either it has read high for 100 ticks, or
another pulled it at the last tick, and the event tells that the others have let it go for that long (log entry 25). -/
def State.lineReleased (s : State) : Bool := !s.bus.pulls && (s.inputs.lineLow || decide (100 ≤ s.bus.filter))

/-- STOP_RELEASED (R20, R173): the filtered level becomes high; a pending lift is issued, except in STOPPED. -/
def execStopReleased (s : State) : Result :=
  .next (if s.bus.sensedLow ∧ s.lineReleased = true then
      let s := s.setInputs { s.inputs with lineLow := false }
      let s := s.setBus { s.bus with sensedLow := false, filter := 0 }
      if s.isStopped then s else pumpPort s
    else s)

end Sys2Proof.Machine
end

