-- ==== Sys2Proof/Machine/Jobs.lean ====
section
/-! DEFINITION. The Job Store (chapter 3): reading a record from its bytes, validation, clamps, arming, refusals and the
assembly of segments (R36 to R46). -/

namespace Sys2Proof.Machine

open Sys2Proof

/-! ## The record's bytes (section 13.7) -/

/-- The angles of a face list of n entries at an offset. -/
def anglesAt (d : List Byte) (off n : Nat) : List Angle :=
  (List.range n).map fun i => BitVec.ofNat 16 (u16At d (off + 2 * i))

/-- The step kind of a code (section 13.7). -/
def stepKindOf : Nat → Option StepKind
  | 0 => some .rough
  | 1 => some .finish
  | 2 => some .letter
  | _ => none

/-- The advance condition of a code (section 13.7). -/
def advanceOf : Nat → Option Advance
  | 0 => some .count
  | 1 => some .dry
  | 2 => some .floor
  | 3 => some .once
  | _ => none

/-- One plan step at an offset, when its kind and advance codes are in the table (R44). -/
def planStepAt (d : List Byte) (off : Nat) : Option PlanStep :=
  match stepKindOf (byteAt d off), advanceOf (byteAt d (off + 12)) with
  | some kind, some advance =>
    some ⟨kind, lengthAt d (off + 1), lengthAt d (off + 4), lengthAt d (off + 7), byteAt d (off + 10),
      byteAt d (off + 11), advance⟩
  | _, _ => none

/-- The plan steps of a carver's record, in order. -/
def planAt (d : List Byte) (off n : Nat) : List (Option PlanStep) :=
  (List.range n).map fun i => planStepAt d (off + 13 * i)

/-- The common fields of a record, with the role's work (section 13.7). -/
def recordOf (id : Nat) (d : List Byte) (work : Work) : JobRecord where
  id := id
  halfLeft := lengthAt d 3
  halfRight := lengthAt d 6
  gap := lengthAt d 9
  xMin := lengthAt d 12
  xMax := lengthAt d 15
  yMin := lengthAt d 18
  yMax := lengthAt d 21
  clearance := lengthAt d 24
  feeds := ⟨u16At d 27, u16At d 29, u16At d 31, u16At d 33⟩
  work := work
  clamped := []

/-- The tracer's fields of a record (section 13.7); its mode byte is checked before (R42). -/
def tracerOf (d : List Byte) : TracerJob :=
  let faces := byteAt d 61
  { mode := if byteAt d 35 = 0 then .raster else .follow
    u0 := lengthAt d 36, u1 := lengthAt d 39, v0 := lengthAt d 42, v1 := lengthAt d 45
    spacing := lengthAt d 48
    stepovers := [u16At d 51, u16At d 53, u16At d 55, u16At d 57]
    passLimit := byteAt d 59
    useStore := byteAt d 60 == 1
    faces := anglesAt d 62 faces
    enrol := (List.range (byteAt d (62 + 2 * faces))).map fun i => byteAt d (63 + 2 * faces + i) }

/-- The carver's fields of a record (section 13.7); its plan is checked before (R44). -/
def carverOf (d : List Byte) : CarverJob :=
  let faces := byteAt d 67
  { tracer := byteAt d 35
    snum := u16At d 36, sden := u16At d 38
    mirror := byteAt d 40 % 2 == 1
    reversed := byteAt d 40 / 2 % 2 == 1
    xOff := lengthAt d 41, yOff := lengthAt d 44, dOff := lengthAt d 47
    phase := BitVec.ofNat 16 (u16At d 50)
    dMax := lengthAt d 52
    letterFactor := u16At d 55
    letterLimit := lengthAt d 57
    baseX := lengthAt d 60, baseY := lengthAt d 63
    shift := byteAt d 66
    faces := anglesAt d 68 faces
    plan := (planAt d (69 + 2 * faces) (byteAt d (68 + 2 * faces))).reduceOption }

/-! ## Validation (R41 to R44) -/

/-- The first code of a list of checks whose check fails. -/
def firstFailure : List (Bool × JobCode) → Option JobCode
  | [] => none
  | (ok, code) :: rest => if ok then firstFailure rest else some code

/-- A list holds no value twice. -/
def distinct {α : Type} [DecidableEq α] : List α → Bool
  | [] => true
  | a :: rest => !rest.contains a && distinct rest

/-- The common fields' part of the BAD_WINDOW step (R41). -/
def windowOk (r : JobRecord) : Bool :=
  decide (0 ≤ r.halfLeft ∧ 0 ≤ r.halfRight ∧ r.xMin ≤ r.xMax ∧ r.yMin ≤ r.yMax)

/-- The face list is neither empty nor longer than 8, and holds no angle twice (R42, R43). -/
def facesOk (faces : List Angle) : Bool := decide (1 ≤ faces.length ∧ faces.length ≤ 8) && distinct faces

/-- The record is long enough to hold its counts, and as long as they say: a tracer's (R41). -/
def tracerLengthOk (d : List Byte) : Bool :=
  decide (61 < d.length) && decide (62 + 2 * byteAt d 61 < d.length)
    && decide (d.length = 63 + 2 * byteAt d 61 + byteAt d (62 + 2 * byteAt d 61))

/-- The record is long enough to hold its counts, and as long as they say: a carver's (R41). -/
def carverLengthOk (d : List Byte) : Bool :=
  decide (67 < d.length) && decide (68 + 2 * byteAt d 67 < d.length)
    && decide (d.length = 69 + 2 * byteAt d 67 + 13 * byteAt d (68 + 2 * byteAt d 67))

/-- The stepovers lie from 50 to 50,000 µm and ascend strictly (R42). -/
def stepoversOk : List Nat → Bool
  | [] => true
  | [a] => decide (50 ≤ a ∧ a ≤ 50000)
  | a :: b :: rest => decide (50 ≤ a ∧ a ≤ 50000 ∧ a < b) && stepoversOk (b :: rest)

/-- The tracer's BAD_PLAN check (R42). -/
def tracerPlanOk (own : Nat) (d : List Byte) (t : TracerJob) : Bool :=
  decide (byteAt d 35 ≤ 1) && decide (1 ≤ t.enrol.length ∧ t.enrol.length ≤ 16)
    && t.enrol.all (fun k => decide (k < 32 ∧ k ≠ own)) && distinct t.enrol
    && decide (1 ≤ t.passLimit) && decide (byteAt d 60 ≤ 1)

/-- The tracer's checks, in the order of R42. -/
def tracerChecks (own : Nat) (d : List Byte) (r : JobRecord) (t : TracerJob) : List (Bool × JobCode) :=
  [(windowOk r && decide (t.u0 ≤ t.u1 ∧ t.v0 ≤ t.v1) && stepoversOk t.stepovers, .badWindow),
   (facesOk t.faces, .badFaces),
   (tracerPlanOk own d t, .badPlan)]

/-- One plan step's fields (R44). -/
def PlanStep.ok (p : PlanStep) : Bool :=
  decide (0 ≤ p.delta ∧ p.first ≤ p.last ∧ p.cls ≤ 3 ∧ 1 ≤ p.limit ∧ p.limit ≤ 64)

/-- A step read from its bytes passes its check (R44). -/
def planEntryOk : Option PlanStep → Bool
  | some p => p.ok
  | none => false

/-- The pass plan's check (R44). -/
def planOk (steps : List (Option PlanStep)) : Bool :=
  decide (1 ≤ steps.length ∧ steps.length ≤ 12) && steps.all planEntryOk

/-- The scale check (R43). -/
def scaleOk (c : CarverJob) : Bool :=
  decide (1 ≤ c.snum ∧ c.snum ≤ 4096 ∧ 1 ≤ c.sden ∧ c.sden ≤ 4096 ∧ c.sden ≤ 16 * c.snum ∧ c.snum ≤ 16 * c.sden)
    && decide (64 ≤ c.letterFactor ∧ c.letterFactor ≤ 2048 ∧ 0 ≤ c.letterLimit)

/-- The carver's checks, in the order of R43. -/
def carverChecks (own : Nat) (d : List Byte) (r : JobRecord) (c : CarverJob) : List (Bool × JobCode) :=
  [(decide (c.tracer < 32 ∧ c.tracer ≠ own), .noTracer),
   (scaleOk c, .badScale),
   (windowOk r && decide (1 ≤ c.dMax ∧ 8 ≤ c.shift ∧ c.shift ≤ 15), .badWindow),
   (facesOk c.faces, .badFaces),
   (planOk (planAt d (69 + 2 * byteAt d 67) (byteAt d (68 + 2 * byteAt d 67))), .badPlan)]

/-- The role's checks of a record of that role: the counts, then the fields (R41). -/
def roleChecks (own : Nat) (role : Role) (d : List Byte) (r : JobRecord) : List (Bool × JobCode) :=
  match role with
  | .tracer => (tracerLengthOk d, .length) :: tracerChecks own d r (tracerOf d)
  | .carver => (carverLengthOk d, .length) :: carverChecks own d r (carverOf d)

/-- The record of a role, before its clamps. -/
def readRecord (role : Role) (id : Nat) (d : List Byte) : JobRecord :=
  match role with
  | .tracer => recordOf id d (.tracer (tracerOf d))
  | .carver => recordOf id d (.carver (carverOf d))

/-- The first check a record fails, or none when it is valid (R41). -/
def validate (own : Nat) (role : Role) (id : Nat) (d : List Byte) : Option JobCode :=
  firstFailure ((decide (2 < d.length), .length) :: (decide (byteAt d 2 = roleCode role), .wrongRole)
    :: roleChecks own role d (readRecord role id d))

/-! ## Clamps (R45) -/

/-- A value raised to its least and lowered to its greatest. -/
def bounded (lo hi i : Int) : Int := max lo (min hi i)

/-- A feed rate clamped. -/
def clampFeed (f : Nat) : Nat := max 10 (min 30000 f)

/-- A name listed when its clamp changed a value. -/
def listed (name : ClampName) (changed : Bool) : List ClampName := if changed then [name] else []

/-- The role's clamps and the names they list (R45). -/
def Work.clamp : Work → Work × List ClampName
  | .tracer t =>
    let ds := bounded 50 20000 t.spacing
    (.tracer { t with spacing := ds }, listed .spacing (ds != t.spacing))
  | .carver c =>
    let l := min c.letterLimit c.dMax
    (.carver { c with letterLimit := l }, listed .letterLimit (l != c.letterLimit))

/-- The feeds clamped. -/
def Feeds.clamp (f : Feeds) : Feeds := ⟨clampFeed f.cut, clampFeed f.plunge, clampFeed f.rapid, clampFeed f.lift⟩

/-- The names the feeds' clamps list. -/
def Feeds.clamped (f : Feeds) : List ClampName :=
  listed .cut (clampFeed f.cut != f.cut) ++ listed .plunge (clampFeed f.plunge != f.plunge)
    ++ listed .rapid (clampFeed f.rapid != f.rapid) ++ listed .lift (clampFeed f.lift != f.lift)

/-- A valid record clamped, with its clamped list (R45). -/
def JobRecord.clamp (r : JobRecord) : JobRecord :=
  let gap := max 5000 r.gap
  let clearance := min (-2000) r.clearance
  { r with
    gap, clearance, feeds := r.feeds.clamp, work := r.work.clamp.1
    clamped := r.work.clamp.2 ++ listed .gap (gap != r.gap) ++ r.feeds.clamped
      ++ listed .clearance (clearance != r.clearance) }

/-! ## Arming (R46) -/

/-- The Pass Sequencer at the start of a plan (R150). -/
def Sequencer.start (p : PlanStep) : Sequencer :=
  { Sequencer.afterReset with counter := p.limit, floor := p.first }

/-- The carver's blocks at their start of job (R46). -/
def armCarver (c : CarverJob) (s : State) : State :=
  let s := (s.setPq PathQueue.afterReset).setMap CutMap.afterReset
  match c.plan with
  | p :: _ => s.setSeq (Sequencer.start p)
  | [] => s.setSeq Sequencer.afterReset

/-- The tracer's blocks at their start of job (R46, R74, R93). -/
def armTracer (s : State) : State := (s.setPacer Pacer.afterReset).setStore TraceStore.afterReset

/-- The Motion Port at arming (R46, R164, R168): a pending closing lift is dropped, a tracer's move that still waits is too
(log entry 49), and the spindle is off (log entry 43). -/
def armMotion (s : State) : State :=
  spindleOff (s.setMotion { s.motion with
    reference := none, refArrived := false, restNotice := false, override := .p100, closing := none
    waiting := [] })

/-- A validated and clamped record armed (R46): the claim follows the new half-widths (R177). -/
def arm (r : JobRecord) (s : State) : State :=
  let s := s.setJob { s.job with
    record := some r, assembly := none, halfLeft := r.halfLeft, halfRight := r.halfRight, finishing := false }
  let s := armMotion (match r.work with
    | .carver c => armCarver c s
    | .tracer _ => armTracer s)
  followClaim (setStation .armed s)

/-! ## Refusals and assembly (R36 to R40) -/

/-- A JOB segment's fields (section 13.6); flag bits beyond the two named are ignored (log entry 12). -/
structure Segment where
  jobId : Nat
  index : Nat
  first : Bool
  more : Bool
  data : List Byte
deriving DecidableEq, Repr

/-- A JOB payload read. -/
def readSegment (p : List Byte) : Segment where
  jobId := u16At p 0
  index := byteAt p 2
  first := byteAt p 3 % 2 == 1
  more := byteAt p 3 / 2 % 2 == 1
  data := p.drop 4

/-- A refusal recorded (R40). -/
def refuse (id : Nat) (code : JobCode) (index : Nat) (s : State) : State :=
  raise .jobRefused (s.setJob { s.job with refusal := some ⟨id, code, index⟩ })

/-- The assembly in progress dropped, the job state back at its return state (R39). -/
def dropAssembly (s : State) : State :=
  match s.job.assembly with
  | some a => setStation a.back (s.setJob { s.job with assembly := none })
  | none => s

/-- The end of an assembly (R39). -/
def endAssembly (a : Assembly) (s : State) : State :=
  if a.data.length = a.total then
    match validate s.number s.straps.role a.jobId a.data with
    | none => arm (readRecord s.straps.role a.jobId a.data).clamp s
    | some code => refuse a.jobId code a.lastIndex (dropAssembly s)
  else refuse a.jobId .length a.lastIndex (dropAssembly s)

/-- A segment's data taken: the assembly goes on, or ends when no more follow (R37, R38). In LOADING the spindle is off
(R169; log entry 43). -/
def keepAssembly (a : Assembly) (more : Bool) (s : State) : State :=
  let s := spindleOff (setStation .loading (s.setJob { s.job with assembly := some a }))
  if more then s else endAssembly a s

/-- The first check a first segment fails, or none (R37). -/
def firstSegmentFailure (g : Segment) : Option JobCode :=
  let total := u16At g.data 0
  firstFailure
    [(decide (g.index = 0 ∧ 1 ≤ g.jobId), .order),
     (decide (2 ≤ g.data.length ∧ 2 ≤ total ∧ total ≤ 336 ∧ g.data.length ≤ total), .length)]

/-- The return state of an assembly started now (R37). -/
def returnState (s : State) : StationState :=
  match s.job.assembly with
  | some a => a.back
  | none => s.job.state

/-- A first segment taken (R37). A refused one is both a segment refused and, in LOADING, an assembly dropped: the job id
recorded is the segment's (R40 does not say whose: DESIGN CHOICE, log entry 47). -/
def startAssembly (g : Segment) (s : State) : State :=
  match firstSegmentFailure g with
  | some code => refuse g.jobId code g.index (dropAssembly s)
  | none => keepAssembly ⟨g.jobId, u16At g.data 0, 0, g.data, returnState s⟩ g.more s

/-- A continuing segment taken (R38). -/
def continueAssembly (a : Assembly) (g : Segment) (s : State) : State :=
  if g.jobId = a.jobId ∧ g.index = a.lastIndex + 1 ∧ g.index ≤ 11 then
    if a.data.length + g.data.length ≤ a.total then
      keepAssembly { a with lastIndex := g.index, data := a.data ++ g.data } g.more s
    else refuse a.jobId .length g.index (dropAssembly s)
  else refuse a.jobId .order g.index (dropAssembly s)

/-- A JOB segment to the station's own number, by the job state (R36). -/
def takeSegment (g : Segment) (s : State) : State :=
  match s.job.state with
  | .ready => if g.first then startAssembly g s else refuse g.jobId .order g.index s
  | .idle => if g.first then startAssembly g s else refuse g.jobId .order g.index s
  | .done => if g.first then startAssembly g s else refuse g.jobId .order g.index s
  | .loading =>
    if g.first then startAssembly g s
    else
      match s.job.assembly with
      | some a => continueAssembly a g s
      | none => s
  | .armed => refuse g.jobId .busy g.index s
  | .running => refuse g.jobId .busy g.index s
  | .stopped => refuse g.jobId .busy g.index s
  | .suspended => refuse g.jobId .busy g.index s
  | .excused => refuse g.jobId .busy g.index s
  | .failed => refuse g.jobId .busy g.index s
  | .held => s
  | .starting => s

/-- A JOB frame taken: one to all is discarded (R36). -/
def takeJob (f : Frame) (s : State) : State := if f.dest = 255 then s else takeSegment (readSegment f.payload) s

end Sys2Proof.Machine
end

