-- ==== Sys2Proof/Machine/Wire.lean ====
section
/-! DEFINITION. Events of the bed bus wire (R4 to R18): BUS_IDLE, COURTESY_HOLD_END, ARBITRATION_LOSS, TRANSMIT_FAILURE,
FRAME_SENT, FRAME_RECEIVED, BAD_FRAME, and UNUSED_FRAME_TAKEN (R2). -/

namespace Sys2Proof.Machine

open Sys2Proof

/-! ## Shared operations -/

/-- One bad check frame counted (R7). -/
def countBadFrame (s : State) : State := count .badCheckFrames 1 s

/-- The receiver goes to a phase. -/
def setPhase (p : RxPhase) (s : State) : State := s.setBus { s.bus with rxPhase := p }

/-- The courtesy hold started or ended. -/
def setHold (b : Bool) (s : State) : State := s.setBus { s.bus with hold := b }

/-- A courtesy hold starts at the end of a frame of the station's own that won arbitration, with the strap on (R6). -/
def startHold (s : State) : State := setHold s.straps.courtesy s

/-- The hold ends at the start bit of a frame another station began in the idle (R6). -/
def endHoldAtStart (s : State) : State := if s.bus.rxPhase = .ready then setHold false s else s

/-- The owner of a report is told that its attempt ended in arbitration loss or failure (R188). -/
def attemptLost (k : Kind) (s : State) : State :=
  match k with
  | .reach => s.setGuard { s.guard with announceSent := false }
  | .alert => s.setCond { s.cond with risen := s.cond.inflight.or s.cond.risen, inflight := none }
  | _ => s

/-- The transmission ends with the frame back at its place (R13, R16). -/
def loseAttempt (t : Sending) (s : State) : State := attemptLost t.frame.kind (s.setBus s.bus.returnFrame)

/-- MUTE entered (R18): every held place is emptied, and BUS_MUTE is raised. -/
def enterMute (s : State) : State := raise .busMute (s.setBus { s.bus with queue := [], mute := true })

/-- A transmit failure of the frame in transmission (R17). -/
def failTransmit (t : Sending) (s : State) : State :=
  let s := startHold (loseAttempt t s)
  let s := count .transmitFailures 1 (s.setBus { s.bus with failures := s.bus.failures + 1 })
  if s.bus.failures < 16 then s else enterMute s

/-- An echo mismatch (R9, R17): the read-back is also a bad check frame (R7; log entry 8), and the frame has ended. -/
def echoMismatch (t : Sending) (s : State) : State := countBadFrame (setPhase .waitIdle (failTransmit t s))

/-- A REACH of the station has ended heard or unheard (R178, R181). -/
def reachSent (heard : Bool) (s : State) : State :=
  s.setGuard { s.guard with
    reports := (s.guard.reports + 1) % 256
    heard := s.guard.heard || (heard && s.guard.announceSent)
    announceSent := false }

/-- A TRACE frame that carries the PASS_END of the pass in collection (R85). -/
def endsPass (p : Pacer) (payload : List Byte) : Bool :=
  p.phase == .collecting && !p.tailExpired && p.tailTimer.isNone
    && byteAt payload 3 == RecordKind.passEnd.code && byteAt payload 2 == p.pass

/-- A TRACE has left the transmit queue: with the PASS_END the tail timer starts, 100 ms (R85). -/
def traceSent (payload : List Byte) (s : State) : State :=
  if endsPass s.pacer payload then s.setPacer { s.pacer with tailTimer := some 1000 } else s

/-- The block that offered a frame is told that it has left (R10, R188, R14). -/
def frameLeft (t : Sending) (heard : Bool) (s : State) : State :=
  match t.frame.kind with
  | .reach => reachSent heard s
  | .credit => s
  | .alert => s.setCond { s.cond with inflight := none }
  | .trace => placeFreed (traceSent t.frame.payload s)
  | _ => placeFreed s

/-- A frame of the station's own has ended with no failure (R10). -/
def endTransmit (t : Sending) (heard : Bool) (s : State) : State :=
  let s := startHold (setPhase .waitIdle s)
  let s := s.setBus { s.bus.dropFrame with failures := 0 }
  frameLeft t heard (countIf (!heard) .unheardFrames s)

/-- Acceptance settled (R7, R11): the frame is placed in the buffer, or it is a RESET for this station; it is
acknowledged outside MUTE. -/
def accept (f : Frame) (s : State) : State :=
  let s := s.setBus { s.bus with ack := !s.bus.mute }
  if f.kind = .reset ∧ f.dest = byteOf s.number then s.setBus { s.bus with resetDue := true }
  else s.setBus { s.bus with rx := s.bus.rx ++ [f] }

/-- A frame addressed to this station or to all (R7). -/
def State.addressed (s : State) (dest : Byte) : Bool := dest == byteOf s.number || dest == 255#8

/-- A frame of another station, or a foreign own-number frame, at the end of its check byte (R7, R8, R9). -/
def settle (bytes : List Byte) (s : State) : State :=
  match readFrame bytes with
  | none => countBadFrame s
  | some f =>
    if s.addressed f.dest then
      if s.bus.rx.length < 4 then accept f s else count .receiveOverruns 1 s
    else s

/-- The acknowledge bit of the frame in hand is left recessive (R7). -/
def clearAck (s : State) : State := s.setBus { s.bus with ack := false }

/-- The station's own frame read back (R7, R9): an echo mismatch; or whole and good, and a receive overrun when it is to this
station or to all and the buffer is full, which R7 tests before the frame's being its own. -/
def readBack (t : Sending) (bytes : List Byte) (s : State) : State :=
  match readFrame bytes with
  | none => echoMismatch t s
  | some f => countIf (s.addressed f.dest && decide (4 ≤ s.bus.rx.length)) .receiveOverruns s

/-- A frame received in a phase that takes frames (R4, R7, R9). -/
def receive (bytes : List Byte) (s : State) : State :=
  let s := clearAck s
  match s.bus.sending with
  | some t => readBack t bytes s
  | none => settle bytes (setPhase .waitIdle (endHoldAtStart s))

/-- The receiver is taking a frame or ready to. -/
def State.listening (s : State) : Bool := s.bus.rxPhase == .ready || s.bus.rxPhase == .inFrame

/-! ## The commands -/

/-- BUS_IDLE (R4): the receiver is ready for a start bit, a frame cut off by the idle is counted, and the station
contends (log entry 7). -/
def execBusIdle (cut : Bool) (s : State) : Result :=
  .next (if s.bus.sending.isSome then s
    else
      match s.bus.rxPhase with
      | .off => s
      | .waitIdle => contend (setPhase .ready s)
      | .ready => contend (if cut then countBadFrame (setHold false s) else s)
      | .inFrame => contend (setPhase .ready (countBadFrame s)))

/-- COURTESY_HOLD_END (R6): the bus is still recessive, so the station contends. -/
def execCourtesyHoldEnd (s : State) : Result :=
  .next (if s.bus.hold ∧ s.bus.rxPhase = .ready then contend (setHold false s) else s)

/-- ARBITRATION_LOSS (R5): the station receives the rest of the frame, and its own stays at its place. -/
def execArbitrationLoss (s : State) : Result :=
  .next (match s.bus.sending with
    | some t => loseAttempt t s
    | none => s)

/-- TRANSMIT_FAILURE (R17). -/
def execTransmitFailure (cause : FailCause) (s : State) : Result :=
  .next (match s.bus.sending with
    | some t =>
      match cause with
      | .bit => failTransmit t s
      | .echo => echoMismatch t s
    | none => s)

/-- FRAME_SENT (R10). -/
def execFrameSent (heard : Bool) (s : State) : Result :=
  .next (match s.bus.sending with
    | some t => endTransmit t heard s
    | none => s)

/-- FRAME_RECEIVED (R7, R9, R11). -/
def execFrameReceived (bytes : List Byte) (s : State) : Result := .next (if s.listening then receive bytes s else s)

/-- BAD_FRAME (R4, R7): counted once, and the receiver waits for the idle; of the station's own frame it is an echo
mismatch (R9). -/
def execBadFrame (s : State) : Result :=
  .next (if s.listening then
      match s.bus.sending with
      | some t => echoMismatch t (clearAck s)
      | none => countBadFrame (setPhase .waitIdle (endHoldAtStart (clearAck s)))
    else s)

/-- The kinds an Umbrega station accepts and does not use (R2, R11). -/
def Kind.unused : Kind → Bool
  | .alert => true
  | .reply => true
  | .reset => true
  | _ => false

/-- UNUSED_FRAME_TAKEN (R2): the frame is discarded. -/
def execUnusedFrameTaken (s : State) : Result :=
  .next (match s.bus.rx with
    | f :: rest => if f.kind.unused then s.setBus { s.bus with rx := rest } else s
    | [] => s)

end Sys2Proof.Machine
end

