-- ==== Sys2Proof/Machine/Frames.lean ====
section
/-! DEFINITION. The frames a block takes from the receive buffer (R11): JOIN, JOB, START, ABORT, EXCUSE, RESUME, CLEAR,
FINISH, QUERY, CREDIT, TRACE, REACH. -/

namespace Sys2Proof.Machine

open Sys2Proof

/-- The oldest frame of the buffer taken, when it is of a kind: its place is free at that moment (R11; log entry 2). -/
def takeFrame (k : Kind) (act : Frame → State → State) (s : State) : State :=
  match s.bus.rx with
  | f :: rest => if f.kind = k then act f (s.setBus { s.bus with rx := rest }) else s
  | [] => s

/-- The job id a control frame carries (section 13.6). -/
def Frame.jobId (f : Frame) : Nat := u16At f.payload 0

/-! ## JOIN (R30 to R32) -/

/-- The role of a JOIN's role byte. -/
def roleOf : Nat → Option Role
  | 0 => some .tracer
  | 1 => some .carver
  | _ => none

/-- The peer entry a JOIN describes, when its fields are those of R29 and R30; its join order is given when written. -/
def readJoin (p : List Byte) : Option Peer :=
  match roleOf (byteAt p 1) with
  | some role =>
    if byteAt p 0 = 0xB6 ∧ byteAt p 2 ≤ 3 ∧ byteAt p 3 ≤ 7 ∧ byteAt p 4 ≤ 3 ∧ byteAt p 5 = pathCapacityOf role
        ∧ byteAt p 6 = storeCapacityOf role then
      some ⟨role, byteAt p 2, byteAt p 3, byteAt p 4, byteAt p 5, byteAt p 6, 0⟩
    else none
  | none => none

/-- Entry k written from a JOIN: the join order number goes up by one and the entry takes it (R29, R30). -/
def Roster.write (r : Roster) (k : Nat) (p : Peer) : Roster :=
  let order := (r.joinOrder + 1) % 65536
  { r with entries := r.entries.set k (some { p with joinOrder := order }), joinOrder := order }

/-- A JOIN is answered, unless one of the station's own already waits (R31). -/
def answerJoin (s : State) : State :=
  if s.bus.joinQueued || s.roster.joinDue.isSome then s else offerJoin true s

/-- The entry was or is on the station's own rail (R30). -/
def State.onOwnRail (s : State) (p : Option Peer) : Bool :=
  match p with
  | some q => q.rail == s.straps.rail.val
  | none => false

/-- A good JOIN of another station (R30 to R32; the order of the effects, log entry 40). -/
def acceptJoin (k : Nat) (p : Peer) (answer : Bool) (s : State) : State :=
  let old := s.roster.entries.getD k none
  let s := s.setRoster (s.roster.write k p)
  let s := if answer then s else answerJoin s
  let s := if !answer && old.isSome then rejoinNotice k s else s
  if s.onOwnRail old || s.onOwnRail (some p) then joinNotice k s else s

/-- A JOIN taken by the Roster (R30). One with the station's own number that fails the field checks is discarded and raises
nothing (R9 and R30 give no order: DESIGN CHOICE, log entry 46). -/
def takeJoin (f : Frame) (s : State) : State :=
  match readJoin f.payload with
  | some p =>
    if f.src = s.number then raise .duplicateNumber s
    else acceptJoin f.src p (flagOf (byteAt f.payload 7)) s
  | none => s

/-! ## START (R48, R76, R167, R169) -/

/-- The Pacer enters ENROLLING (R76). -/
def startEnrolment (s : State) : State :=
  (s.setGen { s.gen with nextSeq := 1 }).setPacer
    { Pacer.afterReset with phase := .enrolling, enrolTimer := some 2000, restarted := s.pacer.restarted }

/-- A START taken: RUNNING, the job-start lift, and the role's beginning. A setpoint of the job before that is still at the
check or passed is dropped first, so that the lift is the first setpoint of the job (DESIGN CHOICE, log entry 49). A drain
is not tested (R52 does not say what a finishing flag kept from STOPPED does here: DESIGN CHOICE, log entry 54). -/
def startJob (s : State) : State :=
  let s := setStation .running (abandonCheck s)
  let s := s.setMotion { s.motion with portLift := some .jobStart }
  match s.straps.role with
  | .carver => pumpPort (offerCredit (spindleOn s))
  | .tracer => testEnrolment (pumpPort (startEnrolment s))

/-- A START frame taken (R48). -/
def takeStart (f : Frame) (s : State) : State :=
  if s.job.state = .armed ∧ s.holdsId f.jobId = true then startJob s else strayControl s

/-! ## The end of a carver's work, and ABORT (R49, R73, R90, R114, R168, R185) -/

/-- The carver's queue emptied, its close dropped and its check abandoned (R114, R147, R155, R185). -/
def endWork (s : State) : State := abandonCheck (dropClose (emptyQueue s))

/-- The Generator's work ends (R73): the next sequence keeps its value. -/
def Generator.ended (g : Generator) : Generator :=
  { g with
    phase := .quiet, current := none, due := [], tableArrived := false, following := false, acc := 0
    exitPoint := none, passEndNoted := false }

/-- The Pacer at an ABORT (R90). -/
def Pacer.ended (p : Pacer) : Pacer := { Pacer.afterReset with cls := p.cls }

/-- The Generator's and the Pacer's work ended at an ABORT, with the moves that wait with them, the queued TRACE frames
withdrawn, and the check abandoned (R15, R73, R90, R165, R185). -/
def endStream (s : State) : State :=
  let s := (s.setGen s.gen.ended).setPacer s.pacer.ended
  let s := s.setBus s.bus.withdrawTraces
  abandonCheck (s.setMotion { s.motion with held := [], waiting := [] })

/-- The tracer's blocks at an ABORT of its job: the stream ends and the store is EMPTY (R93). -/
def endTracing (s : State) : State := endStream (s.setStore TraceStore.afterReset)

/-- The job discarded, and the assembly with it (R49). -/
def discardJob (s : State) : State :=
  setStation .idle (s.setJob { s.job with record := none, assembly := none, finishing := false })

/-- The tracer's park, with the values of the record being discarded (R90, R168): at feed class RAPID as R90, the rule of
the park, has it, where step 2 of R168 has LIFT for every closing lift (DEDUCED, log entry 17). -/
def park (s : State) : ClosingLift :=
  match s.job.record with
  | some r => ⟨r.clearance, r.feeds.rapid, .rapid, false⟩
  | none => ⟨0, 0, .rapid, false⟩

/-- An ABORT ends a carver's work: the retract unless STOPPED, and the CREDIT of the change to IDLE (R49, R117). -/
def abortCarver (c : CarverJob) (s : State) : State :=
  let old := s.job.state
  let lift := s.retract false
  let s := endWork (discardJob s)
  let s := if old = .stopped then s else closingDue lift s
  let s := if old = .armed then s else offerCreditTo (byteOf c.tracer) s
  pumpPort s

/-- An ABORT ends a tracer's work: the park unless STOPPED; its freed places go to what waits (R49, R90, R14). -/
def abortTracer (s : State) : State :=
  let old := s.job.state
  let lift := park s
  let s := endTracing (discardJob s)
  let s := if old = .stopped then s else closingDue lift s
  placeFreed (pumpPort s)

/-- The states an ABORT is taken in (R49). -/
def StationState.abortable : StationState → Bool
  | .loading => true
  | .armed => true
  | .running => true
  | .stopped => true
  | .suspended => true
  | .excused => true
  | .done => true
  | _ => false

/-- The job id names the assembly in progress (R49). -/
def State.assemblesId (s : State) (id : Nat) : Bool :=
  match s.job.assembly with
  | some a => a.jobId == id
  | none => false

/-- An ABORT taken in LOADING: the record and the assembly are discarded (R49), and of what a DONE job has left behind the
blocks end what their chapters end at every ABORT taken: a tracer's lag table, pass and TRACE frames, its moves that wait, and
either role's check (R15, R73, R90, R91, R185, against R49's row for LOADING: DEDUCED, log entry 55). There is no park (R90,
R168), the store keeps its contents (R93), and a tracer's job-start lift still due is dropped, since with the record goes its
clearance level (DESIGN CHOICE, log entry 66). -/
def abortLoading (s : State) : State :=
  let s := discardJob s
  match s.straps.role with
  | .tracer => placeFreed (endStream (s.setMotion { s.motion with portLift := none }))
  | .carver => abandonCheck s

/-- An ABORT taken (R49). -/
def abortJob (s : State) : State :=
  if s.job.state = .loading then abortLoading s
  else
    match s.carverJob with
    | some c => abortCarver c s
    | none => abortTracer s

/-- An ABORT frame taken (R49). -/
def takeAbort (f : Frame) (s : State) : State :=
  if s.job.state.abortable && (f.jobId == 0 || s.holdsId f.jobId || s.assemblesId f.jobId) then abortJob s
  else strayControl s

/-! ## EXCUSE (R50, R51, R83) -/

/-- The carver named off the enrol list of the record (R50). -/
def unlist (k : Nat) (r : JobRecord) (t : TracerJob) : JobRecord :=
  { r with work := .tracer { t with enrol := t.enrol.filter fun n => n != k } }

/-- An EXCUSE taken by a tracer (R50, R83). -/
def excuseCarver (k : Nat) (r : JobRecord) (t : TracerJob) (s : State) : State :=
  let s := s.setJob { s.job with record := some (unlist k r t) }
  if s.inJob then removeCarver k s else s

/-- An EXCUSE at a tracer (R50). -/
def tracerExcuse (f : Frame) (s : State) : State :=
  match s.job.record, s.tracerJob with
  | some r, some t =>
    if r.id = f.jobId ∧ s.job.state.takesPart = true ∧ (t.enrol.contains (byteAt f.payload 2)) = true then
      excuseCarver (byteAt f.payload 2) r t s
    else strayControl s
  | _, _ => strayControl s

/-- The station itself is excused (R51). -/
def becomeExcused (s : State) : State :=
  let old := s.job.state
  let s := setStation .excused (s.setJob { s.job with finishing := false })
  let s := if old = .armed then s else endWork s
  let s := if old = .running then closingDue (s.retract false) s else s
  pumpPort (offerCredit s)

/-- An EXCUSE at the carver it names (R51). -/
def carverExcuse (f : Frame) (s : State) : State :=
  if byteAt f.payload 2 = s.number then
    if s.holdsId f.jobId && s.job.state.takesPart then becomeExcused s
    else if s.holdsId f.jobId && s.job.state.hasLeft then s
    else strayControl s
  else s

/-- An EXCUSE frame taken (R50, R51). -/
def takeExcuse (f : Frame) (s : State) : State :=
  match s.straps.role with
  | .tracer => tracerExcuse f s
  | .carver => carverExcuse f s

/-! ## RESUME (R175, R72, R89) -/

/-- A carver back in RUNNING: spin-up unless resting, and the resume lift, the drain's retract when nothing is left. -/
def resumeCarver (s : State) : State :=
  let drained := s.job.finishing && s.pq.posted.isEmpty && s.pq.issued.isEmpty
  let s := spindleOn s
  pumpPort (s.setMotion { s.motion with portLift := some (.resume drained) })

/-- A decision held in STOPPED is reached from the entries as they stand (R89). -/
def reachHeld (s : State) : State :=
  match s.pacer.decision with
  | some .enrolment => enrolmentResult s
  | some .collection => decidePass s.pacer.pass (s.setPacer { s.pacer with decision := none })
  | none => s

/-- A pending FINISH is offered again (R88). -/
def offerHeldFinish (s : State) : State := if s.pacer.finishDue then offerFinish s else s

/-- A tracer back in RUNNING: held setpoints commanded again, the silence reported, a hold ended if it can end, and what
the Pacer held acted on (R72, R82, R88, R89). -/
def resumeTracer (s : State) : State :=
  let s := pumpPort (s.setMotion { s.motion with waiting := s.motion.held ++ s.motion.waiting, held := [] })
  let s := raiseIf s.silentCause .carverSilent s
  reachHeld (offerHeldFinish (endHold s))

/-- A RESUME taken (R175). -/
def resumeJob (s : State) : State :=
  let s := setStation s.job.remembered s
  let s := offerCredit s
  if s.isRunning then
    match s.straps.role with
    | .carver => resumeCarver s
    | .tracer => resumeTracer s
  else s

/-- A RESUME frame taken (R175). -/
def takeResume (f : Frame) (s : State) : State :=
  if s.holdsId f.jobId || (f.jobId == 0 && s.job.record.isSome) then
    if s.isStopped then (if s.bus.sensedLow then raise .resumeRefused s else resumeJob s)
    else strayControl s
  else s

/-! ## CLEAR (R189) -/

/-- The cause of a condition stands: only a level condition has one (R187). -/
def State.causeStands (s : State) : Cond → Bool
  | .carverSilent => s.silentCause
  | .driveFault => s.motion.faultStanding
  | .neighbourStale => s.guard.anyStale
  | .guardWaitLong => s.guard.waitExpired
  | .bedStop => s.bus.sensedLow
  | _ => false

/-- The set a CLEAR names (section 13.6). -/
def readSet (p : List Byte) (off : Nat) : BitVec 32 := BitVec.ofNat 32 (u16At p off * 65536 + u16At p (off + 2))

/-- The conditions of a set that a CLEAR clears: those it names whose cause does not stand (R189). -/
def State.cleared (s : State) (named : BitVec 32) : List Cond :=
  Cond.all.filter fun c => (named &&& c.mask != 0#32) && !s.causeStands c

/-- The mask of a list of conditions. -/
def maskOf (l : List Cond) : BitVec 32 := l.foldl (fun w c => w ||| c.mask) 0#32

/-- The conditions of a list cleared, with the pulls they carry (R189). -/
def clearAll (l : List Cond) (s : State) : State :=
  let s := s.setCond { s.cond with set := s.cond.set &&& ~~~(maskOf l) }
  s.setBus { s.bus with
    drivePull := s.bus.drivePull && !l.contains .driveFault
    breachPull := s.bus.breachPull && !l.contains .guardBreach }

/-- A CLEAR frame taken (R189). -/
def takeClear (f : Frame) (s : State) : State :=
  if f.jobId == 0 || s.holdsId f.jobId then clearAll (s.cleared (readSet f.payload 2)) s else strayControl s

/-! ## FINISH (R52) -/

/-- A FINISH concerns this carver: it comes from its record's tracer with its record's id. -/
def State.concernsFinish (s : State) (f : Frame) : Bool :=
  s.isCarver && s.holdsId f.jobId &&
    match s.carverJob with
    | some c => c.tracer == f.src
    | none => false

/-- The finishing flag set; in RUNNING a drain with nothing to do is complete at once (R52, R115). -/
def beginDrain (s : State) : State :=
  if s.job.finishing then s else pumpPort (testDrain (s.setJob { s.job with finishing := true }))

/-- A FINISH frame taken (R52). -/
def takeFinish (f : Frame) (s : State) : State :=
  if s.concernsFinish f && s.inJob then beginDrain s
  else if s.concernsFinish f && s.job.state.hasLeft then s
  else strayControl s

/-! ## CREDIT, TRACE and REACH -/

/-- A CREDIT frame taken: the Pacer is active on a tracer (R74, R79). -/
def creditFrame (f : Frame) (s : State) : State := if s.isTracer then takeCredit (readCredit f) s else s

/-- A TRACE frame taken (R106): on a tracer it is discarded without counting. -/
def traceFrame (f : Frame) (s : State) : State :=
  if s.isTracer then s
  else
    match readTrace f.payload with
    | some r => if s.takesTrace f.src && r.pass != 0 then intake r s else count .strayTraces 1 s
    | none => count .strayTraces 1 s

/-- The intervals a REACH reports (section 13.6). -/
def readReach (p : List Byte) : Seen where
  claim := ⟨lengthAt p 1, lengthAt p 4⟩
  announce := if 128 ≤ byteAt p 0 then some ⟨lengthAt p 7, lengthAt p 10⟩ else none

/-- A REACH of the neighbour on a side: the view is written, the check in progress toward that side acts on it, and the
breach test is made (R179, R181 to R183, R186). -/
def reachFrom (side : Side) (v : Seen) (s : State) : State :=
  let station := (s.guard.view side).station
  let s := s.setGuard (s.guard.setView side ⟨station, some ⟨v, s.now, false⟩⟩)
  let s :=
    if s.guard.side = side then
      match s.guard.phase with
      | .settle => settleOnReach v s
      | .wait => runCheck s
      | .none => s
    else s
  testBreach side s

/-- A REACH frame taken (R9, R179). -/
def takeReach (f : Frame) (s : State) : State :=
  if f.src = s.number then raise .duplicateNumber s
  else
    match sideOf f.src s with
    | some side => if byteAt f.payload 0 % 128 = s.straps.rail.val then reachFrom side (readReach f.payload) s else s
    | none => s

/-! ## QUERY (R191) -/

/-- A QUERY frame taken: one to all is discarded. -/
def takeQuery (f : Frame) (s : State) : State := if f.dest = 255 then s else answerQuery f.src f.payload s

/-! ## The commands -/

/-- JOIN (R30). -/
def execJoin (s : State) : Result := .next (takeFrame .join takeJoin s)

/-- JOB (R36). -/
def execJob (s : State) : Result := .next (takeFrame .job takeJob s)

/-- START (R48). -/
def execStart (s : State) : Result := .next (takeFrame .start takeStart s)

/-- ABORT (R49). -/
def execAbort (s : State) : Result := .next (takeFrame .abort takeAbort s)

/-- EXCUSE (R50, R51). -/
def execExcuse (s : State) : Result := .next (takeFrame .excuse takeExcuse s)

/-- RESUME (R175). -/
def execResume (s : State) : Result := .next (takeFrame .resume takeResume s)

/-- CLEAR (R189). -/
def execClear (s : State) : Result := .next (takeFrame .clear takeClear s)

/-- FINISH (R52). -/
def execFinish (s : State) : Result := .next (takeFrame .finish takeFinish s)

/-- QUERY (R191). -/
def execQuery (s : State) : Result := .next (takeFrame .query takeQuery s)

/-- CREDIT (R79). -/
def execCredit (s : State) : Result := .next (takeFrame .credit creditFrame s)

/-- TRACE (R106). -/
def execTrace (s : State) : Result := .next (takeFrame .trace traceFrame s)

/-- REACH (R179). -/
def execReach (s : State) : Result := .next (takeFrame .reach takeReach s)

end Sys2Proof.Machine
end

