-- ==== Sys2Proof/Machine/Timers.lean ====
section
/-! DEFINITION. The timers' expiries: REACH_TIMER_EXPIRY, VIEW_STALE, SETTLE_TIMER_EXPIRY, WAIT_TIMER_EXPIRY,
ENROLMENT_TIMER_EXPIRY, ENTRY_SILENT, TAIL_TIMER_EXPIRY, CREDIT_TIMER_EXPIRY, SPIN_UP_END, HIGH_LOAD_EXPIRY,
LOW_LOAD_EXPIRY, STALL. An expiry of a timer that does not run cannot arise and has no effect (log entry 1). -/

namespace Sys2Proof.Machine

open Sys2Proof

/-! ## The Neighbour Guard's -/

/-- REACH_TIMER_EXPIRY (R178): the timer restarts at 5 ms and a REACH is offered. -/
def execReachTimerExpiry (s : State) : Result :=
  .next (if s.guard.reachTimer.isSome then offerReach (s.setGuard { s.guard with reachTimer := some 50 }) else s)

/-- A view becomes stale (R179); a settle toward that side falls back to GUARD_WAIT (R181). -/
def viewStale (side : Side) (station : Option Nat) (h : Heard) (s : State) : State :=
  let s := s.setGuard (s.guard.setView side ⟨station, some { h with stale := true }⟩)
  let s := raise .neighbourStale s
  if s.guard.phase = .settle ∧ s.guard.side = side then enterWait side s else s

/-- VIEW_STALE (R179): of a view heard and not yet stale. -/
def execViewStale (side : Side) (s : State) : Result :=
  .next (match (s.guard.view side).heard with
    | some h => if h.stale then s else viewStale side (s.guard.view side).station h s
    | none => s)

/-- SETTLE_TIMER_EXPIRY (R181): the Guard looks at the last reply. -/
def execSettleTimerExpiry (s : State) : Result :=
  .next (if s.guard.phase = .settle ∧ s.guard.settleTimer.isSome = true then
      takeOnClearReply (s.setGuard { s.guard with settleTimer := none })
    else s)

/-- WAIT_TIMER_EXPIRY (R183): GUARD_WAIT_LONG is raised, and the check goes on. -/
def execWaitTimerExpiry (s : State) : Result :=
  .next (if s.guard.waitTimer.isSome then
      raise .guardWaitLong (s.setGuard { s.guard with waitTimer := none, waitExpired := true })
    else s)

/-! ## The Pacer's and the Path Queue's -/

/-- ENROLMENT_TIMER_EXPIRY (R76, R78). -/
def execEnrolmentTimerExpiry (s : State) : Result :=
  .next (if s.pacer.enrolTimer.isSome ∧ s.pacer.enrolling = true then endEnrolment s else s)

/-- An entry becomes silent; CARVER_SILENT is raised while RUNNING (R82). -/
def fallSilent (k : Nat) (e : LagEntry) (s : State) : State :=
  raiseIf s.isRunning .carverSilent (s.setPacer (s.pacer.setEntry k { e with silent := true }))

/-- ENTRY_SILENT (R82): of a participating entry that is not silent, in any phase but OFF. -/
def execEntrySilent (carver : Nat) (s : State) : Result :=
  .next (match s.pacer.entryOf carver with
    | some e => if s.pacer.phase = .off ∨ e.dropped = true ∨ e.silent = true then s else fallSilent carver e s
    | none => s)

/-- TAIL_TIMER_EXPIRY (R86): presumption becomes possible, and the end of collection is tested. -/
def execTailTimerExpiry (s : State) : Result :=
  .next (if s.pacer.tailTimer.isSome then
      testCollection (s.setPacer { s.pacer with tailTimer := none, tailExpired := true })
    else s)

/-- CREDIT_TIMER_EXPIRY (R117): a CREDIT is offered, which restarts the timer. -/
def execCreditTimerExpiry (s : State) : Result :=
  .next (if s.pq.creditTimer.isSome then offerCredit s else s)

/-! ## The spindle's -/

/-- The spindle is spinning up. -/
def Spindle.isSpinningUp : Spindle → Bool
  | .spinningUp _ => true
  | _ => false

/-- SPIN_UP_END (R169): the spindle is on, and the load is watched from now (R170). -/
def execSpinUpEnd (s : State) : Result :=
  .next (if s.motion.spindle.isSpinningUp then refreshLoad (s.setMotion { s.motion with spindle := .on }) else s)

/-- One level down; none at 25% (R170). -/
def Override.down : Override → Option Override
  | .p100 => some .p75
  | .p75 => some .p50
  | .p50 => some .p25
  | .p25 => none

/-- One level up; none at 100% (R170). -/
def Override.up : Override → Option Override
  | .p100 => none
  | .p75 => some .p100
  | .p50 => some .p75
  | .p25 => some .p50

/-- The override steps down: counted and reported (R170). -/
def relieve (o : Override) (s : State) : State :=
  raise .loadRelief (count .loadReliefs 1 (s.setMotion { s.motion with override := o }))

/-- HIGH_LOAD_EXPIRY (R170): the timer restarts while the load stays above 80%. -/
def execHighLoadExpiry (s : State) : Result :=
  .next (if s.motion.highTimer.isSome then
      refreshLoad
        (match s.motion.override.down with
          | some o => relieve o (s.setMotion { s.motion with highTimer := none })
          | none => s.setMotion { s.motion with highTimer := none })
    else s)

/-- LOW_LOAD_EXPIRY (R170): the timer restarts while the load stays below 60%. -/
def execLowLoadExpiry (s : State) : Result :=
  .next (if s.motion.lowTimer.isSome then
      refreshLoad (s.setMotion { s.motion with
        lowTimer := none, override := s.motion.override.up.getD s.motion.override })
    else s)

/-- A stall (R171): SPINDLE_STALL, spindle off, SUSPENDED, the queue emptied, a retract due, a CREDIT offered. -/
def stallCarver (s : State) : State :=
  let s := spindleOff (raise .spindleStall s)
  let s := setStation .suspended (s.setJob { s.job with finishing := false })
  let s := endWork s
  pumpPort (offerCredit (closingDue (s.retract false) s))

/-- STALL (R171): the stall timer has reached 500 ms. -/
def execStall (s : State) : Result := .next (if s.motion.stallTimer.isSome then stallCarver s else s)

end Sys2Proof.Machine
end

