-- ==== Sys2Proof/Machine/Tracing.lean ====
section
/-! DEFINITION. The tracer's own events: EMISSION, PROBE_REPORT, PASS_START_BUTTON, PASS_END_BUTTON. -/

namespace Sys2Proof.Machine

open Sys2Proof

/-- EMISSION (R57, R58): the head record passes the gate as soon as the gate is open. -/
def execEmission (s : State) : Result := .next (if s.gateOpen then emitHead s else s)

/-- The job is traced in FOLLOW mode, on a tracer (R65). -/
def State.followJob (s : State) : Option TracerJob :=
  if s.isTracer then s.tracerJob.filter fun t => t.mode == .follow else none

/-- A report in IN_PASS (R66, R69): overtravel is reported; then a hold or the table of R66; then it is the last report. -/
def passReport (t : TracerJob) (r : ProbeReport) (s : State) : State :=
  let s := raiseIf r.overtravel .probeOvertravel s
  noteReport r (if s.inHold then holdReport t r s else followReport t r s)

/-- PROBE_REPORT (R54, R65, R66): in AWAIT_START it is noted, in QUIET ignored. -/
def execProbeReport (report : ProbeReport) (s : State) : Result :=
  .next (match s.followJob with
    | some t =>
      match s.gen.phase with
      | .awaitStart => noteReport report s
      | .inPass => passReport t report s
      | _ => s
    | none => s)

/-- PASS_START_BUTTON (R65): in AWAIT_START, with the turntable arrived and the station RUNNING. -/
def execPassStartButton (s : State) : Result :=
  .next (if s.followJob.isSome ∧ s.gen.phase = .awaitStart ∧ s.gen.tableArrived = true ∧ s.isRunning = true then
      s.setGen { s.gen with phase := .inPass, following := false, acc := 0 }
    else s)

/-- PASS_END_BUTTON (R69, R71): in IN_PASS, noted during a hold, else the pass ends. -/
def execPassEndButton (s : State) : Result :=
  .next (match s.followJob with
    | some t =>
      if s.gen.phase = .inPass then
        (if s.inHold then s.setGen { s.gen with passEndNoted := true } else endFollowPass t s)
      else s
    | none => s)

end Sys2Proof.Machine
end

