-- ==== Sys2Proof/Machine/Clock.lean ====
section
/-! DEFINITION. The clock tick (section 1.6.6) that a step on an empty command queue makes: timers count 100 µs, and the
commands that have become due, or that the part performs by itself, are put in the queue (log entry 3). -/

namespace Sys2Proof.Machine

open Sys2Proof

/-! ## Counting -/

/-- A timer counts one tick. -/
def countDown (t : Option Nat) : Option Nat := t.map (· - 1)

/-- What the others do to the bed stop line at this tick (R19; log entry 25). -/
def Inputs.tick (i : Inputs) : Inputs := { i with lineLow := i.lineAhead.headD i.lineLow, lineAhead := i.lineAhead.tail }

/-- The raw level of the bed stop line is low: the station itself or another pulls it (R19). -/
def State.lineReadsLow (s : State) : Bool := s.bus.pulls || s.inputs.lineLow

/-- The filter after a tick (R20): it counts while the line reads the other level than the sensed one, and starts afresh
when it does not; in reset the line is not sensed. -/
def tickFilter (s : State) : Nat :=
  if s.job.state = .held ∨ s.lineReadsLow = s.bus.sensedLow then 0 else s.bus.filter + 1

/-- The Bus Controller after a tick. -/
def tickBus (s : State) : Bus := { s.bus with filter := tickFilter s }

/-- The Guard's timers (R178, R180, R183). -/
def Guard.tick (g : Guard) : Guard :=
  { g with
    settleTimer := countDown g.settleTimer, waitTimer := countDown g.waitTimer, reachTimer := countDown g.reachTimer }

/-- The Pacer's timers (R76, R85). -/
def Pacer.tick (p : Pacer) : Pacer :=
  { p with enrolTimer := countDown p.enrolTimer, tailTimer := countDown p.tailTimer }

/-- The spin-up timer counts (R169). -/
def Spindle.tick : Spindle → Spindle
  | .spinningUp left => .spinningUp (left - 1)
  | .off => .off
  | .on => .on

/-- The Motion Port's timers (R169 to R171). -/
def Motion.tick (m : Motion) : Motion :=
  { m with
    spindle := m.spindle.tick, highTimer := countDown m.highTimer, lowTimer := countDown m.lowTimer
    stallTimer := countDown m.stallTimer }

/-- One tick counted by every timer. -/
def countTick (s : State) : State :=
  let s := (s.setNow (s.now + 1)).setInputs s.inputs.tick
  let s := s.setBus (tickBus s)
  let s := (s.setGuard s.guard.tick).setPacer s.pacer.tick
  let s := (s.setMotion s.motion.tick).setPq { s.pq with creditTimer := countDown s.pq.creditTimer }
  s.setMap { s.map with sweepTimer := countDown s.map.sweepTimer }

/-! ## What is due -/

/-- A command in a list when p holds. -/
def when (p : Bool) (c : Instr) : List Instr := if p then [c] else []

/-- A view has gone 25 ms since its heard time (R179). -/
def viewDue (now : Nat) (v : View) : Bool :=
  match v.heard with
  | some h => !h.stale && decide (h.time + 250 ≤ now)
  | none => false

/-- The entries that have gone 50 ms since they were last heard (R82). -/
def silentDue (s : State) : List Instr :=
  if s.pacer.phase = .off then []
  else
    (s.pacer.participating.filter fun e => !e.silent && decide (e.lastHeard + 500 ≤ s.now)).map fun e =>
      .entrySilent e.carver

/-- The timers' commands that are due. -/
def timersDue (s : State) : List Instr :=
  when (!s.bus.sensedLow && decide (10 ≤ s.bus.filter)) .stopSensed
    ++ when (s.bus.sensedLow && decide (100 ≤ s.bus.filter)) .stopReleased
    ++ when (s.guard.reachTimer == some 0) .reachTimerExpiry
    ++ when (viewDue s.now s.guard.left) (.viewStale .left) ++ when (viewDue s.now s.guard.right) (.viewStale .right)
    ++ when (s.guard.settleTimer == some 0) .settleTimerExpiry ++ when (s.guard.waitTimer == some 0) .waitTimerExpiry
    ++ when (s.pacer.enrolTimer == some 0) .enrolmentTimerExpiry ++ silentDue s
    ++ when (s.pacer.tailTimer == some 0) .tailTimerExpiry ++ when (s.pq.creditTimer == some 0) .creditTimerExpiry
    ++ when (s.motion.spindle == .spinningUp 0) .spinUpEnd ++ when (s.motion.highTimer == some 0) .highLoadExpiry
    ++ when (s.motion.lowTimer == some 0) .lowLoadExpiry ++ when (s.motion.stallTimer == some 0) .stall
    ++ when (s.map.sweepTimer == some 0) .sweepEnd

/-- The command that takes a frame of a kind from the buffer (R2, R11). -/
def takeCommand : Kind → Instr
  | .alert => .unusedFrameTaken
  | .reach => .reach
  | .start => .start
  | .abort => .abort
  | .excuse => .excuse
  | .resume => .resume
  | .reset => .unusedFrameTaken
  | .clear => .clear
  | .finish => .finish
  | .credit => .credit
  | .trace => .trace
  | .job => .job
  | .join => .join
  | .query => .query
  | .reply => .unusedFrameTaken

/-- The head of the posted list can be handed on now (R111). -/
def headReady (s : State) : Bool :=
  s.headOpen &&
    match s.pq.posted with
    | e :: _ =>
      if s.seq.resting || e.kind == .passStart then s.pq.issued.isEmpty
      else e.kind == .passEnd || e.kind == .endSynth || s.setpointOpen
    | [] => false

/-- The passed setpoint can be issued now (R165). -/
def issueReady (s : State) : Bool :=
  match s.guard.passed with
  | some sp => s.canIssue sp.cutting
  | none => false

/-- What the part performs by itself as soon as it can: frames taken, the passed setpoint issued, the head handed on,
the head record emitted. -/
def workDue (s : State) : List Instr :=
  s.bus.rx.map (fun f => takeCommand f.kind) ++ when (issueReady s) .setpointIssue ++ when (headReady s) .headHandedOn
    ++ when s.gateOpen .emission

/-- The tick of an idle station. -/
def idle (s : State) : State :=
  let s := countTick s
  s.setPending (timersDue s ++ workDue s)

end Sys2Proof.Machine
end

