-- ==== Sys2Proof/Machine/Dispatch.lean ====
section
/-! DEFINITION. One arm per command of spec/opcode_table.json: the meaning of each. -/

namespace Sys2Proof.Machine

/-- A command's effect on everything but the command queue. -/
def exec (i : Instr) (s : State) : Host.Outcome State Fault Refusal :=
  match i with
  | .pinReset => Sys2Proof.Machine.execPinReset s
  | .leaveReset straps => Sys2Proof.Machine.execLeaveReset straps s
  | .memoryTestEnd passed => Sys2Proof.Machine.execMemoryTestEnd passed s
  | .busIdle cut => Sys2Proof.Machine.execBusIdle cut s
  | .courtesyHoldEnd => Sys2Proof.Machine.execCourtesyHoldEnd s
  | .arbitrationLoss => Sys2Proof.Machine.execArbitrationLoss s
  | .transmitFailure cause => Sys2Proof.Machine.execTransmitFailure cause s
  | .frameSent heard => Sys2Proof.Machine.execFrameSent heard s
  | .frameReceived bytes => Sys2Proof.Machine.execFrameReceived bytes s
  | .reset straps => Sys2Proof.Machine.execReset straps s
  | .unusedFrameTaken => Sys2Proof.Machine.execUnusedFrameTaken s
  | .join => Sys2Proof.Machine.execJoin s
  | .job => Sys2Proof.Machine.execJob s
  | .start => Sys2Proof.Machine.execStart s
  | .abort => Sys2Proof.Machine.execAbort s
  | .excuse => Sys2Proof.Machine.execExcuse s
  | .resume => Sys2Proof.Machine.execResume s
  | .clear => Sys2Proof.Machine.execClear s
  | .finish => Sys2Proof.Machine.execFinish s
  | .query => Sys2Proof.Machine.execQuery s
  | .credit => Sys2Proof.Machine.execCredit s
  | .trace => Sys2Proof.Machine.execTrace s
  | .reach => Sys2Proof.Machine.execReach s
  | .reachTimerExpiry => Sys2Proof.Machine.execReachTimerExpiry s
  | .viewStale side => Sys2Proof.Machine.execViewStale side s
  | .settleTimerExpiry => Sys2Proof.Machine.execSettleTimerExpiry s
  | .waitTimerExpiry => Sys2Proof.Machine.execWaitTimerExpiry s
  | .enrolmentTimerExpiry => Sys2Proof.Machine.execEnrolmentTimerExpiry s
  | .entrySilent carver => Sys2Proof.Machine.execEntrySilent carver s
  | .tailTimerExpiry => Sys2Proof.Machine.execTailTimerExpiry s
  | .creditTimerExpiry => Sys2Proof.Machine.execCreditTimerExpiry s
  | .emission => Sys2Proof.Machine.execEmission s
  | .probeReport report => Sys2Proof.Machine.execProbeReport report s
  | .passStartButton => Sys2Proof.Machine.execPassStartButton s
  | .passEndButton => Sys2Proof.Machine.execPassEndButton s
  | .headHandedOn => Sys2Proof.Machine.execHeadHandedOn s
  | .setpointIssue => Sys2Proof.Machine.execSetpointIssue s
  | .arrived tag probe => Sys2Proof.Machine.execArrived tag probe s
  | .sweepEnd => Sys2Proof.Machine.execSweepEnd s
  | .halted => Sys2Proof.Machine.execHalted s
  | .driveFaultReport code => Sys2Proof.Machine.execDriveFaultReport code s
  | .faultCleared => Sys2Proof.Machine.execFaultCleared s
  | .actualPositionChange x y angle => Sys2Proof.Machine.execActualPositionChange x y angle s
  | .spinUpEnd => Sys2Proof.Machine.execSpinUpEnd s
  | .loadChange load stall => Sys2Proof.Machine.execLoadChange load stall s
  | .highLoadExpiry => Sys2Proof.Machine.execHighLoadExpiry s
  | .lowLoadExpiry => Sys2Proof.Machine.execLowLoadExpiry s
  | .stall => Sys2Proof.Machine.execStall s
  | .stopSensed => Sys2Proof.Machine.execStopSensed s
  | .stopReleased => Sys2Proof.Machine.execStopReleased s
  | .badFrame => Sys2Proof.Machine.execBadFrame s

end Sys2Proof.Machine
end

