-- ==== Sys2Proof/Safety.lean ====
section
/-! DEFINITION. What claims about the station speak of: the blocks of its state and which command may write which of
them, the invariants that every step keeps, what becomes of a lift or a tracer's move that falls due, what a run of the Guard's
check makes, and the two roundings of section 1.6.5. -/

namespace Sys2Proof.Machine

open Sys2Proof

/-! ## Frames -/

/-- The blocks of the state, one per field of State. -/
inductive Block where
  | straps
  | inputs
  | now
  | seed
  | selfTest
  | bus
  | roster
  | job
  | gen
  | pacer
  | store
  | pq
  | map
  | seq
  | motion
  | guard
  | cond
  | pending
deriving DecidableEq, Repr

/-- A block is the same in two states. -/
def Block.same (s t : State) : Block → Prop
  | .straps => t.straps = s.straps
  | .inputs => t.inputs = s.inputs
  | .now => t.now = s.now
  | .seed => t.seed = s.seed
  | .selfTest => t.selfTest = s.selfTest
  | .bus => t.bus = s.bus
  | .roster => t.roster = s.roster
  | .job => t.job = s.job
  | .gen => t.gen = s.gen
  | .pacer => t.pacer = s.pacer
  | .store => t.store = s.store
  | .pq => t.pq = s.pq
  | .map => t.map = s.map
  | .seq => t.seq = s.seq
  | .motion => t.motion = s.motion
  | .guard => t.guard = s.guard
  | .cond => t.cond = s.cond
  | .pending => t.pending = s.pending

/-- Every block outside a list is the same in s and t. -/
def UnchangedBut (l : List Block) (s t : State) : Prop := ∀ b : Block, b ∉ l → b.same s t

/-- Every block but the straps, the inputs, the clock and the command queue: what a RESET may write besides the straps. -/
def stationBlocks : List Block :=
  [.selfTest, .bus, .roster, .job, .gen, .pacer, .store, .pq, .map, .seq, .motion, .guard, .cond]

/-- The blocks a command may write; it leaves every other block as it was. -/
def blocksWritten : Instr → List Block
  | .pinReset => stationBlocks
  | .leaveReset _ => [.straps, .selfTest, .bus, .roster, .job, .motion, .guard, .cond]
  | .memoryTestEnd _ => [.seed, .selfTest, .bus, .roster, .job, .map, .motion, .guard, .cond]
  | .busIdle _ => [.seed, .bus, .guard, .cond]
  | .courtesyHoldEnd => [.seed, .bus, .guard, .cond]
  | .arbitrationLoss => [.bus, .guard, .cond]
  | .transmitFailure _ => [.bus, .guard, .cond]
  | .frameSent _ => [.bus, .roster, .job, .gen, .pacer, .store, .motion, .guard, .cond]
  | .frameReceived _ => [.bus, .guard, .cond]
  | .reset _ => .straps :: stationBlocks
  | .unusedFrameTaken => [.bus]
  | .join => [.bus, .roster, .job, .gen, .pacer, .store, .motion, .guard, .cond]
  | .job => [.bus, .job, .pacer, .store, .pq, .map, .seq, .motion, .guard, .cond]
  | .start => [.bus, .job, .gen, .pacer, .store, .pq, .map, .motion, .guard, .cond]
  | .abort => [.seed, .bus, .roster, .job, .gen, .pacer, .store, .pq, .map, .seq, .motion, .guard, .cond]
  | .excuse => [.seed, .bus, .job, .gen, .pacer, .store, .pq, .map, .seq, .motion, .guard, .cond]
  | .resume => [.bus, .job, .gen, .pacer, .store, .pq, .map, .motion, .guard, .cond]
  | .clear => [.bus, .cond]
  | .finish => [.bus, .job, .pq, .map, .motion, .guard, .cond]
  | .query => [.seed, .bus, .map, .cond]
  | .credit => [.bus, .job, .gen, .pacer, .store, .motion, .guard, .cond]
  | .trace => [.bus, .pq, .cond]
  | .reach => [.bus, .guard, .cond]
  | .reachTimerExpiry => [.bus, .guard]
  | .viewStale _ => [.bus, .guard, .cond]
  | .settleTimerExpiry => [.bus, .guard]
  | .waitTimerExpiry => [.bus, .guard, .cond]
  | .enrolmentTimerExpiry => [.bus, .job, .gen, .pacer, .store, .motion, .guard, .cond]
  | .entrySilent _ => [.bus, .pacer, .cond]
  | .tailTimerExpiry => [.bus, .job, .gen, .pacer, .store, .motion, .guard, .cond]
  | .creditTimerExpiry => [.bus, .pq]
  | .emission => [.bus, .job, .gen, .pacer, .store, .motion, .guard, .cond]
  | .probeReport _ => [.bus, .gen, .cond]
  | .passStartButton => [.gen]
  | .passEndButton => [.gen]
  | .headHandedOn => [.bus, .job, .pq, .map, .seq, .motion, .guard, .cond]
  | .setpointIssue => [.bus, .job, .pq, .map, .motion, .guard, .cond]
  | .arrived _ _ => [.bus, .job, .gen, .pq, .map, .seq, .motion, .guard, .cond]
  | .sweepEnd => [.bus, .job, .pq, .map, .seq, .motion, .guard, .cond]
  | .halted => [.bus, .job, .pq, .map, .motion, .guard, .cond]
  | .driveFaultReport _ => [.inputs, .bus, .motion, .cond]
  | .faultCleared => [.inputs, .motion]
  | .actualPositionChange _ _ _ => [.inputs, .bus, .guard, .cond]
  | .spinUpEnd => [.motion]
  | .loadChange _ _ => [.inputs, .motion]
  | .highLoadExpiry => [.bus, .motion, .cond]
  | .lowLoadExpiry => [.motion]
  | .stall => [.seed, .bus, .job, .pq, .map, .seq, .motion, .guard, .cond]
  | .stopSensed => [.inputs, .bus, .job, .pq, .seq, .motion, .guard, .cond]
  | .stopReleased => [.inputs, .bus, .job, .pq, .map, .motion, .guard, .cond]
  | .badFrame => [.bus, .guard, .cond]

/-! ## Invariants -/

/-- The ages that stand in the transmit queue: of the held places and of a due-again mark (R13, R16). -/
def Bus.ages (b : Bus) : List Nat :=
  b.places.map (·.age) ++ (b.sending.bind (·.again)).toList.map (·.age)

/-- The transmit queue has the form of R13 to R16 and R18. -/
structure Bus.QueueForm (b : Bus) : Prop where
  /-- The places not in transmission stand in order: lower class first, the older first within a class (R13). -/
  sorted : b.queue.Pairwise fun f g => f.before g = true
  /-- Every age was given by an offer made already, and no two are the same (R13). -/
  agesPast : ∀ a ∈ b.ages, a < b.offers
  agesDistinct : b.ages.Nodup
  /-- At most 5 general places are held, and at most 4 of them by TRACE frames (R13, R14). -/
  general : b.generalHeld ≤ 5
  traces : b.tracesHeld ≤ 4
  /-- Each report has one place (R13). -/
  reports : ∀ k : Kind, k.isReport = true → (b.places.filter fun f => f.kind == k).length ≤ 1
  /-- Only a report is marked due again while in transmission (R16). -/
  again : ∀ x, b.sending = some x → x.again.isSome = true → x.frame.kind.isReport = true
  /-- In MUTE the queue is empty (R18). -/
  mute : b.mute = true → b.places = []

/-- Every buffer is within its size and every counter within its width. -/
structure State.Bounded (s : State) : Prop where
  /-- The receive buffer holds 4 frames (R11). -/
  rx : s.bus.rx.length ≤ 4
  /-- The drives hold 2 setpoints (R165). -/
  outstanding : s.motion.outstanding.length ≤ 2
  /-- The 240 slots of the Path Queue are each free, posted or issued (R105). -/
  slots : s.pq.free + s.pq.posted.length + s.pq.issued.length = 240
  /-- The Trace Store holds 16,384 records, and none while EMPTY or OVERFLOWED (R92). -/
  store : s.store.records.length ≤ 16384
  storeEmpty : s.store.state = .empty ∨ s.store.state = .overflowed → s.store.records = []
  /-- The fifteen counters are held at 65,535 (R190). -/
  counters : s.cond.counters.length = 15 ∧ ∀ n ∈ s.cond.counters, n ≤ 65535
  /-- Entries 26 to 31 of the condition set are clear (R187). -/
  conditions : s.cond.set &&& 0x3F#32 = 0#32
  /-- The Cut Map's list of cells is in its one canonical form (R136). -/
  map : s.map.wf
  /-- The roster has 32 entries (R29). -/
  roster : s.roster.entries.length = 32

/-- The record held is one of the station's role. -/
def Work.hasRole : Work → Role → Prop
  | .tracer _, r => r = .tracer
  | .carver _, r => r = .carver

/-- The job is started: RUNNING, or STOPPED out of RUNNING (R35, R53). -/
abbrev JobStore.started (j : JobStore) : Prop := j.state = .running ∨ (j.state = .stopped ∧ j.remembered = .running)

/-- The Job Store, the Guard's check and a STOPPED station are as chapters 3 and 12 have them. -/
structure State.Settled (s : State) : Prop where
  /-- Before a job is armed no record is held; from ARMED on one of the station's role is (R35, R46, R49). -/
  noRecord : s.job.state ∈ [.held, .starting, .ready, .idle, .failed] → s.job.record = none
  record : s.job.state ∈ [.armed, .running, .stopped, .suspended, .excused, .done] → s.job.record.isSome = true
  role : ∀ r, s.job.record = some r → r.work.hasRole s.straps.role
  /-- The last half-widths are those of the record held (R46). -/
  widths : ∀ r, s.job.record = some r → s.job.halfLeft = r.halfLeft ∧ s.job.halfRight = r.halfRight
  /-- A buffer is being assembled exactly in LOADING, which goes back to READY, IDLE or DONE (R35, R37). -/
  assembly : s.job.state = .loading ↔ s.job.assembly.isSome = true
  back : ∀ a, s.job.assembly = some a → a.back ∈ [.ready, .idle, .done] ∧ (a.back = .done ↔ s.job.record.isSome = true)
  /-- The finishing flag is of a carver that is RUNNING or STOPPED, or back in ARMED from STOPPED (R52, R53). -/
  finishing : s.job.finishing = true → s.straps.role = .carver ∧ s.job.state ∈ [.armed, .running, .stopped]
  /-- A memory is under test only in STARTING (R26). -/
  selfTest : s.selfTest.isSome = true → s.job.state = .starting
  /-- The Pacer is active on a tracer whose job is started; its enrolment timer, a held decision and a FINISH that
  waits for its place are such a tracer's too (R74, R76, R88, R89). -/
  pacer : s.pacer.phase ≠ .off ∨ s.pacer.finishDue = true → s.straps.role = .tracer ∧ s.job.started
  enrolTimer : s.pacer.enrolTimer.isSome = true → s.pacer.phase ≠ .off
  decision : s.pacer.decision.isSome = true → s.pacer.phase ≠ .off
  /-- The stall timer runs on a carver that is RUNNING (R171). -/
  stallTimer : s.motion.stallTimer.isSome = true → s.straps.role = .carver ∧ s.job.state = .running
  /-- A setpoint is at the check exactly while a check is in progress, and an announce stands exactly in SETTLE (R180,
  R183). -/
  check : s.guard.phase = .none ↔ s.guard.atCheck = none
  announce : s.guard.phase = .settle ↔ s.guard.announce.isSome = true
  settleTimer : s.guard.settleTimer.isSome = true → s.guard.phase = .settle
  waitTimer : s.guard.waitTimer.isSome = true → s.guard.phase ≠ .none
  /-- The Guard checks one setpoint at a time (R180). -/
  one : s.guard.passed.isSome = true → s.guard.atCheck = none
  /-- A STOPPED station remembers ARMED or RUNNING, and nothing of it is on its way to the drives (R53, R173). -/
  remembered : s.job.state = .stopped → s.job.remembered = .armed ∨ s.job.remembered = .running
  still : s.job.state = .stopped →
    s.motion.outstanding = [] ∧ s.guard.atCheck = none ∧ s.guard.passed = none ∧ s.pq.issued = [] ∧
      s.motion.closing = none ∧ s.motion.portLift = none ∧ s.motion.waiting = [] ∧ s.motion.spindle = .off

/-! ## Setpoints of the port's own, a tracer's moves, and the end of a hold -/

/-- The first interval lies within the second. -/
def liesWithin (a b : Interval) : Prop := b.lo ≤ a.lo ∧ a.hi ≤ b.hi

/-- What becomes of a closing lift that falls due at s, in the state t right after (R168): outstanding setpoints are halted
first; a carriage that stands in the lift already needs none, and its spindle is off; else the lift is issued from the
carriage's position when the drives move and the line is high, and is pending when not. -/
def ClosingLiftFallsDue (c : ClosingLift) (s t : State) : Prop :=
  let stands := s.motion.refArrived = true ∧ ∃ ref, s.motion.reference = some ref ∧ ref.feed = .lift ∧ ref.depth = c.level
  let open_ := s.motion.halt = .moving ∧ s.bus.sensedLow = false
  (s.motion.outstanding ≠ [] →
    t.motion.outstanding = s.motion.outstanding ∧ t.motion.halt = .halting true ∧ t.motion.closing = some c) ∧
  (s.motion.outstanding = [] → t.motion.halt = s.motion.halt ∧
    (stands → t.motion.outstanding = [] ∧ t.motion.closing = none ∧ t.motion.spindle = .off) ∧
    (¬ stands → open_ → liesWithin s.occupied s.guard.claim → t.motion.closing = none ∧
      t.motion.outstanding =
        [⟨s.motion.nextTag, s.liftHere c.level c.feed (.closingLift c) s.refTraced, c.rate⟩]) ∧
    (¬ stands → ¬ open_ → t.motion.outstanding = [] ∧ t.motion.closing = some c))

/-- What becomes of a job-start or resume lift that falls due at s, in the state t right after (R165, R167): with the Guard
free it is issued from the carriage's position where the conditions of issue hold, and waits where they do not. -/
def PortLiftFallsDue (l : PortLift) (r : JobRecord) (s t : State) : Prop :=
  let open_ := s.motion.halt = .moving ∧ s.motion.outstanding.length < 2 ∧ s.bus.sensedLow = false
  let sp := s.liftHere r.clearance .lift l.origin (l.traced s)
  s.guard.atCheck = none → s.guard.passed = none →
    (open_ → liesWithin s.occupied s.guard.claim →
      t.motion.outstanding = s.motion.outstanding ++ [⟨s.motion.nextTag, sp, r.feeds.lift⟩] ∧
      t.motion.reference = some sp ∧ t.motion.nextTag = s.motion.nextTag + 1 ∧ t.motion.portLift = none) ∧
    (¬ open_ → t.motion.outstanding = s.motion.outstanding ∧ t.motion.reference = s.motion.reference ∧
      t.motion.portLift = some l)

/-- A tracer's move is commanded at s (R165, R180): with the Guard free and nothing before it, it is at the check or has
passed; while the Guard is busy or the job-start lift is due it waits behind those that wait already. -/
def MoveCommanded (sp : Setpoint) (s t : State) : Prop :=
  let busy := s.guard.atCheck ≠ none ∨ s.guard.passed ≠ none ∨ s.motion.portLift ≠ none
  (¬ busy → s.motion.waiting = [] →
    (t.guard.atCheck = some sp ∨ t.guard.passed = some sp) ∧ t.motion = s.motion) ∧
  (busy → t.motion = { s.motion with waiting := s.motion.waiting ++ [sp] } ∧ t.guard = s.guard)

/-- The setpoint of a tracer's move (R61, R62, R65, R85): at the job's clearance level, with no traced angle. -/
def movePoint (r : JobRecord) (x y : Int) (angle : Angle) (feed : FeedClass) (m : Move) : Setpoint :=
  { x, y, depth := r.clearance, angle, feed, origin := .tracerMove m, traced := none, cutting := false, air := false
    cell := none, marks := ⟨false, false, false, false⟩ }

/-- Pass p is ordered at class c at s, and the Generator is then g (R59, R65, R87, R97, R98): a COMPLETE recording that is
dense enough is replayed from its PASS_START; else a live pass begins with its PASS_START, in FOLLOW mode with the turntable's
turn to the first face. -/
def PassOrdered (p c : Nat) (r : JobRecord) (w : TracerJob) (g : Generator) (s t : State) : Prop :=
  let replayed := s.store.state = .complete ∧ (w.mode = .follow ∨ s.store.cls ≤ c)
  let start (cls faces : Nat) : TraceRecord := ⟨g.nextSeq, p, .passStart, 0, 0, 0, 0, 0, cls, faces⟩
  let begun (x : TraceRecord) : Generator := { g with due := g.due ++ [x], nextSeq := g.nextSeq + 1 }
  let turn := movePoint r s.inputs.x s.inputs.y ((w.faces[0]?).getD 0) .rapid .turntable
  t.pacer.phase = .passing ∧ t.pacer.pass = p ∧ t.pacer.cls = c ∧ t.pacer.enrolTimer = none ∧ t.pacer.tailTimer = none ∧
  t.pacer.tailExpired = false ∧
  (replayed → t.store = { s.store with cursor := some .passStart } ∧ t.gen = begun (start s.store.cls s.store.faces)) ∧
  (¬ replayed → t.store = s.store ∧
    (w.mode = .raster → t.gen = { begun (start c w.faces.length) with
      current := some ⟨p, c⟩, face := 0, row := 0, col := 0, back := false }) ∧
    (w.mode = .follow → t.gen = { begun (start c 1) with
        current := some ⟨p, c⟩, phase := .awaitStart, tableArrived := false } ∧
      (t.guard.atCheck = some turn ∨ t.guard.passed = some turn ∨ turn ∈ t.motion.waiting)))

/-- The decision reached at s from the entries as they stand in `lag`, for pass p, or for the end of enrolment with p = 0 (R78,
R87, R88): the next pass ordered at the finest class asked for, or the job finished: JOB_DONE, PASS_LIMIT when a carver still
wanted a pass, and the FINISH in a general place with the tracer DONE, or due when no place can be had. -/
def PassDecided (p : Nat) (r : JobRecord) (w : TracerJob) (lag : List LagEntry) (g : Generator) (s t : State) : Prop :=
  let wants (e : LagEntry) := e ∈ lag ∧ e.dropped = false ∧ e.wants = true
  let room := s.bus.mute = false ∧ s.bus.generalHeld < 5
  t.pacer.lag = lag ∧
  (p ≠ w.passLimit → ∀ e, wants e → (∀ x, wants x → e.cls ≤ x.cls) → e.cls ≤ 3 →
    t.job = { s.job with state := .running } ∧ PassOrdered (p + 1) e.cls r w g s t) ∧
  (p = w.passLimit ∨ (∀ e, ¬ wants e) →
    t.gen = g ∧ t.store = s.store ∧ t.cond.has .jobDone = true ∧ ((∃ e, wants e) → t.cond.has .passLimit = true) ∧
    (room → t.job = { s.job with state := .done } ∧ t.pacer.phase = .off ∧ t.pacer.finishDue = false ∧
      t.pacer.enrolTimer = none ∧ t.pacer.tailTimer = none ∧
      ∃ x ∈ t.bus.queue, x.kind = .finish ∧ x.dest = 255 ∧ x.payload = put16 r.id) ∧
    (¬ room → t.job = { s.job with state := .running } ∧ t.pacer.finishDue = true))

/-- The Generator after the end of a hold in FOLLOW mode (R70, R71): a LIFT where the stylus left the groove, or where it
stands when it outran the stream; then, with pass-end noted, a LIFT if it still follows and the PASS_END, neither of which
sets the accumulator to 0 (log entry 63). -/
def Generator.holdEnded (g : Generator) (w : TracerJob) : Generator :=
  let last : Point := (g.last.map (·.at_)).getD ⟨0, 0⟩
  let skipLift := g.exitPoint = none ∧ g.following = true ∧ 2 * w.spacing < (g.acc : Int)
  let angle : Angle := (w.faces[if w.mode = .follow then 0 else g.face]?).getD 0
  let lift (p : Point) (n : Seq) : TraceRecord := ⟨n, g.pass, .lift, saturate p.u, saturate p.v, 0, angle, 0, 0, 0⟩
  let end_ (n : Seq) : TraceRecord := ⟨n, g.pass, .passEnd, 0, 0, 0, 0, 0, 0, 0⟩
  let follows := g.following && !decide skipLift
  let first : List (Seq → TraceRecord) := match g.exitPoint with
    | some p => [lift p]
    | none => if skipLift then [lift last] else []
  let second : List (Seq → TraceRecord) :=
    if g.passEndNoted then (if follows then [lift last, end_] else [end_]) else []
  let built := (first ++ second).mapIdx fun i x => x (g.nextSeq + BitVec.ofNat 16 i)
  { g with
    due := g.due ++ built, nextSeq := g.nextSeq + BitVec.ofNat 16 built.length, exitPoint := none, passEndNoted := false
    acc := if first.isEmpty then g.acc else 0
    following := follows && !g.passEndNoted }

/-! ## The Guard's check -/

/-- A run of the check of sp from its start, with N formed afresh, in a job of record r, takes the Guard from g to h (R180,
R181, R183): within the claim sp passes; beyond it on one side the claim becomes N and sp passes where there is no neighbour;
where the neighbour is fresh and keeps the guard gap N is announced; else the check waits. The phase is NONE once sp has passed
(log entry 64). -/
def CheckRuns (sp : Setpoint) (r : JobRecord) (g h : Guard) : Prop :=
  let n : Interval := ⟨min g.claim.lo (sp.x - r.halfLeft), max g.claim.hi (sp.x + r.halfRight)⟩
  let passes (g : Guard) : Guard := { g with
    atCheck := none, passed := some sp, phase := .none, settleTimer := none, waitTimer := none, waitExpired := false }
  (n = g.claim → h = passes g) ∧
  ∀ side : Side,
    (side = .right ∧ n.lo = g.claim.lo ∧ g.claim.hi < n.hi) ∨ (side = .left ∧ n.hi = g.claim.hi ∧ n.lo < g.claim.lo) →
    let near (iv : Interval) : Int := match side with
      | .left => n.lo - iv.hi
      | .right => iv.lo - n.hi
    let clear := ∃ v, (g.view side).heard = some v ∧ v.stale = false ∧ r.gap ≤ near v.seen.claim ∧
      ∀ a, v.seen.announce = some a → r.gap ≤ near a
    ((g.view side).station = none → h = passes { g with claim := n }) ∧
    ((g.view side).station.isSome = true → clear → h = { g with
      announce := some n, announceSent := false, phase := .settle, side := side, settleTimer := some 120
      heard := false, reply := none }) ∧
    ((g.view side).station.isSome = true → ¬ clear → h = { g with
      phase := .wait, side := side, settleTimer := none
      waitTimer := if g.waitExpired then none else some (g.waitTimer.getD 20000) })

/-- The claim is recomputed to iv in a job of record r and takes the Guard from g to h (R183, R184): a setpoint in GUARD_WAIT
has its check run again when the claim has changed by it. -/
def ClaimRecomputed (iv : Interval) (r : JobRecord) (g h : Guard) : Prop :=
  (g.phase ≠ .wait ∨ iv = g.claim → h = { g with claim := iv }) ∧
  (g.phase = .wait → iv ≠ g.claim → ∀ sp, g.atCheck = some sp → g.announce = none →
    CheckRuns sp r { g with claim := iv } h)

/-- What a station with its carriage at x needs of the rail (R184): the hull of its occupied interval and of those at the
targets outstanding, with the half-widths of record r. -/
def needed (r : JobRecord) (x : Int) (outstanding : List Outstanding) : Interval :=
  ⟨(outstanding.map fun o => o.sp.x - r.halfLeft).foldl min (x - r.halfLeft),
    (outstanding.map fun o => o.sp.x + r.halfRight).foldl max (x + r.halfRight)⟩

/-! ## Rounding -/

/-- q is n / d rounded to the nearest whole number, a half away from zero: RHA of section 1.6.5. -/
def RoundsHalfAway (q n : Int) (d : Nat) : Prop :=
  2 * (n - q * d).natAbs ≤ d ∧ (2 * (n - q * d).natAbs = d → n.natAbs ≤ (q * d).natAbs)

/-- q is n / d rounded toward minus infinity: FLOOR of section 1.6.5. -/
def RoundsDown (q n : Int) (d : Nat) : Prop := q * d ≤ n ∧ n < (q + 1) * d

end Sys2Proof.Machine
end

