-- ==== Sys2Proof/Certificates/Slice0/Obligations.lean ====
section
/-! DEFINITION. The statements about the station, for the provers. Each docstring names the rules of spec/ it formalises;
where a clause rests on the model's own choice it names the log entry of notes/assumptions/. -/

section Statements

open Sys2Proof Sys2Proof.Machine

/-! ## The station as a whole -/

/-- A step takes the command at the front of the queue and is exec of it with the queue's rest. On an empty queue it is the
tick of 100 µs (the model's choice, log entry 3): every timer that runs counts one tick, the others' pull of the bed stop line
becomes the next of those ahead (log entry 25), the filter counts the ticks at which the line reads the other level than the
sensed one, pulled by the station or by the others (R19, R20), the commands of the timers that have run out and then of the
part's own work are queued, and nothing else changes. STOP_SENSED is due after ten such ticks, STOP_RELEASED after a hundred. -/
def Obligations.StepTakesTheFrontCommand : Prop :=
  ∀ s : State,
    (∀ (c : Instr) (rest : List Instr), s.pending = c :: rest → step s = exec c { s with pending := rest }) ∧
    (s.pending = [] → ∃ t, step s = .next t ∧ t.now = s.now + 1 ∧
      let less (timer : Option Nat) : Option Nat := timer.map fun n => n - 1
      let pulls := s.bus.drivePull || s.bus.breachPull
      let low := pulls || t.inputs.lineLow
      t.inputs = { s.inputs with
        lineLow := (s.inputs.lineAhead.head?).getD s.inputs.lineLow, lineAhead := s.inputs.lineAhead.drop 1 } ∧
      t.bus = { s.bus with filter :=
        if s.job.state = .held then 0 else if low = s.bus.sensedLow then 0 else s.bus.filter + 1 } ∧
      t.guard = { s.guard with
        settleTimer := less s.guard.settleTimer, waitTimer := less s.guard.waitTimer
        reachTimer := less s.guard.reachTimer } ∧
      t.pacer = { s.pacer with enrolTimer := less s.pacer.enrolTimer, tailTimer := less s.pacer.tailTimer } ∧
      t.motion = { s.motion with
        spindle := (match s.motion.spindle with
          | .spinningUp n => .spinningUp (n - 1)
          | other => other)
        highTimer := less s.motion.highTimer, lowTimer := less s.motion.lowTimer
        stallTimer := less s.motion.stallTimer } ∧
      t.pq = { s.pq with creditTimer := less s.pq.creditTimer } ∧
      t.map = { s.map with sweepTimer := less s.map.sweepTimer } ∧
      t.pending = timersDue t ++ workDue t ∧
      (t.bus.sensedLow = false → 10 ≤ t.bus.filter → Instr.stopSensed ∈ t.pending) ∧
      (Instr.stopSensed ∈ t.pending → t.bus.sensedLow = false ∧ 10 ≤ t.bus.filter) ∧
      (t.bus.sensedLow = true → 100 ≤ t.bus.filter → Instr.stopReleased ∈ t.pending) ∧
      (Instr.stopReleased ∈ t.pending → t.bus.sensedLow = true ∧ 100 ≤ t.bus.filter) ∧
      UnchangedBut [.now, .inputs, .bus, .pacer, .pq, .map, .motion, .guard, .pending] s t)

/-- The frame of every command: a command that answers a next state leaves every block it does not write as it was; no
command moves the clock or touches the command queue. -/
def Obligations.CommandsWriteOnlyTheirBlocks : Prop :=
  ∀ (c : Instr) (s t : State), exec c s = .next t → UnchangedBut (blocksWritten c) s t

/-- R13 to R16, R18: every step keeps the form of the transmit queue: its order, the ages, the numbers of places of each
kind, the due-again mark of reports only, and nothing queued in MUTE. -/
def Obligations.StepKeepsTheTransmitQueue : Prop :=
  ∀ s t : State, s.bus.QueueForm → step s = .next t → t.bus.QueueForm

/-- R11, R29, R92, R105, R136, R165, R187, R190: every step keeps every buffer within its size, the 240 slots accounted for,
the counters within their width, the unused conditions clear and the Cut Map's list in its one form. -/
def Obligations.StepKeepsTheBuffersBounded : Prop := ∀ s t : State, s.Bounded → step s = .next t → t.Bounded

/-- R35, R46, R49, R52, R53, R74, R173, R180, R183: every step keeps the station settled: a record of its role is held
exactly where the job state says so, the Guard's check, announce and timers agree with its phase, and in STOPPED nothing is
on its way to the drives and the spindle is off. That the phase is NONE for a passed setpoint is DEDUCED (log entry 64). -/
def Obligations.StepKeepsTheStationSettled : Prop := ∀ s t : State, s.Settled → step s = .next t → t.Settled

/-- After reset every invariant holds and no command waits; the station is held in reset (the model's choice of the moment,
log entry 4). -/
def Obligations.ResetMeetsTheInvariants : Prop :=
  State.reset.bus.QueueForm ∧ State.reset.Bounded ∧ State.reset.Settled ∧ State.reset.pending = [] ∧
    State.reset.job.state = .held

/-- R18, R19, R143 to R145, R187, R189, R190: what stands until it is undone. No command but a reset lowers a counter or
ends MUTE; none but a reset and CLEAR clears a condition or lets the bed stop line go; none but a reset and an arming JOB
lowers the cleared depth of a cell. -/
def Obligations.OnlyTheNamedCommandsUndo : Prop :=
  ∀ (c : Instr) (s t : State), exec c s = .next t → c ≠ .pinReset → (∀ p, c ≠ .reset p) →
    (s.cond.counters.length = 15 → (∀ n ∈ s.cond.counters, n ≤ 65535) → ∀ k : Counter, s.cond.count k ≤ t.cond.count k) ∧
    (s.bus.mute = true → t.bus.mute = true) ∧
    (c ≠ .clear →
      (∀ k : Cond, s.cond.has k = true → t.cond.has k = true) ∧
      (s.bus.drivePull = true → t.bus.drivePull = true) ∧ (s.bus.breachPull = true → t.bus.breachPull = true)) ∧
    (c ≠ .job → s.map.wf → ∀ n : Nat, (s.map.read n).cleared ≤ (t.map.read n).cleared)

/-! ## The Transform and the air test (chapters 8 and 9) -/

/-- R123 to R133 with R122's roundings: the candidate of an entry. A SURFACE, STROKE or LIFT entry has its lateral position
scaled, mirrored, offset and saturated, its angle phased, and out of travel it is a lift to the clamped point; a LIFT is a
lift at its point; a SURFACE or STROKE is cut to the least of its target depth, the floor and Dmax, or lifts at its own point
where that is above the clearance level, with no mark set for it (R130, R133); that where only the floor lies so a range clip,
a letter cap and an envelope clip are dropped too is the model's choice (log entry 60). A GAP_LIFT is a lift at the reference setpoint. The marks of
every other candidate are those set on the way. -/
def Obligations.TransformFollowsItsRules : Prop :=
  ∀ (r : JobRecord) (c : CarverJob) (floor : Int) (kind : StepKind) (ref : Setpoint) (e : Entry), 1 ≤ c.sden →
    ∀ mx my fs fv : Int,
    RoundsHalfAway mx (e.u * c.snum) c.sden → RoundsHalfAway my (e.v * c.snum) c.sden →
    RoundsDown fs (e.depth * c.snum) c.sden → RoundsDown fv (e.width * c.snum * c.letterFactor) (c.sden * 256) →
    let sat (i : Int) : Int := if i < -8388608 then -8388608 else if 8388607 < i then 8388607 else i
    let within (lo hi i : Int) : Int := if i < lo then lo else if hi < i then hi else i
    let x0 := if c.mirror then c.xOff - mx else c.xOff + mx
    let y0 := c.yOff + my
    let x := sat x0
    let y := sat y0
    let outside := x < r.xMin ∨ r.xMax < x ∨ y < r.yMin ∨ r.yMax < y
    let letter := e.kind = .stroke ∧ kind = .letter
    let ds := sat (fs + c.dOff)
    let dc0 := if letter then ds + (if c.letterLimit < fv then c.letterLimit else fv) else ds
    let dc := sat dc0
    let dcmd := min dc (min floor c.dMax)
    let a' : Angle := if c.reversed then c.phase - e.angle else c.phase + e.angle
    let clip := x ≠ x0 ∨ y ≠ y0
    let clipDepth := ds ≠ fs + c.dOff ∨ dc ≠ dc0
    let sp := transform r c floor kind ref e
    let lifts := sp.cutting = false ∧ sp.feed = .lift ∧ sp.depth = r.clearance
    (e.kind = .surface ∨ e.kind = .stroke ∨ e.kind = .lift → r.xMin ≤ r.xMax → r.yMin ≤ r.yMax →
      sp.angle = a' ∧ sp.traced = some e.angle ∧ sp.origin = .entry ∧
      (outside → lifts ∧ sp.x = within r.xMin r.xMax x ∧ sp.y = within r.yMin r.yMax y ∧
        sp.marks = ⟨decide clip, true, false, false⟩) ∧
      (¬ outside → sp.x = x ∧ sp.y = y ∧
        (e.kind = .lift → lifts ∧ sp.marks = ⟨decide clip, false, false, false⟩) ∧
        (e.kind ≠ .lift →
          (dcmd < r.clearance → lifts ∧ sp.marks = ⟨false, false, false, false⟩) ∧
          (r.clearance ≤ dcmd → sp.cutting = true ∧ sp.depth = dcmd ∧
            sp.marks = ⟨decide (clip ∨ clipDepth), false, decide (letter ∧ c.letterLimit < fv),
              decide (c.dMax < dc)⟩)))) ∧
    (e.kind = .gapLift → lifts ∧ sp.x = ref.x ∧ sp.y = ref.y ∧ sp.angle = ref.angle ∧ sp.traced = ref.traced ∧
      sp.marks = ⟨false, false, false, false⟩)

/-- R138 to R141: a position is tracked when its traced angle stands in the face table and its column and row, rounded down,
lie in 0 to 63; its cell is then face × 4,096 + row × 64 + column (the model's own numbering of the cells, log entry 29). A
cutting candidate is air when it is tracked and not deeper than the cleared depth of its cell; air goes at RAPID, a cut after
a setpoint at the clearance level at PLUNGE, any other at CUT. A lift is not tested. -/
def Obligations.AirTestFollowsItsRules : Prop :=
  ∀ (m : CutMap) (r : JobRecord) (c : CarverJob) (ref sp : Setpoint) (col row : Int), c.faces.Nodup →
    RoundsDown col (sp.x - c.baseX) (2 ^ c.shift) → RoundsDown row (sp.y - c.baseY) (2 ^ c.shift) →
    let onMap := 0 ≤ col ∧ col ≤ 63 ∧ 0 ≤ row ∧ row ≤ 63
    (∀ (i : Nat) (a : Angle), c.faces[i]? = some a → sp.traced = some a → onMap →
      c.cellOf sp.x sp.y sp.traced = some (i * 4096 + row.toNat * 64 + col.toNat)) ∧
    (¬ onMap ∨ sp.traced = none ∨ (∃ a, sp.traced = some a ∧ a ∉ c.faces) → c.cellOf sp.x sp.y sp.traced = none) ∧
    (sp.cutting = false → m.airTest r c ref sp = sp) ∧
    (sp.cutting = true → ∃ air : Bool, m.airTest r c ref sp = { sp with
        cell := c.cellOf sp.x sp.y sp.traced, air := air
        feed := if air then .rapid else if ref.depth = r.clearance then .plunge else .cut } ∧
      (air = true ↔ ∃ n, c.cellOf sp.x sp.y sp.traced = some n ∧ sp.depth ≤ (m.read n).cleared))

/-! ## Reset and start-up (chapter 2) -/

/-- R21 to R26, R29, R164: in every state PIN_RESET takes every block to its after-reset state and the outputs to rest; the
claim is the carriage's position with half-widths 0 (R176); the values the spec does not give are the model's choice (log
entry 5). The straps, the inputs, the clock and the command queue are not the reset's to change (log entry 36). A station held
in reset samples its straps and enters STARTING: with the self-check strap at run the first memory of its role is under test;
at skip, STARTING ends at once with result 0. The own entry carries result 0 from the first (log entry 45). In any other state
there is nothing to leave (log entry 1). A RESET accepted for this station has, at the end of its acknowledge slot, the effect
of a pin reset and the release from it; with no accepted RESET waiting there is nothing to do (log entry 1). -/
def Obligations.ResetsHoldAndReleaseTheStation : Prop :=
  ∀ s : State,
    (∃ t, exec .pinReset s = .next t ∧
      t.selfTest = none ∧ t.bus = Bus.afterReset ∧ t.roster = Roster.afterReset ∧ t.job = JobStore.afterReset ∧
      t.gen = Generator.afterReset ∧ t.pacer = Pacer.afterReset ∧ t.store = TraceStore.afterReset ∧
      t.pq = PathQueue.afterReset ∧ t.map = CutMap.afterReset ∧ t.seq = Sequencer.afterReset ∧
      t.motion = Motion.afterReset ∧ t.guard = Guard.afterReset s.inputs.x ∧ t.cond = ConditionUnit.afterReset ∧
      UnchangedBut stationBlocks s t ∧
      pullsLine t = false ∧ lamps t = (.off, .off) ∧ stopCommand t = true ∧ spindleOutput t = false) ∧
    ∀ p : Straps,
    (s.job.state = .held → p.selfCheck = true → ∃ t, exec (.leaveReset p) s = .next t ∧
      t.straps = p ∧ t.job = { s.job with state := .starting } ∧
      t.selfTest = some (if p.role = .carver then 1 else 3) ∧
      t.roster = { s.roster with entries := s.roster.entries.set p.number.val (some (ownPeer p 0)) } ∧
      UnchangedBut [.straps, .selfTest, .roster, .job] s t) ∧
    (s.job.state = .held → p.selfCheck = false → ∃ t, exec (.leaveReset p) s = .next t ∧
      t.straps = p ∧ t.job = { s.job with state := .ready } ∧ t.selfTest = none ∧
      t.roster.entries = s.roster.entries.set p.number.val (some (ownPeer p 0)) ∧
      t.bus.rxPhase = .waitIdle ∧ t.guard.reachTimer = some 50 ∧
      UnchangedBut [.straps, .selfTest, .bus, .roster, .job, .motion, .guard, .cond] s t) ∧
    (s.job.state ≠ .held → exec (.leaveReset p) s = .next s) ∧
    (s.bus.resetDue = true → ∃ h, exec .pinReset s = .next h ∧ ∃ t, exec (.leaveReset p) h = .next t ∧
      exec (.reset p) s = .next t ∧ t.straps = p ∧ t.job.state ≠ .held) ∧
    (s.bus.resetDue = false → exec (.reset p) s = .next s)

/-- R26 to R30: the end of one memory's test. A carver whose slot memory passes goes on to its Cut Map memory; otherwise
STARTING ends, in READY with result 0 or in FAILED with the failing memory's code and SELF_CHECK_FAIL, the own entry
written with the result, the receiver waiting for the idle, the REACH timer running; with an empty transmit queue, no
ALERT pending and no drive fault standing, the REACH and the start-up JOIN stand in the queue in that order (log entry 34).
What a failed memory holds is the model's choice: a Cut Map is marked failed under the number of a free value (log entries 13
and 31), and any other memory keeps its after-reset content (log entry 44). -/
def Obligations.MemoryTestEndsStarting : Prop :=
  ∀ s : State, ∀ code, s.selfTest = some code → code ∈ [1, 2, 3] → ∀ passed : Bool,
    (passed = true → code = 1 → ∃ t, exec (.memoryTestEnd passed) s = .next t ∧
      t.selfTest = some 2 ∧ UnchangedBut [.selfTest] s t) ∧
    (passed = false ∨ code ≠ 1 → ∃ t, exec (.memoryTestEnd passed) s = .next t ∧
      t.selfTest = none ∧ t.job = { s.job with state := if passed then .ready else .failed } ∧
      t.roster.entries =
        s.roster.entries.set s.straps.number.val (some (ownPeer s.straps (if passed then 0 else code))) ∧
      t.bus.rxPhase = .waitIdle ∧ t.guard.reachTimer = some 50 ∧
      (passed = false → t.cond.has .selfCheckFail = true) ∧
      (passed = false → code = 2 → t.map = { s.map with failed := some s.seed }) ∧
      (passed = true ∨ code ≠ 2 → t.map = s.map) ∧
      (s.roster.entries.length = 32 → s.bus.queue = [] → s.bus.sending = none → s.bus.mute = false →
        s.cond.risen = none → s.inputs.driveFault = none →
        t.bus.queue.map (fun f => (f.kind, f.dest, f.payload)) =
          [(.reach, 255#8, []),
           (.join, 255#8, [0xB6#8, byteOf (roleCode s.straps.role), byteOf s.straps.rail.val, byteOf s.straps.slot.val,
              byteOf (if passed then 0 else code), byteOf (pathCapacityOf s.straps.role),
              byteOf (storeCapacityOf s.straps.role), 0#8])]) ∧
      UnchangedBut [.seed, .selfTest, .bus, .roster, .job, .map, .motion, .guard, .cond] s t)

/-! ## The bed bus (chapter 1), the reports and the lamps -/

/-- R4, R6, R16, R18, R181, R188: at an idle the receiver is ready, a frame the idle cut off is counted, and the station
contends: the head frame is in transmission, a report's payload filled now and its owner told. With an empty queue, in
MUTE, or held back by a courtesy hold that no other station's start has ended, it does not. At the end of its courtesy hold
the station contends at once. That BUS_IDLE carries whether a frame was cut off, may come while the receiver is ready, and
then ends a hold by the start it tells of, is the model's choice (log entry 7); so is the count of the station's own frame
cut short by a failure, which the idle finds inside a frame (log entry 37). -/
def Obligations.ContentionStartsTheHeadFrame : Prop :=
  ∀ s : State, s.bus.sending = none →
    (∀ cut : Bool, s.bus.rxPhase ≠ .off →
      let heldBack := s.bus.hold && !(s.bus.rxPhase == .ready && cut)
      let counted := s.bus.rxPhase == .inFrame || (s.bus.rxPhase == .ready && cut)
      let cond := if counted then s.cond.countUp .badCheckFrames 1 else s.cond
      (∀ f rest, s.bus.queue = f :: rest → s.bus.mute = false → heldBack = false →
        ∃ t, exec (.busIdle cut) s = .next t ∧
          t.bus = { s.bus with
            queue := rest, sending := some ⟨{ f with payload := fillPayload f s }, none⟩, rxPhase := .inFrame
            hold := false } ∧
          t.guard = (if f.kind = .reach then { s.guard with announceSent := s.guard.announce.isSome } else s.guard) ∧
          t.cond = (if f.kind = .alert then { cond with risen := none, inflight := cond.risen } else cond) ∧
          UnchangedBut [.seed, .bus, .guard, .cond] s t) ∧
      (s.bus.queue = [] ∨ s.bus.mute = true ∨ heldBack = true →
        ∃ t, exec (.busIdle cut) s = .next t ∧
          t.bus = { s.bus with rxPhase := .ready, hold := heldBack } ∧ t.cond = cond ∧
          UnchangedBut [.bus, .cond] s t)) ∧
    (s.bus.rxPhase = .ready → s.bus.hold = true →
      (∀ f rest, s.bus.queue = f :: rest → s.bus.mute = false →
        ∃ t, exec .courtesyHoldEnd s = .next t ∧
          t.bus = { s.bus with
            queue := rest, sending := some ⟨{ f with payload := fillPayload f s }, none⟩, rxPhase := .inFrame
            hold := false } ∧
          UnchangedBut [.seed, .bus, .guard, .cond] s t) ∧
      (s.bus.queue = [] ∨ s.bus.mute = true →
        ∃ t, exec .courtesyHoldEnd s = .next t ∧ t.bus = { s.bus with hold := false } ∧ UnchangedBut [.bus] s t))

/-- R1 to R3, R7: a receiver reads a frame from bytes exactly when they are, byte for byte, what a station puts on the wire
for it: arbitration, kind, destination and length bytes, a payload of a length its kind allows, and the check byte. -/
def Obligations.ReadFrameTakesExactlyWireBytes : Prop :=
  ∀ (bytes : List Byte) (f : Frame), readFrame bytes = some f ↔
    bytes = wireBytes f.src f.kind f.dest f.payload ∧ f.src < 32 ∧ f.kind.allows f.payload.length = true

/-- R5, R6, R9, R13, R16 to R18: an attempt that is lost. After arbitration loss the frame is back at its place with its old
age, a report's payload to be filled afresh and its due-again mark dropped; neither the consecutive failures nor any counter
nor the receiver changes. A transmit failure of either cause is counted, total and in a row, the frame stays queued, and a
courtesy hold starts with the strap on; the sixteenth in a row empties the queue and enters MUTE with BUS_MUTE. An echo
mismatch ends a whole frame, which is also a bad check frame (log entry 8). -/
def Obligations.LostAttemptsKeepTheFrame : Prop :=
  ∀ s : State, ∀ x, s.bus.sending = some x →
    let back := place { x.frame with payload := if x.frame.kind.isReport then [] else x.frame.payload } s.bus.queue
    (∃ t, exec .arbitrationLoss s = .next t ∧
      t.bus = { s.bus with sending := none, queue := back } ∧
      t.cond.set = s.cond.set ∧ t.cond.counters = s.cond.counters ∧
      t.cond.risen = (if x.frame.kind = .alert then s.cond.inflight.or s.cond.risen else s.cond.risen) ∧
      UnchangedBut [.bus, .guard, .cond] s t) ∧
    ∀ cause : FailCause,
    ∃ t, exec (.transmitFailure cause) s = .next t ∧
      t.bus.sending = none ∧ t.bus.failures = s.bus.failures + 1 ∧ t.bus.hold = s.straps.courtesy ∧
      t.bus.rxPhase = (if cause = .echo then .waitIdle else s.bus.rxPhase) ∧ t.bus.rx = s.bus.rx ∧
      (s.bus.failures < 15 → t.bus.mute = s.bus.mute ∧ t.cond.set = s.cond.set ∧ t.bus.queue = back) ∧
      (15 ≤ s.bus.failures → t.bus.mute = true ∧ t.bus.queue = [] ∧ t.cond.set = s.cond.set ||| Cond.busMute.mask) ∧
      t.cond.counters = (if cause = .echo then
          (s.cond.countUp .transmitFailures 1).countUp .badCheckFrames 1 else s.cond.countUp .transmitFailures 1).counters ∧
      UnchangedBut [.bus, .guard, .cond] s t

/-- R10, R14, R16, R85, R178, R181: a frame of the station's own that ended heard or unheard leaves its place; a report
marked due again holds the place anew, aged at the offer that marked it; the consecutive failures go to 0, an unheard frame
is counted, a courtesy hold starts with the strap on, and the block that offered the frame is told. A freed general place
goes to the waiting kind of lowest class that can be taken: FINISH before TRACE before JOIN; with none waiting nothing else
changes. -/
def Obligations.FrameSentFreesItsPlace : Prop :=
  ∀ s : State, ∀ x, s.bus.sending = some x → ∀ heard : Bool,
    (s.pacer.finishDue = false → s.gen.due = [] → s.roster.joinDue = none →
    ∃ t, exec (.frameSent heard) s = .next t ∧
      t.bus = { s.bus with
        sending := none, failures := 0, hold := s.straps.courtesy, rxPhase := .waitIdle
        queue := match x.again with
          | some g => place ⟨x.frame.kind, g.dest, [], g.age⟩ s.bus.queue
          | none => s.bus.queue } ∧
      t.cond.counters = (if heard then s.cond else s.cond.countUp .unheardFrames 1).counters ∧
      t.cond.set = s.cond.set ∧ t.cond.risen = s.cond.risen ∧
      t.cond.inflight = (if x.frame.kind = .alert then none else s.cond.inflight) ∧
      t.guard = (if x.frame.kind = .reach then
          { s.guard with
            reports := (s.guard.reports + 1) % 256
            heard := s.guard.heard || (heard && s.guard.announceSent)
            announceSent := false }
        else s.guard) ∧
      t.pacer = (if x.frame.kind = .trace ∧ s.pacer.phase = .collecting ∧ s.pacer.tailExpired = false ∧
          s.pacer.tailTimer = none ∧ byteAt x.frame.payload 3 = 5 ∧ byteAt x.frame.payload 2 = s.pacer.pass then
          { s.pacer with tailTimer := some 1000 } else s.pacer) ∧
      UnchangedBut [.bus, .pacer, .guard, .cond] s t) ∧
    (x.frame.kind.isReport = false → x.again = none → s.bus.mute = false → s.bus.generalHeld ≤ 5 →
    ∃ t, exec (.frameSent heard) s = .next t ∧
      (s.pacer.finishDue = true → s.isRunning = true →
        t.job.state = .done ∧ t.pacer.finishDue = false ∧ t.gen = s.gen ∧ t.roster = s.roster ∧
        ∃ f ∈ t.bus.queue, f.kind = .finish ∧ f.dest = 255 ∧ f.payload = put16 s.jobId) ∧
      (s.pacer.finishDue = false → s.isRunning = true → s.straps.role = .tracer → s.gen.phase ≠ .awaitStart →
        (s.bus.queue.filter fun f => f.kind == .trace).length < 4 → s.tracerJob.isSome = true →
        ∀ r rest, s.gen.due = r :: rest → s.pacer.allows r.seq = true →
          t.roster = s.roster ∧ t.pacer.emitted = r.seq ∧
          ∃ f ∈ t.bus.queue, f.kind = .trace ∧ f.dest = 255 ∧ f.payload = tracePayload r) ∧
      (s.pacer.finishDue = false → s.gen.due = [] → ∀ a, s.roster.joinDue = some a →
        t.roster = { s.roster with joinDue := none } ∧
        ∃ f ∈ t.bus.queue, f.kind = .join ∧ f.dest = 255 ∧ f.payload = s.joinPayload a))

/-- R4, R6, R7, R9, R11, R12, R18: a frame read to the end of its check byte. Of another station's it is counted as bad,
discarded, counted as an overrun, or accepted into the buffer and acknowledged outside MUTE; an accepted RESET to this
station waits for the end of its acknowledge slot instead. A frame that is bad inside is counted once and never reaches the
buffer. That a RESET to this station takes no place of the buffer and still needs a free one, so that with all four held it is
counted as an overrun and not obeyed, is DEDUCED (log entry 9). A frame the station itself sends is only tested: a bad read-back is the echo mismatch of TRANSMIT_FAILURE, and a good
one to this station or to all finds a full buffer before it is the station's own, and counts an overrun. -/
def Obligations.ReceivedFramesAreSettled : Prop :=
  ∀ s : State, s.listening = true →
    (s.bus.sending = none →
      let bus := { s.bus with ack := false, rxPhase := .waitIdle, hold := s.bus.hold && s.bus.rxPhase != .ready }
      (∃ t, exec .badFrame s = .next t ∧ t.bus = bus ∧ t.cond = s.cond.countUp .badCheckFrames 1 ∧
        UnchangedBut [.bus, .cond] s t) ∧
      ∀ bytes : List Byte, ∃ t, exec (.frameReceived bytes) s = .next t ∧
        (readFrame bytes = none →
          t.bus = bus ∧ t.cond = s.cond.countUp .badCheckFrames 1 ∧ UnchangedBut [.bus, .cond] s t) ∧
        (∀ f, readFrame bytes = some f →
          (f.dest ≠ byteOf s.straps.number.val → f.dest ≠ 255 → t.bus = bus ∧ UnchangedBut [.bus] s t) ∧
          (f.dest = byteOf s.straps.number.val ∨ f.dest = 255 →
            (4 ≤ s.bus.rx.length →
              t.bus = bus ∧ t.cond = s.cond.countUp .receiveOverruns 1 ∧ UnchangedBut [.bus, .cond] s t) ∧
            (s.bus.rx.length < 4 → UnchangedBut [.bus] s t ∧
              (f.kind = .reset → f.dest ≠ 255 → t.bus = { bus with ack := !s.bus.mute, resetDue := true }) ∧
              (f.kind ≠ .reset ∨ f.dest = 255 → t.bus = { bus with ack := !s.bus.mute, rx := s.bus.rx ++ [f] }))))) ∧
    (s.bus.sending.isSome = true →
      exec .badFrame s = exec (.transmitFailure .echo) (clearAck s) ∧
      ∀ bytes : List Byte,
        (readFrame bytes = none → exec (.frameReceived bytes) s = exec (.transmitFailure .echo) (clearAck s)) ∧
        (∀ f, readFrame bytes = some f → ∃ t, exec (.frameReceived bytes) s = .next t ∧
          t.bus = { s.bus with ack := false } ∧
          t.cond = (if (f.dest = byteOf s.straps.number.val ∨ f.dest = 255) ∧ 4 ≤ s.bus.rx.length then
            s.cond.countUp .receiveOverruns 1 else s.cond) ∧
          UnchangedBut [.bus, .cond] s t))

/-- R1 to R3, R16, R116, R178, R188: what the station puts on the wire. The bytes of a frame in transmission are its
arbitration byte with the class and the station's own number, its kind, destination and length bytes, the payload and the
check byte over them. A report's payload is filled from the state at its attempt: a REACH with the claim, the announce (zeros
when there is none), the station state and the report count; a CREDIT with L, the free count, the completed pass, the wish
for another, the class of the current step (of the last one at END), and the reported tallies; an ALERT with the first-risen
condition and the whole set. A length beyond 3 bytes is a free value (log entry 10). -/
def Obligations.ReportsAreFilledFromTheState : Prop :=
  ∀ s : State,
    (∀ x, s.bus.sending = some x →
      let head : List Byte := byteOf (x.frame.kind.cls * 32 + s.straps.number.val) :: byteOf x.frame.kind.code ::
        x.frame.dest :: byteOf x.frame.payload.length :: x.frame.payload
      sentBytes s = some (head ++ [checkByte head])) ∧
    (s.bus.sending = none → sentBytes s = none) ∧
    ∀ f : TxFrame,
    (f.kind = .reach → ∀ a, s.guard.announce = some a →
      fillPayload f s = byteOf (128 + s.straps.rail.val) :: putLength s.guard.claim.lo ++ putLength s.guard.claim.hi
        ++ putLength a.lo ++ putLength a.hi ++ [byteOf s.job.state.code, byteOf s.guard.reports]) ∧
    (f.kind = .reach → s.guard.announce = none →
      fillPayload f s = byteOf s.straps.rail.val :: putLength s.guard.claim.lo ++ putLength s.guard.claim.hi
        ++ [0, 0, 0, 0, 0, 0, byteOf s.job.state.code, byteOf s.guard.reports]) ∧
    (f.kind = .credit → ∀ r, s.job.record = some r → ∀ c, r.work = .carver c →
      ∀ p, (match s.seq.index with
        | some k => c.plan[k]?
        | none => c.plan.getLast?) = some p →
      fillPayload f s = put16 r.id ++ [byteOf s.job.state.code] ++ put16 s.pq.released.toNat
        ++ [byteOf s.pq.free, byteOf s.seq.completed, (if s.seq.resting then 0 else 1), byteOf p.cls]
        ++ put24 s.seq.reported.cut ++ put24 s.seq.reported.air ++ put16 s.seq.reported.gap
        ++ [if s.seq.reported.broken then 1 else 0]) ∧
    (f.kind = .alert → ∀ c, s.cond.risen = some c → (fillPayload f s).length = 8 ∧
      (fillPayload f s).take 3 = put16 ((s.job.record.map (·.id)).getD 0) ++ [byteOf c.number] ∧
      (∀ k : Cond, ((fillPayload f s).getD (3 + k.number / 8) 0).getLsbD (7 - k.number % 8) = s.cond.has k) ∧
      (fillPayload f s).getD 7 0 = byteOf s.job.state.code) ∧
    (f.kind ≠ .reach → f.kind ≠ .credit → f.kind ≠ .alert → fillPayload f s = f.payload)

/-- R34, R68: the lamps show the first pattern of R34's table whose case holds, a code by the first lamp (1), the second (2) or
both (3); flashing is lit in one half of 250 ms and dark in the next, and the red and the green of STOPPED alternate (where
the halves begin is open, log entry 28). The arm brake of a tracer in FOLLOW mode is asserted while the head record waits at
the gate in IN_PASS, in STOPPED, while RUNNING in QUIET and in AWAIT_START before the turntable has arrived, and never in
RASTER mode. -/
def Obligations.LampsAndBrakeShowTheState : Prop :=
  ∀ s : State,
    let lit := flashOn s
    let code (n : Nat) : Bool × Bool := (decide (n = 1 ∨ n = 3), decide (n = 2 ∨ n = 3))
    let here := lampLevels s
    (s.job.state = .held → here = ⟨false, false, false, false⟩) ∧
    (s.job.state ≠ .held → s.bus.mute = true → here = ⟨true, false, true, true⟩) ∧
    (s.bus.mute = false →
      (s.job.state = .starting → ∀ k, s.selfTest = some k → here = ⟨true, false, lit && (code k).1, lit && (code k).2⟩) ∧
      (s.job.state = .starting → s.selfTest = none → here = ⟨true, false, false, false⟩) ∧
      (s.job.state = .failed → here = ⟨lit, false, (code s.selfCheckResult).1, (code s.selfCheckResult).2⟩) ∧
      (s.job.state = .stopped → here = ⟨lit, !lit, false, false⟩) ∧
      (s.job.state = .armed ∨ s.job.state = .running → here = ⟨false, lit, false, false⟩) ∧
      (s.job.state = .suspended → here = ⟨false, true, lit, false⟩) ∧
      (s.job.state = .excused → here = ⟨false, true, false, lit⟩) ∧
      (s.job.state ∈ [.ready, .idle, .loading, .done] → here = ⟨false, true, false, false⟩)) ∧
    (flashOn { s with now := s.now + 2500 } = !flashOn s) ∧
    (∀ i j k : Nat, i ≤ j → j ≤ k → k < 2500 → flashOn { s with now := s.now + i } = flashOn { s with now := s.now + k } →
      flashOn { s with now := s.now + j } = flashOn { s with now := s.now + i }) ∧
    (∀ r, s.job.record = some r → ∀ w, r.work = .tracer w → s.straps.role = .tracer →
      (w.mode = .raster → armBrake s = false) ∧
      (w.mode = .follow → (armBrake s = true ↔
        (s.gen.phase = .inPass ∧ s.gen.due ≠ [] ∧ s.gateOpen = false) ∨ s.job.state = .stopped ∨
          (s.job.state = .running ∧ s.gen.phase = .quiet) ∨
          (s.gen.phase = .awaitStart ∧ s.gen.tableArrived = false)))) ∧
    (s.job.record = none ∨ s.straps.role = .carver → armBrake s = false)

/-- R2, R11, R47 to R52, R106, R175: a frame that is not taken. The command that takes a frame of one kind finds nothing to do
while the oldest frame of the buffer is of another kind, or the buffer is empty (log entry 2). An ALERT, a REPLY or a RESET to
all is discarded when it is taken. A control frame that concerns the station and that it cannot take is counted once as a
stray control and has no further effect. A TRACE that is not to be taken into intake is counted as a stray trace on a carver,
and discarded without counting on a tracer. Each of these frees its buffer place. -/
def Obligations.UntakenFramesHaveNoFurtherEffect : Prop :=
  ∀ s : State,
    (∀ p ∈ ([(.join, .join), (.job, .job), (.start, .start), (.abort, .abort), (.excuse, .excuse), (.resume, .resume),
        (.clear, .clear), (.finish, .finish), (.query, .query), (.credit, .credit), (.trace, .trace),
        (.reach, .reach)] : List (Kind × Instr)),
      (s.bus.rx.head?.map (·.kind) ≠ some p.1 → exec p.2 s = .next s)) ∧
    ∀ f rest, s.bus.rx = f :: rest →
    let strays (c : Instr) := ∃ t, exec c s = .next t ∧ t.bus = { s.bus with rx := rest } ∧
      t.cond = s.cond.countUp .strayControls 1 ∧ UnchangedBut [.bus, .cond] s t
    (f.kind = .alert ∨ f.kind = .reply ∨ f.kind = .reset →
      ∃ t, exec .unusedFrameTaken s = .next t ∧ t.bus = { s.bus with rx := rest } ∧ UnchangedBut [.bus] s t) ∧
    (f.kind = .start → s.job.state ≠ .armed ∨ s.holdsId (u16At f.payload 0) = false → strays .start) ∧
    (f.kind = .abort →
      s.job.state ∈ [.ready, .idle, .failed] ∨
        (u16At f.payload 0 ≠ 0 ∧ s.holdsId (u16At f.payload 0) = false ∧ s.assemblesId (u16At f.payload 0) = false) →
      strays .abort) ∧
    (f.kind = .excuse → s.straps.role = .tracer →
      s.job.state ∉ [.armed, .running, .stopped] ∨ s.holdsId (u16At f.payload 0) = false ∨
        byteAt f.payload 2 ∉ (s.tracerJob.map (·.enrol)).getD [] →
      strays .excuse) ∧
    (f.kind = .excuse → s.straps.role = .carver → byteAt f.payload 2 = s.straps.number.val →
      s.job.state ∉ [.armed, .running, .stopped, .suspended, .excused, .done] ∨ s.holdsId (u16At f.payload 0) = false →
      strays .excuse) ∧
    (f.kind = .resume → s.job.state ≠ .stopped →
      s.holdsId (u16At f.payload 0) = true ∨ (u16At f.payload 0 = 0 ∧ s.job.record.isSome = true) → strays .resume) ∧
    (f.kind = .finish →
      s.straps.role = .tracer ∨ s.job.state ∈ [.ready, .idle, .loading, .armed, .failed] ∨
        s.holdsId (u16At f.payload 0) = false ∨ s.carverJob.map (·.tracer) ≠ some f.src →
      strays .finish) ∧
    (f.kind = .trace → s.straps.role = .tracer →
      ∃ t, exec .trace s = .next t ∧ t.bus = { s.bus with rx := rest } ∧ UnchangedBut [.bus] s t) ∧
    (f.kind = .trace → s.straps.role = .carver →
      s.job.state ∉ [.running, .stopped] ∨ s.job.finishing = true ∨ s.carverJob.map (·.tracer) ≠ some f.src ∨
        readTrace f.payload = none ∨ byteAt f.payload 2 = 0 →
      ∃ t, exec .trace s = .next t ∧ t.bus = { s.bus with rx := rest } ∧ t.cond = s.cond.countUp .strayTraces 1 ∧
        UnchangedBut [.bus, .cond] s t)

/-! ## Jobs (chapter 3) -/

/-- R36 to R40: a JOB segment that does not end an assembly. One to all is discarded. One that cannot be taken in the job
state, or that fails a check, is refused with the code of the first check it fails, which the last-refusal record names with
JOB_REFUSED; in LOADING the assembly is dropped and the station goes back to its return state with every other block as it was
(the load timers do not run there), and of a refused first segment the id recorded is the segment's (the model's choice, log
entry 47). A good segment with more to follow is kept: LOADING, with
the bytes taken so far, and the spindle off (R169; log entry 43). Bits of the flags byte beyond the two named are ignored (the
model's choice, log entry 12). -/
def Obligations.JobSegmentsAreRefusedOrAssembled : Prop :=
  ∀ s : State, ∀ f rest, s.bus.rx = f :: rest → f.kind = .job →
    let id := u16At f.payload 0
    let index := byteAt f.payload 2
    let first := byteAt f.payload 3 % 2 = 1
    let more := byteAt f.payload 3 / 2 % 2 = 1
    let total := u16At f.payload 4
    let data := f.payload.drop 4
    let disordered := index ≠ 0 ∨ id = 0
    let misfits := data.length < 2 ∨ total < 2 ∨ 336 < total ∨ total < data.length
    let still : Motion := { s.motion with spindle := .off, highTimer := none, lowTimer := none, stallTimer := none }
    (f.dest = 255 → ∃ t, exec .job s = .next t ∧ t.bus = { s.bus with rx := rest } ∧ UnchangedBut [.bus] s t) ∧
    (f.dest ≠ 255 → ∀ code : JobCode,
      (code = .busy ∧ s.job.state ∈ [.armed, .running, .stopped, .suspended, .excused, .failed]) ∨
      (s.job.state ∈ [.ready, .idle, .done] ∧ s.job.assembly = none ∧
        ((code = .order ∧ (¬ first ∨ disordered)) ∨ (code = .length ∧ first ∧ ¬ disordered ∧ misfits))) →
      ∃ t, exec .job s = .next t ∧ t.job = { s.job with refusal := some ⟨id, code, index⟩ } ∧
        t.bus.rx = rest ∧ t.cond.has .jobRefused = true ∧ UnchangedBut [.bus, .job, .cond] s t) ∧
    (f.dest ≠ 255 → s.job.state = .loading → ∀ a, s.job.assembly = some a → ∀ code : JobCode, ∀ refused : Nat,
      let breaks := id ≠ a.jobId ∨ index ≠ a.lastIndex + 1 ∨ 11 < index
      (first ∧ refused = id ∧ ((code = .order ∧ disordered) ∨ (code = .length ∧ ¬ disordered ∧ misfits))) ∨
      (¬ first ∧ refused = a.jobId ∧
        ((code = .order ∧ breaks) ∨ (code = .length ∧ ¬ breaks ∧ a.total < a.data.length + data.length))) →
      ∃ t, exec .job s = .next t ∧
        t.job = { s.job with state := a.back, assembly := none, refusal := some ⟨refused, code, index⟩ } ∧
        t.bus.rx = rest ∧ t.cond.has .jobRefused = true ∧ t.motion.spindle = s.motion.spindle ∧
        (a.back ≠ .running → t.motion = { s.motion with highTimer := none, lowTimer := none, stallTimer := none }) ∧
        UnchangedBut [.bus, .job, .motion, .cond] s t) ∧
    (f.dest ≠ 255 → more → first → s.job.state ∈ [.ready, .idle, .done, .loading] → ¬ disordered → ¬ misfits →
      ∃ t, exec .job s = .next t ∧
        t.job = { s.job with
          state := .loading
          assembly := some ⟨id, total, 0, data, (match s.job.assembly with
            | some a => a.back
            | none => s.job.state)⟩ } ∧
        t.bus = { s.bus with rx := rest } ∧ t.motion = still ∧ UnchangedBut [.bus, .job, .motion] s t) ∧
    (f.dest ≠ 255 → more → ¬ first → s.job.state = .loading → ∀ a, s.job.assembly = some a → id = a.jobId →
      index = a.lastIndex + 1 → index ≤ 11 → a.data.length + data.length ≤ a.total →
      ∃ t, exec .job s = .next t ∧
        t.job = { s.job with assembly := some { a with lastIndex := index, data := a.data ++ data } } ∧
        t.bus = { s.bus with rx := rest } ∧ t.motion = still ∧ UnchangedBut [.bus, .job, .motion] s t)

/-- R37 to R41, R45, R46, R169, R177: the segment that ends an assembly, be it the only one. Short data or a record that fails
a check is refused with the code of the first failure, and the station goes back to the return state with every other block as
it was but for the spindle, which LOADING has switched off (log entry 43); a valid record is clamped
and armed: the Job Store holds it, the role's blocks are at their start of job, the override is at 100 %, no rest notice stands,
no closing lift is pending, and the claim of a carriage with nothing to do follows the new half-widths. Arming drops the moves
that wait (log entry 49) and turns the spindle off (log entry 43); bits of the flags byte beyond the two named are ignored (log
entry 12): these are the model's choice. -/
def Obligations.JobAssemblyEndsInArmedOrRefused : Prop :=
  ∀ s : State, ∀ f rest, s.bus.rx = f :: rest → f.kind = .job → f.dest ≠ 255 → byteAt f.payload 3 / 2 % 2 = 0 →
    ∀ a : Assembly,
    let id := u16At f.payload 0
    let index := byteAt f.payload 2
    let total := u16At f.payload 4
    let data := f.payload.drop 4
    (byteAt f.payload 3 % 2 = 1 ∧ s.job.state ∈ [.ready, .idle, .done, .loading] ∧ index = 0 ∧ 1 ≤ id ∧
        2 ≤ data.length ∧ 2 ≤ total ∧ total ≤ 336 ∧ data.length ≤ total ∧
        a = ⟨id, total, 0, data, (match s.job.assembly with
          | some b => b.back
          | none => s.job.state)⟩) ∨
      (byteAt f.payload 3 % 2 = 0 ∧ s.job.state = .loading ∧ ∃ b, s.job.assembly = some b ∧ id = b.jobId ∧
        index = b.lastIndex + 1 ∧ index ≤ 11 ∧ b.data.length + data.length ≤ b.total ∧
        a = { b with lastIndex := index, data := b.data ++ data }) →
    let failure :=
      if a.data.length = a.total then validate s.straps.number.val s.straps.role a.jobId a.data else some .length
    (∀ code, failure = some code → ∃ t, exec .job s = .next t ∧
      t.job = { s.job with state := a.back, assembly := none, refusal := some ⟨a.jobId, code, index⟩ } ∧
      t.motion = { s.motion with spindle := .off, highTimer := none, lowTimer := none, stallTimer := none } ∧
      t.cond.has .jobRefused = true ∧ t.bus.rx = rest ∧ UnchangedBut [.bus, .job, .motion, .cond] s t) ∧
    (failure = none → ∃ t, exec .job s = .next t ∧
      let r := (readRecord s.straps.role a.jobId a.data).clamp
      t.job = { s.job with
        state := .armed, record := some r, assembly := none, halfLeft := r.halfLeft, halfRight := r.halfRight
        finishing := false } ∧
      (s.straps.role = .carver → t.pq = PathQueue.afterReset ∧ t.map = CutMap.afterReset ∧ t.pacer = s.pacer ∧
        t.store = s.store ∧
        ∀ c, r.work = .carver c → ∀ p more, c.plan = p :: more →
          t.seq = { Sequencer.afterReset with counter := p.limit, floor := p.first }) ∧
      (s.straps.role = .tracer → t.pacer = Pacer.afterReset ∧ t.store = TraceStore.afterReset ∧ t.pq = s.pq ∧
        t.map = s.map ∧ t.seq = s.seq) ∧
      t.motion = { s.motion with
        reference := none, refArrived := false, waiting := [], closing := none, spindle := .off, restNotice := false
        override := .p100, highTimer := none, lowTimer := none, stallTimer := none } ∧
      (s.motion.halt = .moving → s.motion.outstanding = [] → s.guard.atCheck = none → s.guard.passed = none →
        t.guard.claim = ⟨s.inputs.x - r.halfLeft, s.inputs.x + r.halfRight⟩) ∧
      t.bus.rx = rest ∧ UnchangedBut [.bus, .job, .pacer, .store, .pq, .map, .seq, .motion, .guard] s t)

/-- R41 to R44, section 13.7: the checks of a record, in their order, on its bytes: the role field and the counts; then a
tracer's window, faces and plan, or a carver's tracer number, scale, window, faces and plan. The record is valid exactly when
no check fails, and else the code is that of the first one that does. -/
def Obligations.RecordsAreValidated : Prop :=
  ∀ (own : Nat) (role : Role) (id : Nat) (d : List Byte),
    let repeats (n : Nat) (at_ : Nat → Nat) : Prop := ∃ i j : Nat, i < j ∧ j < n ∧ at_ i = at_ j
    let window := lengthAt d 3 < 0 ∨ lengthAt d 6 < 0 ∨ lengthAt d 15 < lengthAt d 12 ∨ lengthAt d 21 < lengthAt d 18
    let stepover (i : Nat) : Nat := u16At d (51 + 2 * i)
    let tf := byteAt d 61
    let te := byteAt d (62 + 2 * tf)
    let enrolled (i : Nat) : Nat := byteAt d (63 + 2 * tf + i)
    let tracer : List (Prop × JobCode) :=
      [(d.length ≤ 61 ∨ d.length ≤ 62 + 2 * tf ∨ d.length ≠ 63 + 2 * tf + te, .length),
       (window ∨ lengthAt d 39 < lengthAt d 36 ∨ lengthAt d 45 < lengthAt d 42 ∨
          (∃ i < 4, stepover i < 50 ∨ 50000 < stepover i) ∨ (∃ i < 3, stepover (i + 1) ≤ stepover i), .badWindow),
       (tf < 1 ∨ 8 < tf ∨ repeats tf (fun i => u16At d (62 + 2 * i)), .badFaces),
       (1 < byteAt d 35 ∨ te < 1 ∨ 16 < te ∨ (∃ i < te, 31 < enrolled i ∨ enrolled i = own) ∨ repeats te enrolled ∨
          byteAt d 59 < 1 ∨ 1 < byteAt d 60, .badPlan)]
    let snum := u16At d 36
    let sden := u16At d 38
    let cf := byteAt d 67
    let ck := byteAt d (68 + 2 * cf)
    let step (i : Nat) : Nat := 69 + 2 * cf + 13 * i
    let carver : List (Prop × JobCode) :=
      [(d.length ≤ 67 ∨ d.length ≤ 68 + 2 * cf ∨ d.length ≠ 69 + 2 * cf + 13 * ck, .length),
       (31 < byteAt d 35 ∨ byteAt d 35 = own, .noTracer),
       (snum < 1 ∨ 4096 < snum ∨ sden < 1 ∨ 4096 < sden ∨ 16 * snum < sden ∨ 16 * sden < snum ∨ u16At d 55 < 64 ∨
          2048 < u16At d 55 ∨ lengthAt d 57 < 0, .badScale),
       (window ∨ lengthAt d 52 < 1 ∨ byteAt d 66 < 8 ∨ 15 < byteAt d 66, .badWindow),
       (cf < 1 ∨ 8 < cf ∨ repeats cf (fun i => u16At d (68 + 2 * i)), .badFaces),
       (ck < 1 ∨ 12 < ck ∨ (∃ i < ck, 2 < byteAt d (step i) ∨ lengthAt d (step i + 4) < 0 ∨
          lengthAt d (step i + 7) < lengthAt d (step i + 1) ∨ 3 < byteAt d (step i + 10) ∨
          byteAt d (step i + 11) < 1 ∨ 64 < byteAt d (step i + 11) ∨ 3 < byteAt d (step i + 12)), .badPlan)]
    let order : List (Prop × JobCode) :=
      (d.length ≤ 2, .length) :: (byteAt d 2 ≠ (if role = .tracer then 0 else 1), .wrongRole) ::
        (if role = .tracer then tracer else carver)
    (validate own role id d = none ↔ ∀ c ∈ order, ¬ c.1) ∧
    (∀ code : JobCode, validate own role id d = some code ↔
      ∃ (before after : List (Prop × JobCode)) (p : Prop), order = before ++ (p, code) :: after ∧ p ∧ ∀ c ∈ before, ¬ c.1)

/-- R41, R45, section 13.7: the fields of a valid record as they are armed, read at their places in its bytes and clamped, and
the clamped list, which names each clamp that changed a value once. Orientation bits beyond the two named are ignored (the
model's choice, log entry 12). -/
def Obligations.RecordsAreClamped : Prop :=
  ∀ (own : Nat) (role : Role) (id : Nat) (d : List Byte), validate own role id d = none →
    let r := (readRecord role id d).clamp
    let within (lo hi i : Int) : Int := if i < lo then lo else if hi < i then hi else i
    let feed (n : Nat) : Nat := if n < 10 then 10 else if 30000 < n then 30000 else n
    let angles (off n : Nat) : List Angle := (List.range n).map fun i => BitVec.ofNat 16 (u16At d (off + 2 * i))
    let spacing := within 50 20000 (lengthAt d 48)
    let limit := if lengthAt d 52 < lengthAt d 57 then lengthAt d 52 else lengthAt d 57
    r.id = id ∧ r.halfLeft = lengthAt d 3 ∧ r.halfRight = lengthAt d 6 ∧
    r.gap = (if lengthAt d 9 < 5000 then 5000 else lengthAt d 9) ∧
    r.xMin = lengthAt d 12 ∧ r.xMax = lengthAt d 15 ∧ r.yMin = lengthAt d 18 ∧ r.yMax = lengthAt d 21 ∧
    r.clearance = (if -2000 < lengthAt d 24 then -2000 else lengthAt d 24) ∧
    r.feeds = ⟨feed (u16At d 27), feed (u16At d 29), feed (u16At d 31), feed (u16At d 33)⟩ ∧
    (role = .tracer → r.work = .tracer
      { mode := if byteAt d 35 = 0 then .raster else .follow
        u0 := lengthAt d 36, u1 := lengthAt d 39, v0 := lengthAt d 42, v1 := lengthAt d 45, spacing := spacing
        stepovers := [u16At d 51, u16At d 53, u16At d 55, u16At d 57], passLimit := byteAt d 59
        useStore := decide (byteAt d 60 = 1), faces := angles 62 (byteAt d 61)
        enrol := (List.range (byteAt d (62 + 2 * byteAt d 61))).map fun i => byteAt d (63 + 2 * byteAt d 61 + i) }) ∧
    (role = .carver → ∃ c, r.work = .carver c ∧ c.tracer = byteAt d 35 ∧ c.snum = u16At d 36 ∧ c.sden = u16At d 38 ∧
      c.mirror = decide (byteAt d 40 % 2 = 1) ∧ c.reversed = decide (byteAt d 40 / 2 % 2 = 1) ∧
      c.xOff = lengthAt d 41 ∧ c.yOff = lengthAt d 44 ∧ c.dOff = lengthAt d 47 ∧
      c.phase = BitVec.ofNat 16 (u16At d 50) ∧ c.dMax = lengthAt d 52 ∧ c.letterFactor = u16At d 55 ∧
      c.letterLimit = limit ∧ c.baseX = lengthAt d 60 ∧ c.baseY = lengthAt d 63 ∧ c.shift = byteAt d 66 ∧
      c.faces = angles 68 (byteAt d 67) ∧ c.plan.length = byteAt d (68 + 2 * byteAt d 67) ∧
      ∀ i p, c.plan[i]? = some p →
        let off := 69 + 2 * byteAt d 67 + 13 * i
        p.kind.code = byteAt d off ∧ p.first = lengthAt d (off + 1) ∧ p.delta = lengthAt d (off + 4) ∧
          p.last = lengthAt d (off + 7) ∧ p.cls = byteAt d (off + 10) ∧ p.limit = byteAt d (off + 11) ∧
          [Advance.count, .dry, .floor, .once][byteAt d (off + 12)]? = some p.advance) ∧
    r.clamped.Nodup ∧
    ∀ name : ClampName, name ∈ r.clamped ↔ (match name with
      | .spacing => role = .tracer ∧ spacing ≠ lengthAt d 48
      | .gap => lengthAt d 9 < 5000
      | .cut => feed (u16At d 27) ≠ u16At d 27
      | .plunge => feed (u16At d 29) ≠ u16At d 29
      | .rapid => feed (u16At d 31) ≠ u16At d 31
      | .lift => feed (u16At d 33) ≠ u16At d 33
      | .clearance => -2000 < lengthAt d 24
      | .letterLimit => role = .carver ∧ lengthAt d 52 < lengthAt d 57)

/-- R48, R76, R78, R117, R167, R169: START in ARMED with the record's job id. The job-start lift falls due. A carver is
RUNNING, its spindle spinning up for 2 s unless the plan rests, its credit timer running and its first CREDIT offered; a tracer
is RUNNING in ENROLLING for 200 ms with an empty lag table; with every carver excused before, enrolment ends at once with
NO_CARVERS. A check left from the job before is dropped (log entry 49), the carvers restarted stay noted (R84; log entry 50),
and no drain is tested (log entry 54): these are the model's choice. -/
def Obligations.StartRunsTheArmedStation : Prop :=
  ∀ s : State, ∀ f rest, s.bus.rx = f :: rest → f.kind = .start → s.job.state = .armed →
    ∀ r, s.job.record = some r → u16At f.payload 0 = r.id → s.motion.closing = none →
    (∀ c, r.work = .carver c → s.straps.role = .carver → ∃ t, exec .start s = .next t ∧
      t.job = { s.job with state := .running } ∧ t.bus.rx = rest ∧
      t.pq = { s.pq with creditTimer := some 100, freeAtOffer := s.pq.free } ∧
      (s.motion.restNotice = false → t.motion.spindle = .spinningUp 20000) ∧
      (s.motion.restNotice = true → t.motion.spindle = s.motion.spindle) ∧
      (s.bus.mute = false → ∃ g ∈ t.bus.places, g.kind = .credit) ∧ PortLiftFallsDue .jobStart r s t ∧
      (∀ o ∈ t.motion.outstanding, o ∈ s.motion.outstanding ∨ o.sp.origin = .jobStartLift) ∧
      UnchangedBut [.bus, .job, .pq, .motion, .guard, .cond] s t) ∧
    (∀ w, r.work = .tracer w → s.straps.role = .tracer → ∃ t, exec .start s = .next t ∧
      t.gen = { s.gen with nextSeq := 1 } ∧ t.bus.rx = rest ∧
      (w.enrol ≠ [] → t.job = { s.job with state := .running } ∧
        t.pacer = { Pacer.afterReset with
          phase := .enrolling, enrolTimer := some 2000, restarted := s.pacer.restarted }) ∧
      (w.enrol = [] → t.job = s.job ∧ t.pacer = { Pacer.afterReset with restarted := s.pacer.restarted } ∧
        t.cond.has .noCarvers = true) ∧
      PortLiftFallsDue .jobStart r s t ∧
      (∀ o ∈ t.motion.outstanding, o ∈ s.motion.outstanding ∨ o.sp.origin = .jobStartLift) ∧
      UnchangedBut [.bus, .job, .gen, .pacer, .motion, .guard, .cond] s t)

/-- R15, R49, R73, R90, R91, R93, R114, R117, R168, R185: an ABORT that is taken leaves the station IDLE with no record, no
assembly and no finishing flag. A carver's posted entries go back to free and its issued entries are marked, a running sweep
ends, and a CREDIT is offered unless it was ARMED; a tracer's due list, lag table and store are empty and its TRACE frames
not in transmission are withdrawn. A check and a passed setpoint are dropped (R185). A carver's retract and a tracer's park
fall due, with the values of the record discarded; the park goes at feed class RAPID as R90 has it, not LIFT as R168 has it
(DEDUCED, log entry 17). That a carriage stands in the lift only when it has arrived (log entry 18) and that a lift still
waiting is dropped (log entry 52) are the model's choice. Taken in STOPPED there is neither. In LOADING there is neither too,
and the store stays; a check is dropped, and a tracer's lag table, pass, due list, queued TRACE frames and moves that wait
end as at any ABORT (DEDUCED against R49's row for LOADING, log entry 55), with a job-start lift that is due (the model's
choice, log entry 66). -/
def Obligations.AbortDiscardsTheJob : Prop :=
  ∀ s : State, ∀ f rest, s.bus.rx = f :: rest → f.kind = .abort →
    s.job.state ∈ [.loading, .armed, .running, .stopped, .suspended, .excused, .done] →
    u16At f.payload 0 = 0 ∨ s.holdsId (u16At f.payload 0) = true ∨ s.assemblesId (u16At f.payload 0) = true →
    ∃ t, exec .abort s = .next t ∧
      t.job = { s.job with state := .idle, record := none, assembly := none, finishing := false } ∧ t.bus.rx = rest ∧
      (s.job.state = .loading →
        let still : Motion := { s.motion with highTimer := none, lowTimer := none, stallTimer := none }
        t.guard.atCheck = none ∧ t.guard.passed = none ∧
        (s.guard.atCheck = none → s.guard.passed = none → t.guard = s.guard) ∧
        (s.guard.atCheck ≠ none ∨ s.guard.passed ≠ none → t.guard.phase = .none ∧ t.guard.announce = none) ∧
        (s.straps.role = .carver → t.motion = still ∧ UnchangedBut [.bus, .job, .motion, .guard] s t ∧
          (s.guard.atCheck = none → s.guard.passed = none → t.bus = { s.bus with rx := rest })) ∧
        (s.straps.role = .tracer →
          t.gen = { s.gen with
            phase := .quiet, current := none, due := [], tableArrived := false, following := false, acc := 0
            exitPoint := none, passEndNoted := false } ∧
          t.pacer = { Pacer.afterReset with cls := s.pacer.cls } ∧ (∀ g ∈ t.bus.queue, g.kind ≠ .trace) ∧
          t.motion = { still with held := [], waiting := [], portLift := none } ∧
          UnchangedBut [.bus, .roster, .job, .gen, .pacer, .motion, .guard] s t)) ∧
      (s.job.state ≠ .loading → ∀ r, s.job.record = some r →
        let kept := s.job.halfLeft = r.halfLeft ∧ s.job.halfRight = r.halfRight
        (s.job.state ≠ .stopped → s.motion.waiting = [] →
          (∀ sp, t.guard.atCheck = some sp → ∃ l, sp.origin = .closingLift l) ∧
          (∀ sp, t.guard.passed = some sp → ∃ l, sp.origin = .closingLift l)) ∧
        (∀ c, r.work = .carver c →
          t.pq.posted = [] ∧ t.pq.free = s.pq.free + s.pq.posted.length ∧
          t.pq.issued = s.pq.issued.map (fun i => { i with emptied := true }) ∧ t.pq.released = s.pq.released ∧
          t.seq = { s.seq with phase := .none } ∧ t.map.sweeping = false ∧
          (s.map.sweeping = false → t.map = s.map) ∧
          (s.job.state ≠ .armed → s.bus.mute = false → ∃ g ∈ t.bus.places, g.kind = .credit) ∧
          (s.job.state = .stopped → s.motion.closing = none → s.motion.portLift = none →
            t.motion.closing = none ∧ t.motion.outstanding = s.motion.outstanding) ∧
          (s.job.state ≠ .stopped → kept → ClosingLiftFallsDue ⟨r.clearance, r.feeds.lift, .lift, false⟩ s t) ∧
          UnchangedBut [.seed, .bus, .job, .pq, .map, .seq, .motion, .guard, .cond] s t) ∧
        (∀ w, r.work = .tracer w →
          t.gen.phase = .quiet ∧ t.gen.current = none ∧ t.gen.due = [] ∧ t.gen.nextSeq = s.gen.nextSeq ∧
          t.pacer = { Pacer.afterReset with cls := s.pacer.cls } ∧ t.store = TraceStore.afterReset ∧
          t.motion.held = [] ∧ t.motion.waiting = [] ∧ (∀ g ∈ t.bus.queue, g.kind ≠ .trace) ∧
          (s.job.state = .stopped → s.motion.closing = none → s.motion.portLift = none →
            t.motion.closing = none ∧ t.motion.outstanding = s.motion.outstanding) ∧
          (s.job.state ≠ .stopped → kept → ClosingLiftFallsDue ⟨r.clearance, r.feeds.rapid, .rapid, false⟩ s t) ∧
          UnchangedBut [.bus, .roster, .job, .gen, .pacer, .store, .motion, .guard, .cond] s t))

/-- R50, R51, R83, R114, R117, R168: an EXCUSE that is taken. A tracer takes the named carver off its enrol list, and off its
lag table once the job is started. The named carver is EXCUSED with its record kept and no finishing flag: from RUNNING and
STOPPED its posted entries go back to free, its issued ones are marked and a running sweep ends; from RUNNING a retract falls
due, where that a carriage stands in the lift only when it has arrived (log entry 18) and that a lift still waiting is dropped
(log entry 52) are the model's choice; a CREDIT is offered. A carver out of the job already, and one that is not named, discard
the frame without counting. -/
def Obligations.ExcuseRemovesTheCarver : Prop :=
  ∀ s : State, ∀ f rest, s.bus.rx = f :: rest → f.kind = .excuse → ∀ r, s.job.record = some r →
    let named := byteAt f.payload 2
    (∀ w, r.work = .tracer w → s.straps.role = .tracer → s.job.state ∈ [.armed, .running, .stopped] →
      u16At f.payload 0 = r.id → named ∈ w.enrol → ∃ t, exec .excuse s = .next t ∧ t.bus.rx = rest ∧
      t.job.record = some { r with work := .tracer { w with enrol := w.enrol.filter fun n => n != named } } ∧
      (s.job.state = .armed → t.pacer = s.pacer ∧ UnchangedBut [.bus, .job] s t) ∧
      (s.job.state ≠ .armed → (∀ e ∈ t.pacer.lag, e.carver ≠ named ∧ e ∈ s.pacer.lag) ∧
        ∀ e ∈ s.pacer.lag, e.carver ≠ named → e ∈ t.pacer.lag) ∧
      (s.job.state ≠ .armed → s.pacer.phase = .passing →
        t.pacer = { s.pacer with lag := s.pacer.lag.filter fun e => e.carver != named } ∧
        UnchangedBut [.bus, .job, .pacer] s t) ∧
      UnchangedBut [.bus, .job, .gen, .pacer, .store, .motion, .guard, .cond] s t) ∧
    (∀ c, r.work = .carver c → s.straps.role = .carver → named = s.straps.number.val → u16At f.payload 0 = r.id →
      (s.job.state ∈ [.armed, .running, .stopped] → ∃ t, exec .excuse s = .next t ∧ t.bus.rx = rest ∧
        t.job = { s.job with state := .excused, finishing := false } ∧
        (s.job.state = .armed → t.pq.posted = s.pq.posted ∧ t.pq.free = s.pq.free ∧ t.seq = s.seq) ∧
        (s.job.state ≠ .armed → t.pq.posted = [] ∧ t.pq.free = s.pq.free + s.pq.posted.length ∧
          t.pq.issued = s.pq.issued.map (fun i => { i with emptied := true }) ∧ t.seq = { s.seq with phase := .none } ∧
          t.map.sweeping = false ∧ (s.map.sweeping = false → t.map = s.map)) ∧
        (s.job.state = .running → ClosingLiftFallsDue ⟨r.clearance, r.feeds.lift, .lift, false⟩ s t) ∧
        (s.job.state ≠ .running → s.motion.closing = none → s.motion.portLift = none →
          t.motion.closing = none ∧ t.motion.outstanding = s.motion.outstanding) ∧
        t.pq.creditTimer = none ∧ (s.bus.mute = false → ∃ g ∈ t.bus.places, g.kind = .credit) ∧
        UnchangedBut [.seed, .bus, .job, .pq, .map, .seq, .motion, .guard, .cond] s t) ∧
      (s.job.state ∈ [.suspended, .excused, .done] → ∃ t, exec .excuse s = .next t ∧
        t.bus = { s.bus with rx := rest } ∧ UnchangedBut [.bus] s t)) ∧
    (s.straps.role = .carver → named ≠ s.straps.number.val → ∃ t, exec .excuse s = .next t ∧
      t.bus = { s.bus with rx := rest } ∧ UnchangedBut [.bus] s t)

/-- R53, R113, R117, R167, R169, R175: a RESUME that concerns a STOPPED station. With the sensed level low it is refused with
RESUME_REFUSED and nothing else changes. With it high the station is back in the state it remembered; out of ARMED nothing
follows; a carver offers a CREDIT and, back in RUNNING, spins its spindle up unless the plan rests, its posted entries as they
were, and its resume lift falls due, which stands as the drain's retract when the drain has nothing left. -/
def Obligations.ResumeReturnsToTheRememberedState : Prop :=
  ∀ s : State, ∀ f rest, s.bus.rx = f :: rest → f.kind = .resume → s.job.state = .stopped →
    ∀ r, s.job.record = some r → u16At f.payload 0 = r.id ∨ u16At f.payload 0 = 0 →
    (s.bus.sensedLow = true → ∃ t, exec .resume s = .next t ∧ t.bus.rx = rest ∧
      (s.cond.has .resumeRefused = false → t.cond.set = s.cond.set ||| Cond.resumeRefused.mask) ∧
      (s.cond.has .resumeRefused = true → t.cond = s.cond) ∧ UnchangedBut [.bus, .cond] s t) ∧
    (s.bus.sensedLow = false → s.job.remembered = .armed → ∃ t, exec .resume s = .next t ∧ t.bus.rx = rest ∧
      t.job = { s.job with state := .armed } ∧ t.motion.outstanding = s.motion.outstanding ∧
      t.motion.spindle = s.motion.spindle ∧ UnchangedBut [.bus, .job, .pq, .motion] s t) ∧
    (s.bus.sensedLow = false → s.job.remembered = .running → s.motion.closing = none →
      ∀ c, r.work = .carver c → s.straps.role = .carver → ∃ t, exec .resume s = .next t ∧ t.bus.rx = rest ∧
        t.job = { s.job with state := .running } ∧
        t.pq = { s.pq with creditTimer := some 100, freeAtOffer := s.pq.free } ∧
        (s.motion.restNotice = false → t.motion.spindle = .spinningUp 20000) ∧
        (s.motion.restNotice = true → t.motion.spindle = s.motion.spindle) ∧
        (s.bus.mute = false → ∃ g ∈ t.bus.places, g.kind = .credit) ∧
        PortLiftFallsDue (.resume (s.job.finishing && s.pq.posted.isEmpty && s.pq.issued.isEmpty)) r s t ∧
        UnchangedBut [.bus, .job, .pq, .motion, .guard, .cond] s t)

/-- R70, R72, R76, R78, R82, R87 to R89, R175: a RESUME that takes a tracer back into RUNNING. The held moves are commanded
again in their order, the first at the check, without a lift. CARVER_SILENT is raised when a participating entry is silent. A
hold that can end ends, with TRACE_SKIP where the stylus outran the stream. A FINISH that waits is offered again, and with a
place free the tracer is DONE. A decision held is reached from the entries as they stand: of enrolment with none, ARMED and
NO_CARVERS; else the next pass is ordered at the finest class asked for, or the job is finished. In RASTER mode an ordered
live pass leaves the Generator's phase as it was (the model's choice, log entry 58). That a noted pass-end keeps the distance
accumulator is the model's choice (log entry 63). -/
def Obligations.ResumeRestartsTheTracer : Prop :=
  ∀ s : State, s.Settled → ∀ f rest, s.bus.rx = f :: rest → f.kind = .resume → s.job.state = .stopped →
    s.bus.sensedLow = false → s.job.remembered = .running → s.straps.role = .tracer →
    ∀ r, s.job.record = some r → u16At f.payload 0 = r.id ∨ u16At f.payload 0 = 0 → ∀ w, r.work = .tracer w →
    let holdEnds := s.gen.phase = .inPass ∧ s.gen.due = []
    let ended := if holdEnds then s.gen.holdEnded w else s.gen
    let room := s.bus.mute = false ∧ s.bus.generalHeld < 5
    let p := if s.pacer.decision = some .enrolment then 0 else s.pacer.pass
    let decides := s.pacer.finishDue = false ∧
      (s.pacer.decision = some .collection ∨ (s.pacer.decision = some .enrolment ∧ s.pacer.lag ≠ []))
    ∃ t, exec .resume s = .next t ∧ t.bus.rx = rest ∧
      (∀ sp more, s.motion.held = sp :: more → (t.guard.atCheck = some sp ∨ t.guard.passed = some sp) ∧
        ∃ later, t.motion.waiting = more ++ later) ∧
      t.motion.held = [] ∧ t.motion.outstanding = [] ∧ t.motion.closing = none ∧ t.motion.portLift = none ∧
      ((∃ e ∈ s.pacer.lag, e.dropped = false ∧ e.silent = true) → s.pacer.phase ≠ .off →
        t.cond.has .carverSilent = true) ∧
      (holdEnds → 2 * w.spacing < (s.gen.acc : Int) → s.gen.exitPoint.isSome = true ∨ s.gen.following = true →
        t.cond.has .traceSkip = true) ∧
      (s.pacer.decision = none → s.pacer.finishDue = false →
        t.job = { s.job with state := .running } ∧ t.gen = ended ∧ t.motion.waiting = s.motion.held.tail ∧
        UnchangedBut [.bus, .job, .gen, .motion, .guard, .cond] s t) ∧
      (s.pacer.decision = none → s.pacer.finishDue = true → t.gen = ended ∧
        (room → t.job = { s.job with state := .done } ∧ t.pacer.phase = .off ∧ t.pacer.finishDue = false ∧
          ∃ g ∈ t.bus.queue, g.kind = .finish ∧ g.dest = 255 ∧ g.payload = put16 r.id) ∧
        (¬ room → t.job = { s.job with state := .running } ∧ t.pacer = s.pacer)) ∧
      (s.pacer.decision = some .enrolment → s.pacer.finishDue = false → s.pacer.lag = [] →
        t.job = { s.job with state := .armed } ∧ t.pacer.phase = .off ∧ t.pacer.decision = none ∧
        t.cond.has .noCarvers = true) ∧
      (s.pacer.decision = some .enrolment → (∃ k ∈ w.enrol, ∀ e ∈ s.pacer.lag, e.carver ≠ k) → decides →
        t.cond.has .carverAbsent = true) ∧
      (decides → t.pacer.decision = none ∧ PassDecided p r w s.pacer.lag ended s t) ∧
      UnchangedBut [.bus, .job, .gen, .pacer, .store, .motion, .guard, .cond] s t

/-! ## Conditions and queries (chapter 13) -/

/-- R189, R19: a CLEAR with job id 0 or the record's id clears each condition it names that is latched or whose cause is
gone, leaves every other as it was, and releases the pull of a condition it clears; it makes no ALERT and changes no
counter. With another id it is a stray control. -/
def Obligations.ClearClearsTheNamedConditions : Prop :=
  ∀ s : State, ∀ f rest, s.bus.rx = f :: rest → f.kind = .clear →
    let named (c : Cond) : Bool :=
      (BitVec.ofNat 32 (u16At f.payload 2 * 65536 + u16At f.payload 4)).getLsbD (31 - c.number)
    let causeStands (c : Cond) : Bool :=
      match c with
      | .carverSilent => s.isRunning && s.pacer.lag.any fun e => !e.dropped && e.silent
      | .driveFault => s.motion.faultStanding
      | .neighbourStale => s.guard.anyStale
      | .guardWaitLong => s.guard.waitExpired
      | .bedStop => s.bus.sensedLow
      | _ => false
    (u16At f.payload 0 = 0 ∨ s.holdsId (u16At f.payload 0) = true → ∃ t, exec .clear s = .next t ∧
      (∀ c : Cond, t.cond.has c = (s.cond.has c && !(named c && !causeStands c))) ∧
      t.cond = { s.cond with set := t.cond.set } ∧
      t.bus = { s.bus with
        rx := rest
        drivePull := s.bus.drivePull && !(named .driveFault && !causeStands .driveFault)
        breachPull := s.bus.breachPull && !named .guardBreach } ∧
      UnchangedBut [.bus, .cond] s t) ∧
    (u16At f.payload 0 ≠ 0 → s.holdsId (u16At f.payload 0) = false → ∃ t, exec .clear s = .next t ∧
      t.bus = { s.bus with rx := rest } ∧ t.cond = s.cond.countUp .strayControls 1 ∧ UnchangedBut [.bus, .cond] s t)

/-- R52, R115, R117, R168: a FINISH from the record's tracer with the record's id. In RUNNING and STOPPED the finishing flag
is set, the posted entries stay and the station state with them. In RUNNING with both lists empty the drain is complete and its
retract falls due at once; where the carriage stands in the lift already the carver is DONE, its flag clear, and offers a
CREDIT. That the lift it stands in has arrived (log entry 18), and that a lift still waiting is dropped (log entry 52), are the
model's choice. A second FINISH, and one in SUSPENDED, EXCUSED or DONE, changes nothing. -/
def Obligations.FinishSetsTheFinishingFlag : Prop :=
  ∀ s : State, ∀ f rest, s.bus.rx = f :: rest → f.kind = .finish → s.straps.role = .carver →
    ∀ r, s.job.record = some r → ∀ c, r.work = .carver c → u16At f.payload 0 = r.id → f.src = c.tracer →
    (s.job.state = .running ∨ s.job.state = .stopped → s.job.finishing = false →
      s.job.state = .stopped ∨ s.pq.posted ≠ [] ∨ s.pq.issued ≠ [] →
      s.motion.closing = none → s.motion.portLift = none → s.motion.waiting = [] →
      ∃ t, exec .finish s = .next t ∧ t.bus = { s.bus with rx := rest } ∧ t.job = { s.job with finishing := true } ∧
        UnchangedBut [.bus, .job] s t) ∧
    (s.job.state = .running → s.job.finishing = false → s.pq.posted = [] → s.pq.issued = [] →
      s.guard.atCheck = none → s.guard.passed = none →
      let stands := s.motion.outstanding = [] ∧ s.motion.refArrived = true ∧
        ∃ ref, s.motion.reference = some ref ∧ ref.feed = .lift ∧ ref.depth = r.clearance
      ∃ t, exec .finish s = .next t ∧ t.bus.rx = rest ∧
        ClosingLiftFallsDue ⟨r.clearance, r.feeds.lift, .lift, true⟩ s t ∧
        (stands → t.job = { s.job with state := .done, finishing := false } ∧ t.motion.spindle = .off ∧
          t.pq = { s.pq with creditTimer := none, freeAtOffer := s.pq.free } ∧
          (s.bus.mute = false → ∃ g ∈ t.bus.places, g.kind = .credit)) ∧
        (¬ stands → t.job = { s.job with finishing := true } ∧ t.pq = s.pq) ∧
        UnchangedBut [.bus, .job, .pq, .motion, .guard] s t) ∧
    ((s.job.state ∈ [.running, .stopped] ∧ s.job.finishing = true) ∨ s.job.state ∈ [.suspended, .excused, .done] →
      ∃ t, exec .finish s = .next t ∧ t.bus = { s.bus with rx := rest } ∧ UnchangedBut [.bus] s t)

/-- R14, R18, R146, R191: a QUERY to the station's own number is answered with one REPLY to its source, of the content of the
section asked for, while a general place can be had; else the REPLY is dropped and counted. A QUERY to all is discarded. How far a
running sweep has come is looked at now: at the 100 ns a cell of R146, to within the 1,000 cells of the present tick (log entry
14). -/
def Obligations.QueryIsAnsweredOnce : Prop :=
  ∀ s : State, ∀ f rest, s.bus.rx = f :: rest → f.kind = .query →
    (f.dest = 255 → ∃ t, exec .query s = .next t ∧ t.bus = { s.bus with rx := rest } ∧ UnchangedBut [.bus] s t) ∧
    (f.dest ≠ 255 → ∃ t, exec .query s = .next t ∧ t.bus.rx = rest ∧
      t.map = { s.map with progress := t.map.progress } ∧
      (∀ left, s.map.sweeping = true → s.map.sweepTimer = some left → s.map.progress ≤ t.map.progress ∧
        min 32768 (1000 * (33 - left)) ≤ t.map.progress ∧
        t.map.progress ≤ max s.map.progress (min 32768 (1000 * (33 - left) + 999))) ∧
      (s.map.sweeping = false → t.map = s.map) ∧
      (s.bus.mute = false ∧ s.bus.generalHeld < 5 → t.cond = s.cond ∧ t.bus.sending = s.bus.sending ∧
        ∃ g ∈ t.bus.queue, t.bus.queue = place g s.bus.queue ∧ g.kind = .reply ∧ g.dest = byteOf f.src ∧
          g.age = s.bus.offers ∧ g.payload = replyPayload f.payload { s with map := t.map }) ∧
      (s.bus.mute = true ∨ 5 ≤ s.bus.generalHeld → t.bus = { s.bus with rx := rest } ∧
        t.cond = s.cond.countUp .droppedReplies 1) ∧
      UnchangedBut [.seed, .bus, .map, .cond] s t)

/-- R103, R118, R146, R148, R191, section 13.7: the content of a REPLY, section by section: the station summary of either role,
the counters, a roster entry, a tracer's lag entry and a carver's queue state, a cell of the Cut Map (of a running sweep after
its visit or before it, log entry 14), and the bare echo of an index out of range or a section that is none. What the manual
leaves open in it is a free byte: the step kind with no step (log entry 15), an absent roster entry (log entry 16), an empty
refusal beyond its kind (log entry 42). With no record the clamped list is empty (log entry 35), and times are rounded down
(log entry 27): the model's choice. -/
def Obligations.ReplyHoldsTheSectionAskedFor : Prop :=
  ∀ s : State, ∀ q : List Byte,
    let index := byteAt q
    let reply := replyPayload q s
    let echo (n : Nat) : List Byte := (List.range n).map fun i => byteOf (index i)
    let id : List Byte := put16 ((s.job.record.map (·.id)).getD 0)
    let weight (n : ClampName) : Nat := match n with
      | .spacing => 128
      | .gap => 64
      | .cut => 32
      | .plunge => 16
      | .rapid => 8
      | .lift => 4
      | .clearance => 2
      | .letterLimit => 1
    let clamps : Nat := ((s.job.record.map fun r => (r.clamped.map weight).sum).getD 0)
    let pulls : Nat := (if s.bus.drivePull then 1 else 0) + (if s.bus.breachPull then 2 else 0)
    (index 0 = 0 → ∃ work conds refusal : List Byte,
      reply = 0#8 :: byteOf s.job.state.code :: id ++ work ++ conds ++ [byteOf clamps, byteOf pulls, s.motion.faultCode]
        ++ refusal ∧
      conds.length = 4 ∧
      (∀ k : Cond, (conds.getD (k.number / 8) 0).getLsbD (7 - k.number % 8) = s.cond.has k) ∧
      refusal.length = 5 ∧ (s.job.refusal = none → refusal.head? = some 0#8) ∧
      (∀ x, s.job.refusal = some x →
        refusal = 12#8 :: put16 x.jobId ++ [byteOf x.code.code, byteOf x.index]) ∧
      (s.straps.role = .carver → ∃ kind : Byte,
        work = [byteOf (s.seq.openPass.getD s.seq.completed), byteOf (s.seq.index.getD 255), kind]
          ++ putLength s.seq.floor ∧
        ∀ c, s.carverJob = some c → ∀ k, s.seq.index = some k → ∀ p, c.plan[k]? = some p → kind = byteOf p.kind.code) ∧
      (s.straps.role = .tracer → work =
        [byteOf s.pacer.pass, byteOf s.store.state.code, byteOf s.store.cls] ++ put16 s.store.records.length ++ [0])) ∧
    (index 0 = 1 → reply = 1#8 :: s.cond.counters.flatMap put16) ∧
    (index 0 = 2 → index 1 < 32 →
      (∀ p, s.roster.entries.getD (index 1) none = some p → reply =
        [2#8, byteOf (index 1), 1, byteOf (roleCode p.role), byteOf p.rail, byteOf p.slot, byteOf p.selfCheck,
          byteOf p.pathCapacity, byteOf p.storeCapacity] ++ put16 p.joinOrder) ∧
      (s.roster.entries.getD (index 1) none = none →
        reply.take 3 = [2#8, byteOf (index 1), 0] ∧ reply.length = 11)) ∧
    (index 0 = 2 → 32 ≤ index 1 → reply = echo 2) ∧
    (index 0 = 3 → s.straps.role = .carver → reply =
      [3#8, byteOf s.pq.free, byteOf s.pq.posted.length, byteOf s.pq.issued.length] ++ put16 s.pq.expected.toNat
        ++ put16 s.pq.released.toNat ++ [byteOf s.pq.lastPass, if s.pq.inPass then 1 else 0]) ∧
    (index 0 = 3 → s.straps.role = .tracer →
      (∀ e, s.pacer.lag[index 1]? = some e → reply =
        [3#8, byteOf (index 1), byteOf e.carver, byteOf e.capacity] ++ put16 e.released.toNat
          ++ [byteOf e.last.code, byteOf e.completed, if e.wants then 1 else 0, byteOf e.cls, byteOf e.free,
            byteOf ((if e.silent then 1 else 0) + (if e.dropped then 2 else 0) + (if e.presumed then 4 else 0))]
          ++ put16 (min 65535 ((s.now - e.lastHeard) / 10))) ∧
      (s.pacer.lag.length ≤ index 1 → reply = echo 2)) ∧
    (index 0 = 4 → s.straps.role = .carver → index 1 < 8 → index 2 < 64 → index 3 < 64 → s.map.failed = none →
      ∃ cell : Cell, reply = echo 4 ++ putLength cell.cleared ++ putLength (cell.minimum.getD 0)
        ++ [byteOf ((if cell.touched then 1 else 0) + (if cell.gapMarked then 2 else 0)
          + (if cell.minimum.isSome then 4 else 0))] ∧
      let now := s.map.read (index 1 * 4096 + index 2 * 64 + index 3)
      (s.map.sweeping = false → cell = now) ∧ (s.map.sweeping = true → cell = now ∨ cell = now.sweep)) ∧
    (index 0 = 4 → s.straps.role = .tracer ∨ 8 ≤ index 1 ∨ 64 ≤ index 2 ∨ 64 ≤ index 3 → reply = echo 4) ∧
    (5 ≤ index 0 → reply = echo 1)

/-! ## The tracer (chapters 4 to 6) -/

/-- R76 to R78, R84, R89: a CREDIT from a carver with no entry while a tracer enrols. One that meets every condition appends an
entry at the tail of the lag table, with L 0, no pass completed and its flags clear; the capacity is that of the carver's roster
entry, else the free slot count reported. When every carver of the list then has an entry, enrolment ends: in STOPPED its result
is held, else the first decision is reached. One that fails any condition is discarded, and so is one of a carver restarted in
this job (log entry 50).
In RASTER mode an ordered live pass leaves the Generator's phase as it was (the model's choice, log entry 58). -/
def Obligations.CreditAdmitsACarver : Prop :=
  ∀ s : State, ∀ f rest, s.bus.rx = f :: rest → f.kind = .credit → s.straps.role = .tracer →
    ∀ r, s.job.record = some r → ∀ w, r.work = .tracer w → s.pacer.phase = .enrolling →
    s.pacer.decision = none → s.pacer.finishDue = false → (∀ e ∈ s.pacer.lag, e.carver ≠ f.src) →
    let qualifies := f.src ∈ w.enrol ∧ u16At f.payload 0 = r.id ∧ byteAt f.payload 2 ∈ [4, 5, 7] ∧
      u16At f.payload 3 = 0 ∧ byteAt f.payload 6 = 0 ∧ 1 ≤ byteAt f.payload 5 ∧ byteAt f.payload 5 ≤ 240
    let lag := s.pacer.lag ++ [{
      carver := f.src
      capacity := match s.roster.entries.getD f.src none with
        | some p => if p.role = .carver then p.pathCapacity else byteAt f.payload 5
        | none => byteAt f.payload 5
      released := 0, last := stateOf (byteAt f.payload 2), completed := 0, wants := byteAt f.payload 7 == 1
      cls := byteAt f.payload 8, free := byteAt f.payload 5, lastHeard := s.now
      silent := false, dropped := false, presumed := false }]
    let complete := ∀ k ∈ w.enrol, k = f.src ∨ ∃ e ∈ s.pacer.lag, e.carver = k
    (qualifies → f.src ∉ s.pacer.restarted → byteAt f.payload 7 ≤ 1 → byteAt f.payload 8 ≤ 3 →
      ∃ t, exec .credit s = .next t ∧ t.bus.rx = rest ∧
        (¬ complete → t.pacer = { s.pacer with lag := lag } ∧ t.bus = { s.bus with rx := rest } ∧
          UnchangedBut [.bus, .pacer] s t) ∧
        (complete → s.job.state = .stopped → t.bus = { s.bus with rx := rest } ∧
          t.pacer = { s.pacer with lag := lag, enrolTimer := none, decision := some .enrolment } ∧
          UnchangedBut [.bus, .pacer] s t) ∧
        (complete → s.job.state = .running → PassDecided 0 r w lag s.gen s t) ∧
        UnchangedBut [.bus, .job, .gen, .pacer, .store, .motion, .guard, .cond] s t) ∧
    (¬ qualifies ∨ f.src ∈ s.pacer.restarted → ∃ t, exec .credit s = .next t ∧ t.bus = { s.bus with rx := rest } ∧
      UnchangedBut [.bus] s t)

/-- R79 to R81: a CREDIT while a pass is being emitted. Of the job, from a carver taking part with an entry, it makes the entry
heard now and not silent; L goes forward toward the last emitted sequence only; the completed pass never goes back, and the wish
for another pass is taken unless the CREDIT lags behind it. One from a carver that has left the job, or holds another, drops its
entry with CARVER_DROPPED. A dropped entry is updated for reporting only, and a CREDIT from a carver with no entry is discarded.
That neither a CREDIT of another job or of a state outside any job, nor one of an entry dropped before, clears the presumed flag
is the model's choice (log entry 48). The other entries stay. -/
def Obligations.CreditUpdatesItsEntry : Prop :=
  ∀ s : State, ∀ f rest, s.bus.rx = f :: rest → f.kind = .credit → s.straps.role = .tracer →
    ∀ r, s.job.record = some r → s.pacer.phase = .passing →
    ((∀ e ∈ s.pacer.lag, e.carver ≠ f.src) → ∃ t, exec .credit s = .next t ∧ t.bus = { s.bus with rx := rest } ∧
      UnchangedBut [.bus] s t) ∧
    ∀ e, s.pacer.lag.find? (fun e => e.carver == f.src) = some e →
    1 ≤ byteAt f.payload 2 → byteAt f.payload 2 ≤ 10 → byteAt f.payload 7 ≤ 1 → byteAt f.payload 8 ≤ 3 →
    let l' : Seq := BitVec.ofNat 16 (u16At f.payload 3)
    let updated : LagEntry := { e with
      last := stateOf (byteAt f.payload 2), free := byteAt f.payload 5, lastHeard := s.now, silent := false
      released := if (l' - e.released).toNat ≤ (s.pacer.emitted - e.released).toNat then l' else e.released
      completed := max e.completed (byteAt f.payload 6)
      wants := if e.completed ≤ byteAt f.payload 6 then byteAt f.payload 7 == 1 else e.wants
      cls := if e.completed ≤ byteAt f.payload 6 then byteAt f.payload 8 else e.cls
      presumed := if e.completed ≤ byteAt f.payload 6 then false else e.presumed }
    let with_ (new : LagEntry) : List LagEntry := s.pacer.lag.map fun x => if x.carver = f.src then new else x
    let named := u16At f.payload 0 = r.id
    let drops (new : LagEntry) := ∃ t, exec .credit s = .next t ∧ t.bus.rx = rest ∧
      t.pacer = { s.pacer with lag := with_ { new with dropped := true } } ∧ t.cond.has .carverDropped = true ∧
      UnchangedBut [.bus, .pacer, .cond] s t
    (e.dropped = false → named → byteAt f.payload 2 ∈ [4, 5, 7] → ∃ t, exec .credit s = .next t ∧
      t.bus = { s.bus with rx := rest } ∧ t.pacer = { s.pacer with lag := with_ updated } ∧
      UnchangedBut [.bus, .pacer] s t) ∧
    (e.dropped = false → named → byteAt f.payload 2 ∈ [6, 8, 9] → drops updated) ∧
    (e.dropped = false → ¬ named ∨ byteAt f.payload 2 ∈ [1, 2, 3, 10] →
      drops { e with last := stateOf (byteAt f.payload 2), lastHeard := s.now, silent := false }) ∧
    (e.dropped = true → ∃ t, exec .credit s = .next t ∧ t.bus = { s.bus with rx := rest } ∧
      t.pacer = { s.pacer with lag := with_ { e with
        last := stateOf (byteAt f.payload 2), free := byteAt f.payload 5, lastHeard := s.now } } ∧
      UnchangedBut [.bus, .pacer] s t)

/-- R77, R79, R80, R86, R87, R89, R91: a CREDIT from a carver with an entry outside a pass. In COLLECTING the entry is updated
or dropped; after the tail timer's end one that shows a whole queue free and lags is presumed to have completed the pass; then
the end of collection is tested, and its decision reached, or held in STOPPED. In ENROLLING the end-of-pass fields stay as
admitted. In DONE the entry is updated for reporting: that the silent flag is kept and the presumed flag follows R86 is the
model's choice (log entry 48), and so is that in COLLECTING a CREDIT of another job, or of a state outside any job, keeps the
presumed flag of the entry it drops. In OFF otherwise it is discarded. In RASTER mode an ordered live pass leaves the
Generator's phase as it was (the model's choice, log entry 58). -/
def Obligations.CreditsCloseAPassAndAreReported : Prop :=
  ∀ s : State, ∀ f rest, s.bus.rx = f :: rest → f.kind = .credit → s.straps.role = .tracer →
    ∀ e, s.pacer.lag.find? (fun e => e.carver == f.src) = some e →
    byteAt f.payload 2 ∈ [1, 2, 3, 4, 5, 6, 7, 8, 9, 10] → byteAt f.payload 7 ≤ 1 → byteAt f.payload 8 ≤ 3 →
    let code := byteAt f.payload 2
    let l' : Seq := BitVec.ofNat 16 (u16At f.payload 3)
    let heard : LagEntry := { e with
      last := stateOf code, free := byteAt f.payload 5, lastHeard := s.now, silent := false
      released := if (l' - e.released).toNat ≤ (s.pacer.emitted - e.released).toNat then l' else e.released }
    let updated : LagEntry :=
      if e.completed ≤ byteAt f.payload 6 then
        { heard with completed := byteAt f.payload 6, wants := byteAt f.payload 7 == 1, cls := byteAt f.payload 8
                     presumed := false }
      else heard
    let with_ (new : LagEntry) : List LagEntry := s.pacer.lag.map fun x => if x.carver = f.src then new else x
    (∀ r, s.job.record = some r → ∀ w, r.work = .tracer w → e.dropped = false → s.pacer.finishDue = false →
      s.pacer.phase = .collecting →
      let takesPart := u16At f.payload 0 = r.id ∧ code ∈ [4, 5, 7]
      let left := u16At f.payload 0 = r.id ∧ code ∈ [6, 8, 9]
      let presumed := s.pacer.tailExpired = true ∧ updated.completed < s.pacer.pass ∧ updated.free = updated.capacity ∧
        code = 5
      let new : LagEntry :=
        if takesPart then
          (if presumed then
            { updated with completed := s.pacer.pass, wants := true, cls := byteAt f.payload 8, presumed := true }
          else updated)
        else if left then { updated with dropped := true }
        else { e with last := stateOf code, lastHeard := s.now, silent := false, dropped := true }
      let collected := ∀ x ∈ with_ new, x.dropped = false → s.pacer.pass ≤ x.completed
      ∃ t, exec .credit s = .next t ∧ t.bus.rx = rest ∧ (¬ takesPart → t.cond.has .carverDropped = true) ∧
        (takesPart → s.job.state = .stopped ∨ ¬ collected → t.cond = s.cond ∧ t.bus = { s.bus with rx := rest }) ∧
        (¬ collected → t.pacer = { s.pacer with lag := with_ new } ∧ UnchangedBut [.bus, .pacer, .cond] s t) ∧
        (collected → s.job.state = .stopped →
          t.pacer = { s.pacer with lag := with_ new, decision := some .collection } ∧
          UnchangedBut [.bus, .pacer, .cond] s t) ∧
        (collected → s.job.state = .running → PassDecided s.pacer.pass r w (with_ new) s.gen s t) ∧
        UnchangedBut [.bus, .job, .gen, .pacer, .store, .motion, .guard, .cond] s t) ∧
    (s.pacer.phase = .enrolling → e.dropped = false → s.holdsId (u16At f.payload 0) = true → code ∈ [4, 5, 7] →
      ∃ t, exec .credit s = .next t ∧ t.bus = { s.bus with rx := rest } ∧
        t.pacer = { s.pacer with lag := with_ heard } ∧ UnchangedBut [.bus, .pacer] s t) ∧
    (s.pacer.phase = .off → s.job.state = .done → ∃ t, exec .credit s = .next t ∧ t.bus = { s.bus with rx := rest } ∧
      t.pacer = { s.pacer with lag := with_ { updated with silent := e.silent } } ∧ UnchangedBut [.bus, .pacer] s t) ∧
    (s.pacer.phase = .off → s.job.state ≠ .done → ∃ t, exec .credit s = .next t ∧ t.bus = { s.bus with rx := rest } ∧
      UnchangedBut [.bus] s t)

/-- R76, R78, R82, R86, R87, R89: the ends of the Pacer's timers. At the enrolment timer's end with no entry the tracer is back
in ARMED with NO_CARVERS, its record kept; with entries CARVER_ABSENT tells of those missing and the first decision is reached;
in STOPPED the result is held. At the tail timer's end presumption becomes possible and the end of collection is tested: with an
entry that has not completed the pass the wait goes on, else the decision is reached, or held in STOPPED. A participating entry
not heard for 50 ms becomes silent, which shuts the gate; CARVER_SILENT is raised while the station is RUNNING.
In RASTER mode an ordered live pass leaves the Generator's phase as it was (the model's choice, log entry 58). -/
def Obligations.PacerTimersEnd : Prop :=
  ∀ s : State,
    (∀ r, s.job.record = some r → ∀ w, r.work = .tracer w → s.pacer.finishDue = false →
      (s.pacer.enrolTimer.isSome = true → s.pacer.phase = .enrolling → s.pacer.decision = none →
        ∃ t, exec .enrolmentTimerExpiry s = .next t ∧
          (s.job.state = .stopped →
            t.pacer = { s.pacer with enrolTimer := none, decision := some .enrolment } ∧ UnchangedBut [.pacer] s t) ∧
          (s.job.state = .running → s.pacer.lag = [] →
            t.job = { s.job with state := .armed } ∧ t.pacer = { s.pacer with enrolTimer := none, phase := .off } ∧
            t.cond.has .noCarvers = true ∧ UnchangedBut [.bus, .job, .pacer, .motion, .cond] s t) ∧
          (s.job.state = .running → s.pacer.lag ≠ [] → PassDecided 0 r w s.pacer.lag s.gen s t ∧
            ((∃ k ∈ w.enrol, ∀ e ∈ s.pacer.lag, e.carver ≠ k) → t.cond.has .carverAbsent = true)) ∧
          UnchangedBut [.bus, .job, .gen, .pacer, .store, .motion, .guard, .cond] s t) ∧
      (s.pacer.tailTimer.isSome = true → s.pacer.phase = .collecting →
        let waited := { s.pacer with tailTimer := none, tailExpired := true }
        let collected := ∀ e ∈ s.pacer.lag, e.dropped = false → s.pacer.pass ≤ e.completed
        ∃ t, exec .tailTimerExpiry s = .next t ∧
          (¬ collected → t.pacer = waited ∧ UnchangedBut [.pacer] s t) ∧
          (collected → s.job.state = .stopped →
            t.pacer = { waited with decision := some .collection } ∧ UnchangedBut [.pacer] s t) ∧
          (collected → s.job.state = .running → PassDecided s.pacer.pass r w s.pacer.lag s.gen s t) ∧
          UnchangedBut [.bus, .job, .gen, .pacer, .store, .motion, .guard, .cond] s t)) ∧
    (s.pacer.phase ≠ .off → ∀ k : Nat, ∀ e, s.pacer.lag.find? (fun e => e.carver == k) = some e →
      e.dropped = false → e.silent = false →
      ∃ t, exec (.entrySilent k) s = .next t ∧
        t.pacer = { s.pacer with
          lag := s.pacer.lag.map fun x => if x.carver = k then { e with silent := true } else x } ∧
        (s.job.state = .running → t.cond.has .carverSilent = true) ∧
        (s.job.state ≠ .running → t.cond = s.cond ∧ t.bus = s.bus) ∧ t.gateOpen = false ∧
        UnchangedBut [.bus, .pacer, .cond] s t)

/-- R57, R58, R81, R94 to R96: the head record passes the gate when a RUNNING tracer has room for a TRACE and every
participating carver allows its sequence: it is offered as a TRACE to all, it is the last emitted, and it is handed to the
Store, which a live PASS_START of a job with store use sets RECORDING, a SURFACE, STROKE or LIFT is appended to, and a PASS_END
completes; a 16,385th record overflows it. While the gate is shut nothing happens. -/
def Obligations.EmissionPassesTheGate : Prop :=
  ∀ s : State, ∀ r rest, s.gen.due = r :: rest → ∀ j, s.job.record = some j → ∀ w, j.work = .tracer w →
    let open_ := s.straps.role = .tracer ∧ s.job.state = .running ∧ s.gen.phase ≠ .awaitStart ∧ s.bus.mute = false ∧
      s.bus.generalHeld < 5 ∧ s.bus.tracesHeld < 4 ∧
      ∀ e ∈ s.pacer.lag, e.dropped = false → e.silent = false ∧ (r.seq - e.released).toNat ≤ e.capacity
    (open_ → ∃ t, exec .emission s = .next t ∧ t.pacer.emitted = r.seq ∧ t.pacer.lag = s.pacer.lag ∧
      (∃ g ∈ t.bus.queue, g.kind = .trace ∧ g.dest = 255 ∧ g.payload = tracePayload r ∧ g.age = s.bus.offers) ∧
      (∀ g ∈ s.bus.queue, g ∈ t.bus.queue) ∧
      (s.store.cursor = none →
        (s.store.state = .empty → r.kind = .passStart → w.useStore = true → t.store = { s.store with
          state := .recording, records := [], faces := r.faces, cls := if w.mode = .raster then r.cls else 0 }) ∧
        (s.store.state = .empty → r.kind ≠ .passStart ∨ w.useStore = false → r.kind ≠ .passEnd → t.store = s.store) ∧
        (s.store.state = .recording → r.kind ∈ [.surface, .stroke, .lift] →
          (s.store.records.length < 16384 →
            t.store = { s.store with records := s.store.records ++ [⟨r.kind, r.u, r.v, r.depth, r.angle, r.width⟩] }) ∧
          (16384 ≤ s.store.records.length →
            t.store = { s.store with state := .overflowed, records := [], cls := 0, faces := 0 } ∧
            t.cond.has .storeFull = true)) ∧
        (s.store.state = .recording → r.kind = .passEnd →
          t.store.state = .complete ∧ t.store.records = s.store.records ∧ t.store.cls = s.store.cls ∧
            t.store.faces = s.store.faces) ∧
        (s.store.state = .complete ∨ s.store.state = .overflowed → r.kind ≠ .passEnd → t.store = s.store)) ∧
      UnchangedBut [.bus, .job, .gen, .pacer, .store, .motion, .guard, .cond] s t) ∧
    (¬ open_ → exec .emission s = .next s)

/-- R55, R56, R59 to R64: what follows the emission of a live RASTER record, other than the PASS_END. After the PASS_START the
first face begins, with its face-start LIFT. After a face-start LIFT the carriage is sent to the grid's first point. After a
sample's record the raster goes to the next point, row by row and back and forth: to one within travel the carriage is sent at
CUT, one outside it yields its LIFT at once; after the last point the next face begins, after the last face the PASS_END is
built. -/
def Obligations.RasterEmissionMovesTheCarriage : Prop :=
  ∀ s : State, ∀ r rest, s.gen.due = r :: rest → ∀ j, s.job.record = some j → ∀ w, j.work = .tracer w →
    w.mode = .raster → s.gateOpen = true → s.store.cursor = none → r.kind ≠ .passEnd →
    ∀ p cls, s.gen.current = some ⟨p, cls⟩ → ∀ stepover : Nat, w.stepovers[cls]? = some stepover →
    ∀ cols rows : Int, w.u0 ≤ w.u1 → w.v0 ≤ w.v1 →
    RoundsDown cols (w.u1 - w.u0) w.spacing.toNat → RoundsDown rows (w.v1 - w.v0) stepover →
    let g := s.gen
    let within (lo hi i : Int) : Int := if i < lo then lo else if hi < i then hi else i
    let angle (k : Nat) : Angle := (w.faces[k]?).getD 0
    let record (kind : RecordKind) (u v : Int) (a : Angle) : TraceRecord :=
      ⟨g.nextSeq, p, kind, saturate u, saturate v, 0, a, 0, 0, 0⟩
    let built (x : TraceRecord) : Generator := { g with due := rest ++ [x], nextSeq := g.nextSeq + 1 }
    let face (k : Nat) : Generator := { built (record .lift w.u0 w.v0 (angle k)) with
      face := k, row := 0, col := 0, back := false, phase := .faceMove }
    let rowEnds := if g.back then g.col = 0 else ¬ (g.col : Int) < cols
    let faceEnds := rowEnds ∧ ¬ (g.row : Int) < rows
    let col := if rowEnds then g.col else if g.back then g.col - 1 else g.col + 1
    let row := if rowEnds then g.row + 1 else g.row
    let back := if rowEnds then !g.back else g.back
    let u := w.u0 + col * w.spacing
    let v := w.v0 + row * stepover
    let travels := j.xMin ≤ u ∧ u ≤ j.xMax ∧ j.yMin ≤ v ∧ v ≤ j.yMax
    ∃ t, exec .emission s = .next t ∧
      (r.kind = .passStart → t.gen = face 0 ∧ t.motion = s.motion ∧ t.guard = s.guard) ∧
      (r.kind ≠ .passStart → g.phase = .faceMove → t.gen = { g with due := rest } ∧
        MoveCommanded
          (movePoint j (within j.xMin j.xMax w.u0) (within j.yMin j.yMax w.v0) (angle g.face) .rapid .face) s t) ∧
      (r.kind ≠ .passStart → g.phase ≠ .faceMove →
        (¬ faceEnds → travels →
          t.gen = { g with due := rest, col := col, row := row, back := back, phase := .sampleMove } ∧
          MoveCommanded (movePoint j u v (angle g.face) .cut .sample) s t) ∧
        (¬ faceEnds → ¬ travels →
          t.gen = { built (record .lift u v (angle g.face)) with
            col := col, row := row, back := back, phase := .atSample } ∧ t.motion = s.motion ∧ t.guard = s.guard) ∧
        (faceEnds → g.face + 1 < w.faces.length →
          t.gen = face (g.face + 1) ∧ t.motion = s.motion ∧ t.guard = s.guard) ∧
        (faceEnds → ¬ g.face + 1 < w.faces.length →
          t.gen = built (record .passEnd 0 0 0) ∧ t.motion = s.motion ∧ t.guard = s.guard)) ∧
      t.job = s.job ∧ t.pacer = { s.pacer with emitted := r.seq }

/-- R58, R85 to R88, R98: the emission of a PASS_END, live or replayed, begins the collection of its pass: the Generator is
QUIET, a replay is over, in RASTER mode the carriage is sent back to the start of the grid, and the end of collection is tested
at once.
In RASTER mode an ordered live pass leaves the Generator's phase as it was (the model's choice, log entry 58). -/
def Obligations.PassEndBeginsCollection : Prop :=
  ∀ s : State, ∀ r rest, s.gen.due = r :: rest → ∀ j, s.job.record = some j → ∀ w, j.work = .tracer w →
    s.gateOpen = true → (s.store.cursor = none ∨ (s.store.state = .complete ∧ s.store.cursor = some .passEnd)) →
    r.kind = .passEnd → s.pacer.finishDue = false →
    let within (lo hi i : Int) : Int := if i < lo then lo else if hi < i then hi else i
    let home := movePoint j (within j.xMin j.xMax w.u0) (within j.yMin j.yMax w.v0) ((w.faces[0]?).getD 0) .rapid .comeback
    let quiet : Generator := { s.gen with due := rest, phase := .quiet, exitPoint := none, passEndNoted := false }
    let collected := ∀ e ∈ s.pacer.lag, e.dropped = false → s.pacer.pass ≤ e.completed
    let store : TraceStore :=
      if s.store.cursor = some .passEnd then { s.store with cursor := none }
      else if s.store.state = .recording then { s.store with state := .complete } else s.store
    ∃ t, exec .emission s = .next t ∧ t.pacer.emitted = r.seq ∧
      (w.mode = .raster → t.guard.atCheck = some home ∨ t.guard.passed = some home ∨ home ∈ t.motion.waiting) ∧
      (¬ collected → t.gen = quiet ∧ t.store = store ∧ t.job = s.job ∧
        t.pacer = { s.pacer with emitted := r.seq, phase := .collecting, tailTimer := none, tailExpired := false } ∧
        (w.mode = .raster → MoveCommanded home s t) ∧
        (w.mode = .follow → t.motion = s.motion ∧ t.guard = s.guard)) ∧
      (collected → ∃ m : State, m.job = s.job ∧ m.store = store ∧ m.inputs = s.inputs ∧ m.bus.mute = false ∧
        m.bus.generalHeld = s.bus.generalHeld + 1 ∧ PassDecided s.pacer.pass j w s.pacer.lag quiet m t) ∧
      UnchangedBut [.bus, .job, .gen, .pacer, .store, .motion, .guard, .cond] s t

/-- R97 to R99: a replay. The emission of its PASS_START, or of stored record i, builds the next item, of the pass now ordered:
stored record 0 or i + 1, or the PASS_END after the last one; the store stays as it was, and no move is commanded. -/
def Obligations.ReplayFollowsTheRecording : Prop :=
  ∀ s : State, ∀ r rest, s.gen.due = r :: rest → ∀ j, s.job.record = some j → ∀ w, j.work = .tracer w →
    s.gateOpen = true → s.store.state = .complete →
    ∀ next : Nat, s.store.cursor = (if next = 0 then some .passStart else some (.record (next - 1))) →
    ∃ t, exec .emission s = .next t ∧
      (∀ q, s.store.records[next]? = some q →
        t.store = { s.store with cursor := some (.record next) } ∧
        t.gen = { s.gen with
          due := rest ++ [⟨s.gen.nextSeq, s.pacer.pass, q.kind, saturate q.u, saturate q.v, saturate q.depth, q.angle,
            min 65535 q.width, 0, 0⟩]
          nextSeq := s.gen.nextSeq + 1 }) ∧
      (s.store.records.length ≤ next →
        t.store = { s.store with cursor := some .passEnd } ∧
        t.gen = { s.gen with
          due := rest ++ [⟨s.gen.nextSeq, s.pacer.pass, .passEnd, 0, 0, 0, 0, 0, 0, 0⟩]
          nextSeq := s.gen.nextSeq + 1 }) ∧
      t.pacer = { s.pacer with emitted := r.seq } ∧ UnchangedBut [.bus, .gen, .pacer, .store] s t

/-- R54, R65 to R67, R69 to R71: the stylus and the pass buttons of a FOLLOW pass. A probe report in AWAIT_START is only the
last report; in IN_PASS with no hold it makes the entry STROKE, the spaced STROKE or the exit LIFT of R66's table or is
accounted; in a hold it builds nothing; outside those phases it is ignored. Pass-start is taken in AWAIT_START once the
turntable has arrived and while RUNNING; pass-end in IN_PASS builds a LIFT if following and then the PASS_END, or is noted
during a hold; any other press is ignored. When the last record that waited has been emitted the hold ends: with a LIFT where
the stylus left the groove or outran the stream by more than two spacings, TRACE_SKIP for the latter, and a noted pass-end.
That the LIFT and the PASS_END of a pass's end keep the distance accumulator is the model's choice (log entry 63). -/
def Obligations.TheStylusIsFollowed : Prop :=
  ∀ s : State, s.straps.role = .tracer → ∀ r, s.job.record = some r → ∀ w, r.work = .tracer w → w.mode = .follow →
    let last := (s.gen.last.map (·.at_)).getD ⟨0, 0⟩
    let held := s.gen.due ≠ [] ∨ s.job.state = .stopped
    let angle : Angle := (w.faces[0]?).getD 0
    let record (kind : RecordKind) (q : Point) (depth : Int) (width : Nat) : TraceRecord :=
      ⟨s.gen.nextSeq, s.gen.pass, kind, saturate q.u, saturate q.v, saturate depth, angle, min 65535 width, 0, 0⟩
    let end_ (n : Seq) : TraceRecord := ⟨n, s.gen.pass, .passEnd, 0, 0, 0, 0, 0, 0, 0⟩
    let built (g : Generator) (x : TraceRecord) : Generator :=
      { g with due := s.gen.due ++ [x], nextSeq := s.gen.nextSeq + 1 }
    let begins := s.gen.phase = .awaitStart ∧ s.gen.tableArrived = true ∧ s.job.state = .running
    (∀ p : ProbeReport,
      let at_ : Point := ⟨p.u, p.v⟩
      let inside := p.inGroove = true ∧ p.overtravel = false ∧ w.u0 ≤ p.u ∧ p.u ≤ w.u1 ∧ w.v0 ≤ p.v ∧ p.v ≤ w.v1
      let noted := { s.gen with last := some ⟨at_, p.inGroove⟩ }
      ∀ far : Nat, far * far ≤ (p.u - last.u).natAbs ^ 2 + (p.v - last.v).natAbs ^ 2 →
      (p.u - last.u).natAbs ^ 2 + (p.v - last.v).natAbs ^ 2 < (far + 1) * (far + 1) →
      let acc := s.gen.acc + far
      ∃ t, exec (.probeReport p) s = .next t ∧
        (s.gen.phase = .awaitStart → t.gen = noted ∧ UnchangedBut [.gen] s t) ∧
        (s.gen.phase = .inPass → (p.overtravel = true → t.cond.has .probeOvertravel = true) ∧
          (¬ held →
            (s.gen.following = false → inside →
              t.gen = { built noted (record .stroke at_ p.depth p.width) with following := true, acc := 0 }) ∧
            (s.gen.following = false → ¬ inside → t.gen = noted) ∧
            (s.gen.following = true → inside → (acc : Int) < w.spacing → t.gen = { noted with acc := acc }) ∧
            (s.gen.following = true → inside → w.spacing ≤ (acc : Int) →
              t.gen = { built noted (record .stroke at_ p.depth p.width) with acc := 0 }) ∧
            (s.gen.following = true → ¬ inside →
              t.gen = { built noted (record .lift last 0 0) with following := false, acc := 0 })) ∧
          (held →
            (s.gen.following = true → inside → t.gen = { noted with acc := acc }) ∧
            (s.gen.following = true → ¬ inside → t.gen = { noted with exitPoint := some last, following := false }) ∧
            (s.gen.following = false → t.gen = noted))) ∧
        (s.gen.phase ≠ .awaitStart → s.gen.phase ≠ .inPass → t = s) ∧ UnchangedBut [.bus, .gen, .cond] s t) ∧
    (begins → ∃ t, exec .passStartButton s = .next t ∧
      t.gen = { s.gen with phase := .inPass, following := false, acc := 0 } ∧ UnchangedBut [.gen] s t) ∧
    (¬ begins → exec .passStartButton s = .next s) ∧
    (s.gen.phase = .inPass → ∃ t, exec .passEndButton s = .next t ∧ UnchangedBut [.gen] s t ∧
      (held → t.gen = { s.gen with passEndNoted := true }) ∧
      (¬ held → s.gen.following = false →
        t.gen = { s.gen with due := [end_ s.gen.nextSeq], nextSeq := s.gen.nextSeq + 1 }) ∧
      (¬ held → s.gen.following = true → t.gen = { s.gen with
        due := [record .lift last 0 0, end_ (s.gen.nextSeq + 1)], nextSeq := s.gen.nextSeq + 1 + 1, following := false })) ∧
    (s.gen.phase ≠ .inPass → exec .passEndButton s = .next s) ∧
    (∀ x, s.gen.due = [x] → s.gateOpen = true → s.store.cursor = none → s.gen.phase = .inPass → x.kind ≠ .passEnd →
      ∃ t, exec .emission s = .next t ∧ t.gen = ({ s.gen with due := [] } : Generator).holdEnded w ∧
        (2 * w.spacing < (s.gen.acc : Int) → s.gen.exitPoint.isSome = true ∨ s.gen.following = true →
          t.cond.has .traceSkip = true) ∧
        UnchangedBut [.bus, .gen, .pacer, .store, .cond] s t)

/-- R61 to R63, R65, R85, R166, R184: the arrival of a tracer's move. It leaves the outstanding setpoints. At a face move or a
sample move the probe is read: a SURFACE of its depth at the sample point, or a LIFT there when the probe reads overtravel, with
PROBE_OVERTRAVEL, or the point lies outside travel. The turntable's move lets a FOLLOW pass start; the return move is followed
by nothing. -/
def Obligations.TracerMovesArrive : Prop :=
  ∀ s : State, ∀ r, s.job.record = some r → ∀ w, r.work = .tracer w → ∀ o more, s.motion.outstanding = o :: more →
    ∀ m : Move, o.sp.origin = .tracerMove m → s.motion.closing = none → s.motion.portLift = none →
    ∀ probe : Probe, ∀ p cls, s.gen.current = some ⟨p, cls⟩ → ∀ stepover : Nat, w.stepovers[cls]? = some stepover →
    let u := w.u0 + s.gen.col * w.spacing
    let v := w.v0 + s.gen.row * stepover
    let travels := r.xMin ≤ u ∧ u ≤ r.xMax ∧ r.yMin ≤ v ∧ v ≤ r.yMax
    let angle : Angle := (w.faces[s.gen.face]?).getD 0
    let sampled (kind : RecordKind) (depth : Int) : Generator := { s.gen with
      phase := .atSample, nextSeq := s.gen.nextSeq + 1
      due := s.gen.due ++ [⟨s.gen.nextSeq, p, kind, saturate u, saturate v, saturate depth, angle, 0, 0, 0⟩] }
    let awaited := (m = .face ∧ s.gen.phase = .faceMove) ∨ (m = .sample ∧ s.gen.phase = .sampleMove)
    ∃ t, exec (.arrived o.tag probe) s = .next t ∧
      t.motion.outstanding = more ∧ t.motion.refArrived = more.isEmpty ∧ t.motion.reference = s.motion.reference ∧
      (w.mode = .raster → awaited → travels → probe.overtravel = false → t.gen = sampled .surface probe.depth) ∧
      (w.mode = .raster → awaited → travels → probe.overtravel = true →
        t.gen = sampled .lift 0 ∧ t.cond.has .probeOvertravel = true) ∧
      (w.mode = .raster → awaited → ¬ travels → t.gen = sampled .lift 0) ∧
      (m = .turntable → t.gen = { s.gen with tableArrived := true }) ∧ (m = .comeback → t.gen = s.gen) ∧
      (s.motion.halt = .moving → more = [] → s.guard.atCheck = none → s.guard.passed = none → s.motion.waiting = [] →
        t.guard.claim = s.occupied) ∧
      UnchangedBut [.bus, .gen, .motion, .guard, .cond] s t

/-- R52, R61, R113, R117, R166 to R169, R175, R183, R184: the arrival of a lift of the port's own, on either role, with or
without a record: the retract or park after an ABORT arrives in IDLE. After a job-start lift, and a resume lift that is no
drain's retract, nothing follows. At the arrival of a closing lift, and of the drain's retract, the spindle goes off; at the
drain's retract a RUNNING carver that finishes is DONE, its flag clear, and offers a CREDIT. The claim is recomputed, and
where it has changed a check in GUARD_WAIT runs again, the announce heard flag and the last reply kept (the model's choice,
log entry 62). That the phase is NONE once a setpoint has passed is DEDUCED (log entry 64). -/
def Obligations.LiftsArrive : Prop :=
  ∀ s : State, ∀ o more, s.motion.outstanding = o :: more → s.motion.closing = none → s.motion.portLift = none →
    ∀ probe : Probe,
    let drains := (o.sp.origin = .resumeLift true ∨ ∃ l, o.sp.origin = .closingLift l ∧ l.drain = true) ∧
      s.job.finishing = true ∧ s.job.state = .running
    let closes := o.sp.origin = .resumeLift true ∨ ∃ l, o.sp.origin = .closingLift l
    o.sp.origin = .jobStartLift ∨ (∃ drain, o.sp.origin = .resumeLift drain) ∨ (∃ l, o.sp.origin = .closingLift l) →
    ∃ t, exec (.arrived o.tag probe) s = .next t ∧ t.motion.outstanding = more ∧ t.motion.refArrived = more.isEmpty ∧
      (closes → t.motion.spindle = .off) ∧ (¬ closes → t.motion.spindle = s.motion.spindle) ∧
      (drains → t.job = { s.job with state := .done, finishing := false } ∧
        ∀ c, s.carverJob = some c → t.pq.creditTimer = none ∧
          (s.bus.mute = false → ∃ g ∈ t.bus.places, g.kind = .credit)) ∧
      (¬ drains → t.job = s.job ∧ t.pq = s.pq) ∧
      (s.motion.halt = .moving → s.guard.passed = none → s.guard.atCheck.isSome = true ∨ s.motion.waiting = [] →
        (∀ r, s.job.record = some r → ClaimRecomputed (needed r s.inputs.x more) r s.guard t.guard) ∧
        (s.job.record = none → s.guard.phase ≠ .wait → more = [] →
          t.guard = { s.guard with claim := ⟨s.inputs.x - s.job.halfLeft, s.inputs.x + s.job.halfRight⟩ })) ∧
      t.pq.posted = s.pq.posted ∧ t.pq.issued = s.pq.issued ∧ t.pq.free = s.pq.free ∧ t.pq.released = s.pq.released ∧
      UnchangedBut [.bus, .job, .pq, .motion, .guard] s t

/-! ## The carver (chapters 7 to 10) -/

/-- R106 to R110: a TRACE frame at a carver that takes the stream. In order (d = 0) or after a gap of at most 1,023 from
both the expected sequence and L it is posted, behind a GAP_LIFT that carries the gap, with the markers the pass state calls
for; anything else is a stale duplicate. With too few free slots nothing of the queue changes and QUEUE_OVERRUN is raised. A stale record whose
GAP_LIFT finds no free slot counts the overrun alone (the model's choice, log entry 59). -/
def Obligations.TraceIsPostedOrDiscarded : Prop :=
  ∀ s : State, ∀ f rest, s.bus.rx = f :: rest → f.kind = .trace → s.straps.role = .carver →
    ∀ r, s.job.record = some r → ∀ c, r.work = .carver c →
    s.job.state = .running ∨ s.job.state = .stopped → s.job.finishing = false → f.src = c.tracer →
    ∀ x, readTrace f.payload = some x → x.pass ≠ 0 →
    let d := (x.seq - s.pq.expected).toNat
    let a := (x.seq - s.pq.released).toNat
    let taken := d = 0 ∨ (d ≤ 1023 ∧ a ≤ 1023)
    let lifts : List Entry := if d = 0 then [] else [synthetic .gapLift (x.seq - 1) s.pq.lastPass d]
    let ends : List Entry := if s.pq.inPass then [synthetic .endSynth (x.seq - 1) s.pq.lastPass 0] else []
    let fresh : List Entry := if s.pq.lastPass < x.pass then
        (if x.kind = .passStart then ends else ends ++ [synthetic .passStart (x.seq - 1) x.pass 0])
      else []
    let stale := x.pass < s.pq.lastPass ∨ (x.pass = s.pq.lastPass ∧ (s.pq.inPass = false ∨ x.kind = .passStart))
    let posted := lifts ++ fresh ++ [x.toEntry]
    let counted := if d = 0 then s.cond else s.cond.countUp .gapTotal d
    ∃ t, exec .trace s = .next t ∧ t.bus.rx = rest ∧ UnchangedBut [.bus, .pq, .cond] s t ∧
      (¬ taken → t.pq = s.pq ∧ t.cond = s.cond.countUp .staleDuplicates 1) ∧
      (taken → ¬ stale → posted.length ≤ s.pq.free →
        t.pq = { s.pq with
          posted := s.pq.posted ++ posted, free := s.pq.free - posted.length, expected := x.seq + 1
          lastPass := x.pass, inPass := x.kind != .passEnd } ∧
        t.cond.counters = counted.counters ∧ (d ≠ 0 → t.cond.has .traceGap = true) ∧ (d = 0 → t.cond = s.cond)) ∧
      (taken → (¬ stale ∧ s.pq.free < posted.length) ∨ (stale ∧ s.pq.free < lifts.length) →
        t.pq = s.pq ∧ t.cond.counters = (s.cond.countUp .overruns 1).counters ∧ t.cond.has .queueOverrun = true) ∧
      (taken → stale → lifts.length ≤ s.pq.free →
        t.pq = { s.pq with
          posted := s.pq.posted ++ lifts, free := s.pq.free - lifts.length, expected := x.seq + 1 } ∧
        t.cond.counters = (counted.countUp .staleDuplicates 1).counters)

/-- R111, R112, R145, R152, R154, R155, R158, R159: a marker at the head, and every head of a resting Sequencer. A PASS_START
with nothing issued opens its pass: the floor is the lesser of F0 + r × ΔF and F1, the running tallies start at nothing, broken
when the marker is synthetic, and the marker is completed. A PASS_END or END_SYNTH is held at the head; with nothing issued its
sweep begins. A resting Sequencer completes any head at once, with no setpoint, once nothing is issued; a PASS_END or END_SYNTH
then reports the running tallies, and no pass is open (DEDUCED, log entry 26). Only a resume lift that is due keeps a head from
being handed on (R167). -/
def Obligations.HeadMarkersAndRest : Prop :=
  ∀ s : State, ∀ e rest, s.pq.posted = e :: rest → s.straps.role = .carver → s.job.state = .running →
    s.map.sweeping = false → s.seq.phase = .none → (∀ drain, s.motion.portLift ≠ some (.resume drain)) →
    (s.seq.resting = false → ∀ c, s.carverJob = some c → ∀ k, s.seq.index = some k → ∀ p, c.plan[k]? = some p →
      (e.kind = .passStart → s.pq.issued = [] → ∃ t, exec .headHandedOn s = .next t ∧
        t.seq = { s.seq with
          openPass := some e.pass, floor := min (p.first + s.seq.rep * p.delta) p.last, running := ⟨0, 0, 0, e.broken⟩ } ∧
        t.pq.posted = rest ∧ t.pq.free = s.pq.free + 1 ∧ t.pq.released = e.release ∧ t.pq.issued = [] ∧
        t.pq.expected = s.pq.expected ∧ t.map = s.map ∧
        UnchangedBut [.bus, .job, .pq, .seq, .motion, .guard, .cond] s t) ∧
      (e.kind = .passStart → s.pq.issued ≠ [] → s.motion.closing = none → s.motion.portLift = none →
        exec .headHandedOn s = .next s) ∧
      (e.kind = .passEnd ∨ e.kind = .endSynth → ∃ t, exec .headHandedOn s = .next t ∧
        t.seq = { s.seq with
          phase := if s.pq.issued = [] then .sweeping else .awaiting
          running := { s.seq.running with broken := s.seq.running.broken || e.kind == .endSynth } } ∧
        t.map = (if s.pq.issued = [] then
          { s.map with sweeping := true, progress := 0, sweepTimer := some 33 } else s.map) ∧
        t.pq.posted = s.pq.posted ∧ t.pq.issued = s.pq.issued ∧ t.pq.released = s.pq.released ∧
        UnchangedBut [.bus, .job, .pq, .map, .seq, .motion, .guard, .cond] s t)) ∧
    (s.seq.resting = true → s.pq.issued = [] → ∃ t, exec .headHandedOn s = .next t ∧
      t.pq.posted = rest ∧ t.pq.free = s.pq.free + 1 ∧ t.pq.released = e.release ∧ t.pq.issued = [] ∧ t.map = s.map ∧
      (e.kind ∈ [.surface, .stroke, .lift] → t.seq = s.seq) ∧
      (e.kind = .passStart → t.seq = { s.seq with openPass := some e.pass, running := ⟨0, 0, 0, e.broken⟩ }) ∧
      (e.kind = .gapLift → t.seq = { s.seq with
        running := { s.seq.running with broken := s.seq.running.broken || s.seq.openPass.isSome } }) ∧
      (e.kind = .passEnd → t.seq = { s.seq with
        completed := e.pass, reported := s.seq.running, openPass := none, phase := .none }) ∧
      (e.kind = .endSynth → t.seq = { s.seq with
        completed := e.pass, running := { s.seq.running with broken := true }
        reported := { s.seq.running with broken := true }, openPass := none, phase := .none }) ∧
      UnchangedBut [.bus, .job, .pq, .seq, .motion, .guard, .cond] s t)

/-- R111, R119 to R121, R140, R180: a record or a GAP_LIFT at the head becomes a candidate, tested for air, that the Guard
checks; the entry stays at the head until its setpoint is issued. Where the candidate lies within the claim it has passed.
While two entries are issued, or the Guard is busy, the head waits. -/
def Obligations.HeadEntryGoesToTheGuard : Prop :=
  ∀ s : State, ∀ e rest, s.pq.posted = e :: rest → s.straps.role = .carver →
    ∀ r, s.job.record = some r → ∀ c, r.work = .carver c →
    ∀ k, s.seq.index = some k → ∀ p, c.plan[k]? = some p → ∀ ref, s.motion.reference = some ref →
    s.job.state = .running → s.map.sweeping = false → s.seq.phase = .none →
    s.motion.portLift = none → s.motion.closing = none → s.seq.resting = false →
    e.kind ∈ [.surface, .stroke, .lift, .gapLift] →
    let sp := s.map.airTest r c ref (transform r c s.seq.floor p.kind ref e)
    let n := Interval.hull s.guard.claim ⟨sp.x - r.halfLeft, sp.x + r.halfRight⟩
    (s.pq.issued.length < 2 → s.guard.atCheck = none → s.guard.passed = none →
      ∃ t, exec .headHandedOn s = .next t ∧ UnchangedBut [.bus, .guard] s t ∧
        (t.guard.atCheck = some sp ∨ t.guard.passed = some sp) ∧
        (n = s.guard.claim → t.guard.passed = some sp ∧ t.guard.atCheck = none ∧ t.guard.claim = s.guard.claim ∧
          t.bus = s.bus)) ∧
    (2 ≤ s.pq.issued.length ∨ s.guard.atCheck ≠ none ∨ s.guard.passed ≠ none → exec .headHandedOn s = .next s)

/-- R178, R180, R183: a check whose target takes the claim beyond itself on one side. With no neighbour there the claim grows
to N and the setpoint passes. With one whose view is fresh and whose reach lies the guard gap from N or more, N is announced
and the Guard settles for 12 ms; else the check waits, the wait timer running from its first wait, with no announce. A change
of the claim or of the announce offers a REACH. That the claim grows while the drives halt too (log entry 53), that the right
side is tested where N is beyond the claim on both (log entry 57), and that the announce heard flag and the last reply stay
where the check passes or waits (log entry 62), are the model's choice. That the phase is NONE once a setpoint has passed is
DEDUCED (log entry 64). -/
def Obligations.ACheckBeyondTheClaimAnnouncesOrWaits : Prop :=
  ∀ s : State, ∀ e rest, s.pq.posted = e :: rest → s.straps.role = .carver →
    ∀ r, s.job.record = some r → ∀ c, r.work = .carver c →
    ∀ k, s.seq.index = some k → ∀ p, c.plan[k]? = some p → ∀ ref, s.motion.reference = some ref →
    s.job.state = .running → s.map.sweeping = false → s.seq.phase = .none →
    s.motion.portLift = none → s.motion.closing = none → s.seq.resting = false →
    e.kind ∈ [.surface, .stroke, .lift, .gapLift] →
    s.pq.issued.length < 2 → s.guard.atCheck = none → s.guard.passed = none → s.guard.announce = none →
    let sp := s.map.airTest r c ref (transform r c s.seq.floor p.kind ref e)
    let n : Interval := ⟨min s.guard.claim.lo (sp.x - r.halfLeft), max s.guard.claim.hi (sp.x + r.halfRight)⟩
    ∀ side : Side,
    (side = .right ∧ s.guard.claim.hi < n.hi) ∨
      (side = .left ∧ n.hi = s.guard.claim.hi ∧ n.lo < s.guard.claim.lo) →
    let view := s.guard.view side
    let reaches := s.bus.mute = false → ∀ t : State, exec .headHandedOn s = .next t → ∃ g ∈ t.bus.places, g.kind = .reach
    let near (iv : Interval) : Int := match side with
      | .left => n.lo - iv.hi
      | .right => iv.lo - n.hi
    let clear := ∃ h, view.heard = some h ∧ h.stale = false ∧ r.gap ≤ near h.seen.claim ∧
      ∀ a, h.seen.announce = some a → r.gap ≤ near a
    ∃ t, exec .headHandedOn s = .next t ∧
      (view.station = none → t.guard = { s.guard with
          claim := n, passed := some sp, phase := .none, settleTimer := none, waitTimer := none, waitExpired := false } ∧
        reaches) ∧
      (view.station.isSome = true → clear → t.guard = { s.guard with
          atCheck := some sp, announce := some n, announceSent := false, phase := .settle, side := side
          settleTimer := some 120, heard := false, reply := none } ∧ reaches) ∧
      (view.station.isSome = true → ¬ clear → t.guard = { s.guard with
          atCheck := some sp, phase := .wait, side := side, settleTimer := none
          waitTimer := if s.guard.waitExpired then none else some (s.guard.waitTimer.getD 20000) } ∧ t.bus = s.bus) ∧
      UnchangedBut [.bus, .guard] s t

/-- R46, R105, R111, R133, R144, R165, R169, R173: the passed setpoint is issued while no armed job waits for its START, the
drives move, fewer than two setpoints are outstanding, the sensed level is high and, for a cut, the spindle is on: it takes the
next tag, joins the outstanding ones at the class's feed rate, or a closing lift's own, and becomes the reference. The head
entry goes to the issued list with it, its limit marks are counted, and a GAP_LIFT's two cells are gap-marked. Otherwise it
waits. -/
def Obligations.PassedSetpointIsIssued : Prop :=
  ∀ s : State, ∀ sp, s.guard.passed = some sp → ∀ r, s.job.record = some r →
    s.motion.closing = none → s.motion.portLift = none → s.motion.waiting = [] →
    let may := s.job.state ≠ .armed ∧ s.motion.halt = .moving ∧ s.motion.outstanding.length < 2 ∧
      s.bus.sensedLow = false ∧ (sp.cutting = true → s.motion.spindle = .on)
    let rate := match sp.origin with
      | .closingLift l => l.rate
      | _ => r.feeds.rate sp.feed
    let issued : Motion := { s.motion with
      outstanding := s.motion.outstanding ++ [⟨s.motion.nextTag, sp, rate⟩]
      nextTag := s.motion.nextTag + 1, reference := some sp, refArrived := false }
    (may → sp.origin ≠ .entry → ∃ t, exec .setpointIssue s = .next t ∧ t.motion = issued ∧
      t.guard = { s.guard with passed := none } ∧ UnchangedBut [.motion, .guard] s t) ∧
    (may → sp.origin = .entry → ∀ e rest, s.pq.posted = e :: rest → ∃ t, exec .setpointIssue s = .next t ∧
      t.motion = issued ∧
      t.pq = { s.pq with posted := rest, issued := s.pq.issued ++ [⟨e, s.motion.nextTag, sp, false⟩] } ∧
      t.guard = { s.guard with passed := none } ∧ (e.kind ≠ .gapLift → t.map = s.map) ∧
      (e.kind = .gapLift → s.map.wf → ∀ c, r.work = .carver c →
        let back : Option Nat := match rest with
          | b :: _ =>
            if (b.kind = .surface ∨ b.kind = .stroke) ∧ b.synthetic = false then
              c.cellOf (lateral c b).1 (lateral c b).2 (some b.angle) else none
          | [] => none
        t.map = { s.map with cells := t.map.cells } ∧
        ∀ n, t.map.read n =
          if c.cellOf sp.x sp.y sp.traced = some n ∨ back = some n then { s.map.read n with gapMarked := true }
          else s.map.read n) ∧
      (s.cond.counters.length = 15 → ∀ k : Counter, t.cond.count k =
        if (k = .rangeClips ∧ sp.marks.rangeClip = true) ∨ (k = .outOfTravel ∧ sp.marks.outOfTravel = true) ∨
            (k = .envelopeClips ∧ sp.marks.envelopeClip = true) ∨ (k = .letterCaps ∧ sp.marks.letterCap = true)
          then min 65535 (s.cond.count k + 1) else s.cond.count k) ∧
      (sp.marks.outOfTravel = true → t.cond.has .outOfTravel = true) ∧
      (sp.marks.envelopeClip = true → t.cond.has .envelopeClip = true) ∧
      UnchangedBut [.pq, .map, .motion, .guard, .cond] s t) ∧
    (¬ may → exec .setpointIssue s = .next s)

/-- R112, R114, R142, R143, R145, R153 to R155, R166, R184: an arrived report. The entry of the oldest outstanding setpoint is
completed: its slot is free and L is its release sequence; while its pass is open and the plan does not rest it is tallied as
air or cut, a GAP_LIFT of the pass by its lost count and as broken; a tracked cut lowers its cell's pass minimum and touches
it; when the issued list empties under a held marker, the sweep starts. After the queue has emptied its slot is only released.
A report of the newer of two setpoints arrives both. A tag that is not outstanding is discarded: nothing changes while nothing
waits for the port. -/
def Obligations.ArrivalCompletesTheEntry : Prop :=
  ∀ s : State, ∀ probe : Probe,
    let free := s.guard.passed = none ∧ s.guard.atCheck = none ∧ s.motion.closing = none ∧ s.motion.portLift = none ∧
      s.job.finishing = false ∧ s.motion.waiting = []
    (∀ tag : Byte, (∀ o ∈ s.motion.outstanding, o.tag ≠ tag) →
      s.motion.closing = none → s.motion.portLift = none → s.motion.waiting = [] →
      exec (.arrived tag probe) s = .next s) ∧
    ∀ o more, s.motion.outstanding = o :: more → o.sp.origin = .entry → ∀ i behind, s.pq.issued = i :: behind →
    i.tag = o.tag → i.sp = o.sp →
    (i.emptied = true → ∃ t, exec (.arrived o.tag probe) s = .next t ∧ t.pq.issued = behind ∧
      t.pq.free = s.pq.free + 1 ∧ t.pq.released = s.pq.released ∧ t.pq.posted = s.pq.posted ∧ t.seq = s.seq ∧
      t.map = s.map ∧ (free → t.motion.outstanding = more) ∧ UnchangedBut [.bus, .job, .pq, .motion, .guard] s t) ∧
    (i.emptied = false → ∃ t, exec (.arrived o.tag probe) s = .next t ∧
      t.pq.issued = behind ∧ t.pq.free = s.pq.free + 1 ∧ t.pq.released = i.entry.release ∧
      t.pq.posted = s.pq.posted ∧ t.pq.expected = s.pq.expected ∧
      (free → t.motion.outstanding = more ∧
        (s.motion.halt = .moving → more = [] → t.guard.claim = s.occupied)) ∧
      t.seq = { s.seq with
        phase := if s.seq.phase = .awaiting ∧ behind = [] then .sweeping else s.seq.phase
        running :=
          if s.seq.openPass.isSome = true ∧ s.seq.resting = false then
            (if o.sp.cutting = true then
              (if o.sp.air then { s.seq.running with air := min 16777215 (s.seq.running.air + 1) }
              else { s.seq.running with cut := min 16777215 (s.seq.running.cut + 1) })
            else if i.entry.kind = .gapLift ∧ s.seq.openPass = some i.entry.pass then
              { s.seq.running with gap := min 65535 (s.seq.running.gap + i.entry.lost), broken := true }
            else s.seq.running)
          else s.seq.running } ∧
      (s.seq.phase = .awaiting → behind = [] →
        t.map.sweeping = true ∧ t.map.progress = 0 ∧ t.map.sweepTimer = some 33) ∧
      (s.seq.phase ≠ .awaiting ∨ behind ≠ [] → t.map = { s.map with cells := t.map.cells }) ∧
      (o.sp.cutting = true → ∀ m, o.sp.cell = some m →
        t.map.read m = { s.map.read m with
          minimum := some (match (s.map.read m).minimum with
            | some d => min d o.sp.depth
            | none => o.sp.depth)
          touched := true } ∧
        ∀ n, n ≠ m → t.map.read n = s.map.read n) ∧
      (o.sp.cutting = false ∨ o.sp.cell = none → t.map.cells = s.map.cells) ∧
      UnchangedBut [.bus, .job, .pq, .map, .seq, .motion, .guard, .cond] s t) ∧
    (∀ o₂, more = [o₂] → o₂.tag ≠ o.tag → o₂.sp.origin = .entry → ∀ i₂, behind = [i₂] → i₂.tag = o₂.tag → free →
      i.emptied = false → i₂.emptied = false → ∃ t, exec (.arrived o₂.tag probe) s = .next t ∧
        t.motion.outstanding = [] ∧ t.pq.issued = [] ∧ t.pq.free = s.pq.free + 2 ∧
        t.pq.released = i₂.entry.release ∧ t.pq.posted = s.pq.posted ∧
        UnchangedBut [.bus, .job, .pq, .map, .seq, .motion, .guard, .cond] s t)

/-- R145, R156 to R158, R168: the end of a sweep. Every touched cell that no gap has marked is cleared to its pass minimum where
that is deeper, and every mark and minimum of the pass is gone. The step's counter goes down and its repetition up; the step
advances when its condition is met or the counter is at 0; past the last step the plan rests, and in RUNNING the rest lift
falls due, where that a carriage stands in the lift only when it has arrived (log entry 18) and that a lift still waiting is
dropped (log entry 52) are the model's choice; the marker is completed, its tallies are reported, and a CREDIT is offered. No
pass is open then (DEDUCED, log entry 26). -/
def Obligations.SweepEndDecidesThePass : Prop :=
  ∀ s : State, s.map.sweeping = true → s.map.wf → ∀ e rest, s.pq.posted = e :: rest → ∀ r, s.job.record = some r →
    ∀ c, r.work = .carver c → ∀ k, s.seq.index = some k → ∀ p, c.plan[k]? = some p →
    let advance := s.seq.counter ≤ 1 ∨ (p.advance = .dry ∧ s.seq.running.cut = 0 ∧ s.seq.running.broken = false) ∨
      (p.advance = .floor ∧ s.seq.floor = p.last) ∨ p.advance = .once
    ∃ t, exec .sweepEnd s = .next t ∧ t.map.sweeping = false ∧
      (∀ n, t.map.read n =
        ⟨(match (s.map.read n).minimum with
            | some m => if (s.map.read n).touched = true ∧ (s.map.read n).gapMarked = false then
                (max ((s.map.read n).cleared : Int) m).toNat else (s.map.read n).cleared
            | none => (s.map.read n).cleared), none, false, false⟩) ∧
      t.seq = { s.seq with
        completed := e.pass, reported := s.seq.running, openPass := none, phase := .none
        counter := if advance then ((c.plan[k + 1]?).map (·.limit)).getD 0 else s.seq.counter - 1
        rep := if advance then 0 else s.seq.rep + 1
        index := if advance then (if (c.plan[k + 1]?).isSome then some (k + 1) else none) else some k
        resting := s.seq.resting || (decide advance && (c.plan[k + 1]?).isNone) } ∧
      (advance → c.plan[k + 1]? = none → t.motion.restNotice = true ∧
        (s.job.state = .running → s.job.finishing = false → s.guard.atCheck = none → s.guard.passed = none →
          ClosingLiftFallsDue ⟨r.clearance, r.feeds.lift, .lift, false⟩ s t)) ∧
      (¬ advance ∨ c.plan[k + 1]? ≠ none → t.motion.restNotice = s.motion.restNotice) ∧
      t.pq.posted = rest ∧ t.pq.free = s.pq.free + 1 ∧ t.pq.released = e.release ∧
      (s.bus.mute = false → s.job.state ∉ [.held, .starting] → ∃ g ∈ t.bus.places, g.kind = .credit) ∧
      UnchangedBut [.bus, .job, .pq, .map, .seq, .motion, .guard, .cond] s t

/-! ## Motion, spindle and the Neighbour Guard (chapters 11 and 12) -/

/-- R16, R117, R178, R179, R181, R183: the report timers and the Guard's. The CREDIT and the REACH timers are at their full
time again at their expiry, 10 ms while the job is started and 5 ms, and their report is offered: its place is held, unless
the Bus Controller is in MUTE. A view not heard for 25 ms goes stale, NEIGHBOUR_STALE is raised, and a settle toward that
side falls back to GUARD_WAIT; what was heard of the neighbour is kept. At the settle timer's end the Guard takes N if the
last reply is clear of it by the guard gap, else it goes on settling; at the wait timer's end GUARD_WAIT_LONG is raised and
the check goes on. That the fallen check is not run again in the same event (DEDUCED, log entry 39), that N is taken while
the drives halt too (log entry 53), and that the announce heard flag and the last reply stay at the check's end (log entry
62), are the model's choice. That the phase is NONE once a setpoint has passed is DEDUCED (log entry 64). -/
def Obligations.ReportAndGuardTimersEnd : Prop :=
  ∀ s : State,
    (∀ c, s.carverJob = some c → s.pq.creditTimer.isSome = true → s.job.state ∈ [.running, .stopped] →
      ∃ t, exec .creditTimerExpiry s = .next t ∧
        t.pq = { s.pq with creditTimer := some 100, freeAtOffer := s.pq.free } ∧
        (s.bus.mute = false → ∃ g ∈ t.bus.places, g.kind = .credit) ∧
        (s.bus.mute = true → t.bus = s.bus) ∧ UnchangedBut [.bus, .pq] s t) ∧
    (s.guard.reachTimer.isSome = true → s.job.state ∉ [.held, .starting] → ∃ t, exec .reachTimerExpiry s = .next t ∧
      t.guard = { s.guard with reachTimer := some 50 } ∧ (s.bus.mute = false → ∃ g ∈ t.bus.places, g.kind = .reach) ∧
      (s.bus.mute = true → t.bus = s.bus) ∧ UnchangedBut [.bus, .guard] s t) ∧
    (∀ side : Side, ∀ h, (s.guard.view side).heard = some h → h.stale = false →
      ∃ t, exec (.viewStale side) s = .next t ∧
        t.guard.view side = ⟨(s.guard.view side).station, some { h with stale := true }⟩ ∧
        t.cond.has .neighbourStale = true ∧ t.guard.anyStale = true ∧ t.guard.claim = s.guard.claim ∧
        t.guard.atCheck = s.guard.atCheck ∧
        (s.guard.phase = .settle → s.guard.side = side → t.guard.phase = .wait ∧ t.guard.announce = none) ∧
        (s.guard.phase ≠ .settle ∨ s.guard.side ≠ side →
          t.guard.phase = s.guard.phase ∧ t.guard.announce = s.guard.announce) ∧
        UnchangedBut [.bus, .guard, .cond] s t) ∧
    (∀ n, s.guard.announce = some n → ∀ sp, s.guard.atCheck = some sp → s.guard.phase = .settle →
      s.guard.settleTimer.isSome = true → ∀ r, s.job.record = some r →
      let near (iv : Interval) : Int := if s.guard.side = .left then n.lo - iv.hi else iv.lo - n.hi
      let clear (v : Seen) := r.gap ≤ near v.claim ∧ ∀ a, v.announce = some a → r.gap ≤ near a
      ∃ t, exec .settleTimerExpiry s = .next t ∧ UnchangedBut [.bus, .guard] s t ∧
        ((∃ v, s.guard.reply = some v ∧ clear v) →
          t.guard.claim = n ∧ t.guard.announce = none ∧ t.guard.passed = some sp ∧ t.guard.atCheck = none ∧
          t.guard.phase = .none) ∧
        ((∀ v, s.guard.reply = some v → ¬ clear v) → t.guard = { s.guard with settleTimer := none })) ∧
    (s.guard.waitTimer.isSome = true → ∃ t, exec .waitTimerExpiry s = .next t ∧
      t.guard = { s.guard with waitTimer := none, waitExpired := true } ∧ t.cond.has .guardWaitLong = true ∧
      UnchangedBut [.bus, .guard, .cond] s t)

/-- R20, R113, R114, R168, R172, R173, R183, R184: the drives' halted report ends halting, and a stop released lets a pending
lift go. After a stop for a closing lift the setpoints still outstanding are abandoned at the halted report; after any other
stop they stay outstanding (the model's choice, log entry 20). The slots of the entries of abandoned setpoints go free then,
with L and the Cut Map as they were (the model's choice of the moment, log entry 51). The claim is recomputed, and where it
has changed a check in GUARD_WAIT runs again, the announce heard flag and the last reply kept (the model's choice, log entry
62). While moving there is nothing to end (log entry 1). At stop released the sensed level is high; a report while the
station itself pulls the line, or while the line has read high for less than 10 ms and no other pulled it at the last tick,
cannot come and changes nothing (log entries 1 and 25); in STOPPED nothing follows. A closing lift that is pending is then
issued from the carriage's position when the drives move and the line is high, or is done at once where the carriage stands
in it, for which the model asks that the lift it stands in has arrived (log entry 18). That the phase is NONE once a setpoint
has passed is DEDUCED (log entry 64). -/
def Obligations.HaltedAndReleasedLetAPendingLiftGo : Prop :=
  ∀ s : State,
    let goes (c : ClosingLift) (t : State) :=
      (s.motion.refArrived = false → t.motion.closing = none ∧ t.job = s.job ∧
        t.motion.outstanding = [⟨s.motion.nextTag, s.liftHere c.level c.feed (.closingLift c) s.refTraced, c.rate⟩]) ∧
      (∀ ref, s.motion.reference = some ref → s.motion.refArrived = true → ref.feed = .lift → ref.depth = c.level →
        t.motion.closing = none ∧ t.motion.outstanding = [] ∧ t.motion.spindle = .off)
    (s.motion.halt = .moving → exec .halted s = .next s) ∧
    (∀ closing, s.motion.halt = .halting closing → s.motion.portLift = none →
      let left := if closing then [] else s.motion.outstanding
      let queue := if left = [] then { s.pq with issued := [], free := s.pq.free + s.pq.issued.length } else s.pq
      (s.motion.closing = none → s.motion.waiting = [] → ∃ t, exec .halted s = .next t ∧
        t.motion = { s.motion with halt := .moving, outstanding := left } ∧ t.pq = queue ∧
        (s.guard.passed = none → ∀ r, s.job.record = some r →
          ClaimRecomputed (needed r s.inputs.x left) r s.guard t.guard) ∧
        UnchangedBut [.bus, .pq, .motion, .guard] s t) ∧
      (∀ c, s.motion.closing = some c → left = [] → s.guard.atCheck = none → s.guard.passed = none →
        s.bus.sensedLow = false → s.job.state ≠ .armed → s.motion.waiting = [] →
        ∃ t, exec .halted s = .next t ∧ t.motion.halt = .moving ∧ t.pq.issued = [] ∧ t.pq.released = s.pq.released ∧
          goes c t ∧ UnchangedBut [.bus, .job, .pq, .motion, .guard] s t)) ∧
    (s.bus.sensedLow = true →
      (s.bus.drivePull = true ∨ s.bus.breachPull = true ∨ (s.inputs.lineLow = false ∧ s.bus.filter < 100) →
        exec .stopReleased s = .next s) ∧
      (s.bus.drivePull = false → s.bus.breachPull = false → s.inputs.lineLow = true ∨ 100 ≤ s.bus.filter →
        (s.job.state = .stopped ∨ (s.motion.closing = none ∧ s.motion.portLift = none ∧ s.motion.waiting = []) →
          ∃ t, exec .stopReleased s = .next t ∧ t.bus = { s.bus with sensedLow := false, filter := 0 } ∧
            t.inputs = { s.inputs with lineLow := false } ∧ UnchangedBut [.inputs, .bus] s t) ∧
        (∀ c, s.motion.closing = some c → s.job.state ∉ [.stopped, .armed] → s.motion.portLift = none →
          s.motion.waiting = [] → s.motion.outstanding = [] → s.motion.halt = .moving → s.guard.atCheck = none →
          s.guard.passed = none → liesWithin s.occupied s.guard.claim →
          ∃ t, exec .stopReleased s = .next t ∧ t.bus.sensedLow = false ∧ t.inputs.lineLow = false ∧ goes c t ∧
            UnchangedBut [.inputs, .bus, .job, .pq, .motion, .guard] s t)))

/-- R19, R164, R172: a drive fault is known from its report on; outside reset and STARTING the code is kept, and a fault that
did not stand before raises DRIVE_FAULT, sets its pull, stops the drives and turns the spindle off; the station state does
not change. Its clearing takes the cause away and leaves the condition and the pull. That a report while held in reset or in
STARTING is only noted, to be acted on when STARTING ends, is deduced from R164 and R172 (log entry 33); that a second report
while a fault stands changes the code alone is the model's choice (log entry 61). -/
def Obligations.DriveFaultStopsTheStation : Prop :=
  ∀ s : State, 
    (∀ code : Byte, ∃ t, exec (.driveFaultReport code) s = .next t ∧
      t.inputs = { s.inputs with driveFault := some code } ∧
      (s.job.state ∈ [.held, .starting] → UnchangedBut [.inputs] s t) ∧
      (s.job.state ∉ [.held, .starting] → s.motion.faultStanding = true →
        t.motion = { s.motion with faultCode := code } ∧ UnchangedBut [.inputs, .motion] s t) ∧
      (s.job.state ∉ [.held, .starting] → s.motion.faultStanding = false →
        t.motion = { s.motion with
          faultCode := code, faultStanding := true, spindle := .off, highTimer := none, lowTimer := none
          stallTimer := none
          halt := match s.motion.halt with
            | .moving => .halting false
            | .halting c => .halting c } ∧
        t.bus.drivePull = true ∧ t.bus.rx = s.bus.rx ∧ t.cond.has .driveFault = true ∧ stopCommand t = true ∧
        pullsLine t = true) ∧
      UnchangedBut [.inputs, .bus, .motion, .cond] s t) ∧
    (∃ t, exec .faultCleared s = .next t ∧ t.inputs = { s.inputs with driveFault := none } ∧
      t.motion = { s.motion with faultStanding := false } ∧ UnchangedBut [.inputs, .motion] s t)

/-- R166, R177, R186: a new actual position. With the drives moving, nothing outstanding and no setpoint at or past the
check, the claim is the occupied interval there; else it stays. While a record is held and a side's view is fresh, a gap
below half the guard gap raises GUARD_BREACH and pulls the line once, until the gap is wide again. That a spent test stays
spent while the view is stale or no record is held is the model's choice (log entry 65). -/
def Obligations.PositionMovesTheClaimAndTestsBreach : Prop :=
  ∀ s : State, ∀ x : Int, ∀ y : Int, ∀ angle : Angle,
    let w := s.halfWidths
    let here : Interval := ⟨x - w.1, x + w.2⟩
    let idle := s.motion.halt = .moving ∧ s.motion.outstanding = [] ∧ s.guard.atCheck = none ∧ s.guard.passed = none
    let close (side : Side) : Bool :=
      match s.job.record, (s.guard.view side).heard with
      | some r, some h => !h.stale && decide (2 * gapTo side here h.seen.claim < r.gap)
      | _, _ => false
    let clear (side : Side) : Bool :=
      match s.job.record, (s.guard.view side).heard with
      | some r, some h => !h.stale && decide (r.gap ≤ 2 * gapTo side here h.seen.claim)
      | _, _ => false
    let breach := (close .left && s.guard.leftArmed) || (close .right && s.guard.rightArmed)
    ∃ t, exec (.actualPositionChange x y angle) s = .next t ∧
      t.inputs = { s.inputs with x := x, y := y, angle := angle } ∧
      (idle → t.guard.claim = here) ∧ (¬ idle → t.guard.claim = s.guard.claim) ∧
      t.bus.breachPull = (s.bus.breachPull || breach) ∧ (breach = true → t.cond.has .guardBreach = true) ∧
      (breach = false → t.cond = s.cond) ∧
      t.guard.leftArmed = (clear .left || (s.guard.leftArmed && !close .left)) ∧
      t.guard.rightArmed = (clear .right || (s.guard.rightArmed && !close .right)) ∧
      t.guard.left = s.guard.left ∧ t.guard.right = s.guard.right ∧ t.guard.phase = s.guard.phase ∧
      UnchangedBut [.inputs, .bus, .guard, .cond] s t

/-- R169 to R171, R190: the spindle is on at the end of its spin-up. A load or stall reading runs the high-load timer above 80 %,
the low-load timer below 60 %, and at 25 % of feed the stall timer above 100 %, each only on a carver RUNNING with the spindle
on. At the high-load timer's end the override steps down one level with the relief counted and LOAD_RELIEF raised, or stays at
25 % with nothing counted; at the low-load timer's end it steps up, or stays at 100 %; the timer starts again while the load
stays. -/
def Obligations.LoadTimersFollowTheLoad : Prop :=
  ∀ s : State,
    let watched (spindle : Spindle) := s.straps.role = .carver ∧ s.job.state = .running ∧ spindle = .on
    let run (p : Bool) (full : Nat) (timer : Option Nat) : Option Nat := if p then some (timer.getD full) else none
    let watch (m : Motion) (load : Nat) (stall : Bool) : Motion := { m with
        highTimer := run (decide (watched m.spindle ∧ (stall = true ∨ 80 < load))) 500 m.highTimer
        lowTimer := run (decide (watched m.spindle ∧ stall = false ∧ load < 60)) 2000 m.lowTimer
        stallTimer := run (decide (watched m.spindle ∧ (stall = true ∨ 100 < load) ∧ m.override = .p25)) 5000 m.stallTimer }
    (∀ n, s.motion.spindle = .spinningUp n → ∃ t, exec .spinUpEnd s = .next t ∧
      t.motion = watch { s.motion with spindle := .on } s.inputs.load s.inputs.stall ∧ UnchangedBut [.motion] s t) ∧
    (∀ load : Nat, ∀ stall : Bool, ∃ t, exec (.loadChange load stall) s = .next t ∧
      t.inputs = { s.inputs with load := load, stall := stall } ∧ t.motion = watch s.motion load stall ∧
      UnchangedBut [.inputs, .motion] s t) ∧
    (s.motion.highTimer.isSome = true → ∃ t, exec .highLoadExpiry s = .next t ∧
      t.motion = watch { s.motion with
        highTimer := none
        override := match s.motion.override with
          | .p100 => .p75
          | .p75 => .p50
          | .p50 => .p25
          | .p25 => .p25 } s.inputs.load s.inputs.stall ∧
      (s.motion.override ≠ .p25 →
        t.cond.counters = (s.cond.countUp .loadReliefs 1).counters ∧ t.cond.has .loadRelief = true) ∧
      (s.motion.override = .p25 → t.cond = s.cond) ∧ UnchangedBut [.motion, .cond] s t) ∧
    (s.motion.lowTimer.isSome = true → ∃ t, exec .lowLoadExpiry s = .next t ∧
      t.motion = watch { s.motion with
        lowTimer := none
        override := match s.motion.override with
          | .p25 => .p50
          | .p50 => .p75
          | .p75 => .p100
          | .p100 => .p100 } s.inputs.load s.inputs.stall ∧ UnchangedBut [.motion] s t)

/-- R114, R117, R147, R155, R168, R171: a stall raises SPINDLE_STALL and turns the spindle off; the carver is SUSPENDED with its
finishing flag clear, its posted entries free and its issued ones marked; a retract falls due, where that a carriage stands in
the lift only when it has arrived (log entry 18) and that a lift still waiting is dropped (log entry 52) are the model's choice;
a CREDIT is offered. -/
def Obligations.StallSuspendsTheCarver : Prop :=
  ∀ s : State, s.motion.stallTimer.isSome = true → ∀ r, s.job.record = some r → ∀ c, r.work = .carver c →
    ∃ t, exec .stall s = .next t ∧
      t.job = { s.job with state := .suspended, finishing := false } ∧ t.motion.spindle = .off ∧
      t.cond.has .spindleStall = true ∧ t.pq.posted = [] ∧ t.pq.free = s.pq.free + s.pq.posted.length ∧
      t.pq.issued = s.pq.issued.map (fun i => { i with emptied := true }) ∧ t.pq.released = s.pq.released ∧
      t.pq.creditTimer = none ∧ t.seq = { s.seq with phase := .none } ∧ t.map.sweeping = false ∧
      (s.map.sweeping = false → t.map = s.map) ∧ (s.Settled → t.guard.announce = none) ∧
      ClosingLiftFallsDue ⟨r.clearance, r.feeds.lift, .lift, false⟩ s t ∧
      (s.bus.mute = false → ∃ g ∈ t.bus.places, g.kind = .credit) ∧
      UnchangedBut [.seed, .bus, .job, .pq, .map, .seq, .motion, .guard, .cond] s t

/-- R20, R53, R113, R155, R173, R184, R185: stop sensed. In every state after reset BED_STOP is raised, and the line counts as
pulled by another when the station does not pull it (log entry 25). A station that is STOPPED already changes nothing else. In
any other the drives stop, the spindle goes off, no setpoint is outstanding or at the check, and the claim stays: the drives
are halting before a check or a passed setpoint is dropped (DEDUCED order of the effects, log entry 41). An ARMED or
RUNNING station is STOPPED and remembers which; its issued entries are back at the front of the posted list with no slot freed,
its tracer moves are held, a closing lift is dropped. One of another state keeps it, with the Path Queue's lists as they are; a
closing lift on its way is pending again (log entry 19), and of two the newer stays (DEDUCED, log entry 56). -/
def Obligations.StopSensedStopsTheStation : Prop :=
  ∀ s : State, s.job.state ≠ .held → s.bus.sensedLow = false →
    ∃ t, exec .stopSensed s = .next t ∧
      t.bus.sensedLow = true ∧ t.cond.has .bedStop = true ∧ t.pq.released = s.pq.released ∧
      t.inputs = { s.inputs with lineLow := s.inputs.lineLow || !(s.bus.drivePull || s.bus.breachPull) } ∧
      (s.job.state = .stopped → UnchangedBut [.inputs, .bus, .cond] s t) ∧
      (s.job.state ≠ .stopped →
        t.motion.spindle = .off ∧ t.motion.outstanding = [] ∧ t.motion.halt ≠ .moving ∧ t.motion.portLift = none ∧
        t.motion.waiting = [] ∧ t.guard.atCheck = none ∧ t.guard.passed = none ∧ t.guard.claim = s.guard.claim ∧
        stopCommand t = true ∧
        (s.guard.atCheck ≠ none ∨ s.guard.passed ≠ none → t.guard.phase = .none ∧ t.guard.announce = none) ∧
        (s.guard.atCheck = none → s.guard.passed = none → t.guard = s.guard)) ∧
      (s.job.state = .armed ∨ s.job.state = .running →
        t.job = { s.job with state := .stopped, remembered := s.job.state } ∧
        t.pq.issued = [] ∧ t.pq.posted = s.pq.issued.map (·.entry) ++ s.pq.posted ∧ t.pq.free = s.pq.free ∧
        t.motion.held = s.unarrivedMoves ∧ t.motion.closing = none ∧
        (∀ c, s.carverJob = some c → s.bus.mute = false → ∃ g ∈ t.bus.places, g.kind = .credit) ∧
        t.seq = { s.seq with phase := if s.seq.phase = .awaiting then .none else s.seq.phase }) ∧
      (s.job.state ∉ [.armed, .running, .stopped] → t.job = s.job ∧ t.pq = s.pq ∧ t.seq = s.seq ∧ t.motion.held = [] ∧
        (s.motion.closing.isSome = true → t.motion.closing = s.motion.closing) ∧
        (s.motion.closing = none → (∀ o ∈ s.motion.outstanding, ∀ c, o.sp.origin ≠ .closingLift c) →
          t.motion.closing = none) ∧
        (s.motion.closing = none → ∀ before o after c, s.motion.outstanding = before ++ o :: after →
          o.sp.origin = .closingLift c → (∀ x ∈ before, ∀ d, x.sp.origin ≠ .closingLift d) →
          t.motion.closing = some c)) ∧
      UnchangedBut [.inputs, .bus, .job, .pq, .seq, .motion, .guard, .cond] s t

/-- R9, R179, R183, R186: a REACH. One with the station's own number raises DUPLICATE_NUMBER. One of a neighbour, naming the
station's rail, is written into the view of its side with the present time; any other is discarded. With no check in progress
toward that side nothing else of the Guard changes; a check in GUARD_WAIT on that side runs again, and may take N while the
drives halt too (the model's choice, log entry 53); the announce heard flag and the last reply stay as the check passes or
waits (the model's choice, log entry 62). While a record is held that side is then tested for breach: a gap below half the
guard gap on an armed side spends the test, raises GUARD_BREACH and pulls the line; a wider one arms it. That the phase is
NONE once a setpoint has passed is DEDUCED (log entry 64); that a spent test stays spent while the view is stale or no record
is held is the model's choice (log entry 65). -/
def Obligations.ReachWritesTheView : Prop :=
  ∀ s : State, ∀ f rest, s.bus.rx = f :: rest → f.kind = .reach →
    let seen : Seen := ⟨⟨lengthAt f.payload 1, lengthAt f.payload 4⟩,
      if 128 ≤ byteAt f.payload 0 then some ⟨lengthAt f.payload 7, lengthAt f.payload 10⟩ else none⟩
    (f.src = s.straps.number.val → ∃ t, exec .reach s = .next t ∧ t.bus.rx = rest ∧ t.guard = s.guard ∧
      t.cond.has .duplicateNumber = true ∧ UnchangedBut [.bus, .cond] s t) ∧
    (f.src ≠ s.straps.number.val → byteAt f.payload 0 % 128 = s.straps.rail.val →
      ∀ side : Side,
      (side = .left → s.guard.left.station = some f.src) →
      (side = .right → s.guard.right.station = some f.src ∧ s.guard.left.station ≠ some f.src) →
      let w := s.halfWidths
      let gap : Int := match side with
        | .left => s.inputs.x - w.1 - seen.claim.hi
        | .right => seen.claim.lo - (s.inputs.x + w.2)
      let close : Bool := match s.job.record with
        | some r => decide (2 * gap < r.gap)
        | none => false
      let wide : Bool := match s.job.record with
        | some r => decide (r.gap ≤ 2 * gap)
        | none => false
      let found := close && s.guard.armed side
      let written := s.guard.setView side ⟨some f.src, some ⟨seen, s.now, false⟩⟩
      ∃ t, exec .reach s = .next t ∧ t.bus.rx = rest ∧
        (∀ o : Side, t.guard.armed o =
          if o = side then wide || (s.guard.armed side && !close) else s.guard.armed o) ∧
        t.bus.breachPull = (s.bus.breachPull || found) ∧
        (found = true → t.cond.has .guardBreach = true) ∧ (found = false → t.cond = s.cond) ∧
        (s.guard.side ≠ side ∨ s.guard.phase = .none →
          t.guard = { written with leftArmed := t.guard.leftArmed, rightArmed := t.guard.rightArmed }) ∧
        (s.guard.side = side → s.guard.phase = .wait → s.guard.announce = none → ∀ sp, s.guard.atCheck = some sp →
          ∀ r, s.job.record = some r → CheckRuns sp r written
            { t.guard with leftArmed := s.guard.leftArmed, rightArmed := s.guard.rightArmed }) ∧
        UnchangedBut [.bus, .guard, .cond] s t) ∧
    (f.src ≠ s.straps.number.val →
      byteAt f.payload 0 % 128 ≠ s.straps.rail.val ∨
        (s.guard.left.station ≠ some f.src ∧ s.guard.right.station ≠ some f.src) →
      ∃ t, exec .reach s = .next t ∧ t.bus = { s.bus with rx := rest } ∧ UnchangedBut [.bus] s t)

/-- R181 to R183: a REACH of the neighbour toward whom N is announced. A claim nearer to N than the guard gap, or, on the
left, such an announce, sends the check back to GUARD_WAIT with the announce withdrawn. Once the announce is heard it is the
last reply: after the settle timer's end one that is clear of N by the gap makes N the claim and passes the setpoint; while
the timer runs, or when it is not clear, the Guard goes on settling. Before that it is no reply. That N is taken while the
drives halt too (log entry 53), and that the announce heard flag and the last reply stay at the check's end (log entry 62),
are the model's choice. That the phase is NONE once a setpoint has passed is DEDUCED (log entry 64). -/
def Obligations.ReachSettlesTheAnnounce : Prop :=
  ∀ s : State, ∀ f rest, s.bus.rx = f :: rest → f.kind = .reach → f.src ≠ s.straps.number.val →
    byteAt f.payload 0 % 128 = s.straps.rail.val → ∀ r, s.job.record = some r →
    ∀ n, s.guard.announce = some n → ∀ sp, s.guard.atCheck = some sp → s.guard.phase = .settle →
    (s.guard.side = .left → s.guard.left.station = some f.src) →
    (s.guard.side = .right → s.guard.right.station = some f.src ∧ s.guard.left.station ≠ some f.src) →
    let claim : Interval := ⟨lengthAt f.payload 1, lengthAt f.payload 4⟩
    let announced : Interval := ⟨lengthAt f.payload 7, lengthAt f.payload 10⟩
    let announces := 128 ≤ byteAt f.payload 0
    let seen : Seen := ⟨claim, if 128 ≤ byteAt f.payload 0 then some announced else none⟩
    let gap (iv : Interval) : Int := if s.guard.side = .left then n.lo - iv.hi else iv.lo - n.hi
    let conflict := gap claim < r.gap ∨ (s.guard.side = .left ∧ announces ∧ gap announced < r.gap)
    let clear := r.gap ≤ gap claim ∧ (announces → r.gap ≤ gap announced)
    ∃ t, exec .reach s = .next t ∧ t.bus.rx = rest ∧
      t.guard.view s.guard.side = ⟨some f.src, some ⟨seen, s.now, false⟩⟩ ∧
      (conflict → t.guard.phase = .wait ∧ t.guard.announce = none ∧ t.guard.atCheck = some sp ∧
        t.guard.claim = s.guard.claim ∧ t.guard.settleTimer = none ∧
        (s.guard.waitExpired = false → t.guard.waitTimer = some (s.guard.waitTimer.getD 20000))) ∧
      (s.guard.heard = true → s.guard.settleTimer = none → clear →
        t.guard.phase = .none ∧ t.guard.announce = none ∧ t.guard.atCheck = none ∧ t.guard.passed = some sp ∧
          t.guard.claim = n) ∧
      (¬ conflict → s.guard.heard = false ∨ s.guard.settleTimer.isSome = true ∨ ¬ clear →
        t.guard.phase = .settle ∧ t.guard.announce = some n ∧ t.guard.atCheck = some sp ∧
        t.guard.claim = s.guard.claim ∧ t.guard.settleTimer = s.guard.settleTimer ∧ t.guard.heard = s.guard.heard ∧
        t.guard.reply = (if s.guard.heard then some seen else s.guard.reply)) ∧
      UnchangedBut [.bus, .guard, .cond] s t

/-- R9, R30 to R32, R84, R86, R179, R181, R183: a good JOIN of another station writes its entry with the next join order;
with the answer flag clear it is answered by a JOIN to all with the flag set, unless a JOIN of the station's own is held and
not in transmission, or due. With the flag clear, one of a station present before is a rejoin: a tracer takes a carver with a
lag entry off the table, raises CARVER_RESTARTED, and does not admit it again (log entry 50). A join of the own rail has the
Guard look up its neighbours: a side whose neighbour changed, or joined again, names it and has heard nothing of it; a settle
toward that side falls back to GUARD_WAIT, with no check run in the same event (DEDUCED, log entry 39), and a check that
waits there runs again, and may take N while the drives halt too (log entry 53); the announce heard flag and the last reply
stay (log entry 62). A bad JOIN, and one with the station's own number, writes nothing; the latter raises DUPLICATE_NUMBER,
but a bad one with the own number raises nothing (the model's choice, log entry 46). That the phase is NONE once a setpoint
has passed is DEDUCED (log entry 64). -/
def Obligations.JoinWritesTheEntry : Prop :=
  ∀ s : State, ∀ f rest, s.bus.rx = f :: rest → f.kind = .join →
    (readJoin f.payload = none → ∃ t, exec .join s = .next t ∧ t.bus = { s.bus with rx := rest } ∧
      UnchangedBut [.bus] s t) ∧
    (∀ p, readJoin f.payload = some p →
      (f.src = s.straps.number.val → ∃ t, exec .join s = .next t ∧ t.bus.rx = rest ∧
        t.cond.has .duplicateNumber = true ∧ UnchangedBut [.bus, .cond] s t) ∧
      (f.src ≠ s.straps.number.val → byteAt f.payload 7 ≤ 1 →
        let old := s.roster.entries.getD f.src none
        let onRail := p.rail = s.straps.rail.val ∨ ∃ q, old = some q ∧ q.rail = s.straps.rail.val
        let rejoins := byteAt f.payload 7 = 0 ∧ old.isSome = true ∧ s.straps.role = .tracer ∧ s.pacer.phase ≠ .off ∧
          ∃ e ∈ s.pacer.lag, e.carver = f.src
        let answered := byteAt f.payload 7 = 0 ∧ s.roster.joinDue = none ∧ ∀ g ∈ s.bus.queue, g.kind ≠ .join
        ∃ t, exec .join s = .next t ∧ t.bus.rx = rest ∧
        t.roster.entries = s.roster.entries.set f.src
          (some { p with joinOrder := (s.roster.joinOrder + 1) % 65536 }) ∧
        t.roster.joinOrder = (s.roster.joinOrder + 1) % 65536 ∧
        (answered → s.bus.mute = false ∧ s.bus.generalHeld < 5 → t.roster.joinDue = none ∧
          ∃ g ∈ t.bus.queue, g.kind = .join ∧ g.dest = 255 ∧ g.payload.getLast? = some 1#8) ∧
        (answered → s.bus.mute = true ∨ 5 ≤ s.bus.generalHeld → t.roster.joinDue = some true) ∧
        (¬ answered → t.roster.joinDue = s.roster.joinDue) ∧
        (rejoins → t.cond.has .carverRestarted = true ∧ t.pacer.lag = s.pacer.lag.filter (fun e => e.carver != f.src) ∧
          t.pacer.restarted = f.src :: s.pacer.restarted ∧
          (s.pacer.phase ≠ .collecting → t.pacer = { s.pacer with lag := t.pacer.lag, restarted := t.pacer.restarted })) ∧
        (¬ rejoins → UnchangedBut [.bus, .roster, .guard] s t) ∧
        (¬ onRail → ¬ rejoins → t.guard = s.guard) ∧
        (onRail → ∀ side : Side, let found := neighbour side { s with roster := t.roster }
          (found = (s.guard.view side).station → found ≠ some f.src → t.guard.view side = s.guard.view side) ∧
          (found ≠ (s.guard.view side).station ∨ found = some f.src →
            t.guard.view side = ⟨found, none⟩ ∧ t.guard.armed side = true ∧
            (s.guard.phase = .settle → s.guard.side = side → t.guard.phase = .wait ∧ t.guard.announce = none) ∧
            (s.guard.phase = .wait → s.guard.side = side → s.guard.announce = none →
              (∀ o : Side, o ≠ side → let there := neighbour o { s with roster := t.roster }
                there = (s.guard.view o).station ∧ there ≠ some f.src) →
              ∀ sp, s.guard.atCheck = some sp → ∀ r, s.job.record = some r →
                CheckRuns sp r ((s.guard.setView side ⟨found, none⟩).setArmed side true) t.guard))) ∧
        UnchangedBut [.bus, .roster, .job, .gen, .pacer, .store, .motion, .guard, .cond] s t))

end Statements
end

