-- ==== Sys2Proof/Laws/State.lean ====
section
/-! SUPPORT. One lemma per field per setter of State, each true by rfl. -/

namespace Sys2Proof.Machine

variable (s : State)

@[simp] theorem State.setStraps_straps (x : Straps) : (s.setStraps x).straps = x := rfl
@[simp] theorem State.setStraps_inputs (x : Straps) : (s.setStraps x).inputs = s.inputs := rfl
@[simp] theorem State.setStraps_now (x : Straps) : (s.setStraps x).now = s.now := rfl
@[simp] theorem State.setStraps_seed (x : Straps) : (s.setStraps x).seed = s.seed := rfl
@[simp] theorem State.setStraps_selfTest (x : Straps) : (s.setStraps x).selfTest = s.selfTest := rfl
@[simp] theorem State.setStraps_bus (x : Straps) : (s.setStraps x).bus = s.bus := rfl
@[simp] theorem State.setStraps_roster (x : Straps) : (s.setStraps x).roster = s.roster := rfl
@[simp] theorem State.setStraps_job (x : Straps) : (s.setStraps x).job = s.job := rfl
@[simp] theorem State.setStraps_gen (x : Straps) : (s.setStraps x).gen = s.gen := rfl
@[simp] theorem State.setStraps_pacer (x : Straps) : (s.setStraps x).pacer = s.pacer := rfl
@[simp] theorem State.setStraps_store (x : Straps) : (s.setStraps x).store = s.store := rfl
@[simp] theorem State.setStraps_pq (x : Straps) : (s.setStraps x).pq = s.pq := rfl
@[simp] theorem State.setStraps_map (x : Straps) : (s.setStraps x).map = s.map := rfl
@[simp] theorem State.setStraps_seq (x : Straps) : (s.setStraps x).seq = s.seq := rfl
@[simp] theorem State.setStraps_motion (x : Straps) : (s.setStraps x).motion = s.motion := rfl
@[simp] theorem State.setStraps_guard (x : Straps) : (s.setStraps x).guard = s.guard := rfl
@[simp] theorem State.setStraps_cond (x : Straps) : (s.setStraps x).cond = s.cond := rfl
@[simp] theorem State.setStraps_pending (x : Straps) : (s.setStraps x).pending = s.pending := rfl

@[simp] theorem State.setInputs_straps (x : Inputs) : (s.setInputs x).straps = s.straps := rfl
@[simp] theorem State.setInputs_inputs (x : Inputs) : (s.setInputs x).inputs = x := rfl
@[simp] theorem State.setInputs_now (x : Inputs) : (s.setInputs x).now = s.now := rfl
@[simp] theorem State.setInputs_seed (x : Inputs) : (s.setInputs x).seed = s.seed := rfl
@[simp] theorem State.setInputs_selfTest (x : Inputs) : (s.setInputs x).selfTest = s.selfTest := rfl
@[simp] theorem State.setInputs_bus (x : Inputs) : (s.setInputs x).bus = s.bus := rfl
@[simp] theorem State.setInputs_roster (x : Inputs) : (s.setInputs x).roster = s.roster := rfl
@[simp] theorem State.setInputs_job (x : Inputs) : (s.setInputs x).job = s.job := rfl
@[simp] theorem State.setInputs_gen (x : Inputs) : (s.setInputs x).gen = s.gen := rfl
@[simp] theorem State.setInputs_pacer (x : Inputs) : (s.setInputs x).pacer = s.pacer := rfl
@[simp] theorem State.setInputs_store (x : Inputs) : (s.setInputs x).store = s.store := rfl
@[simp] theorem State.setInputs_pq (x : Inputs) : (s.setInputs x).pq = s.pq := rfl
@[simp] theorem State.setInputs_map (x : Inputs) : (s.setInputs x).map = s.map := rfl
@[simp] theorem State.setInputs_seq (x : Inputs) : (s.setInputs x).seq = s.seq := rfl
@[simp] theorem State.setInputs_motion (x : Inputs) : (s.setInputs x).motion = s.motion := rfl
@[simp] theorem State.setInputs_guard (x : Inputs) : (s.setInputs x).guard = s.guard := rfl
@[simp] theorem State.setInputs_cond (x : Inputs) : (s.setInputs x).cond = s.cond := rfl
@[simp] theorem State.setInputs_pending (x : Inputs) : (s.setInputs x).pending = s.pending := rfl

@[simp] theorem State.setNow_straps (x : Nat) : (s.setNow x).straps = s.straps := rfl
@[simp] theorem State.setNow_inputs (x : Nat) : (s.setNow x).inputs = s.inputs := rfl
@[simp] theorem State.setNow_now (x : Nat) : (s.setNow x).now = x := rfl
@[simp] theorem State.setNow_seed (x : Nat) : (s.setNow x).seed = s.seed := rfl
@[simp] theorem State.setNow_selfTest (x : Nat) : (s.setNow x).selfTest = s.selfTest := rfl
@[simp] theorem State.setNow_bus (x : Nat) : (s.setNow x).bus = s.bus := rfl
@[simp] theorem State.setNow_roster (x : Nat) : (s.setNow x).roster = s.roster := rfl
@[simp] theorem State.setNow_job (x : Nat) : (s.setNow x).job = s.job := rfl
@[simp] theorem State.setNow_gen (x : Nat) : (s.setNow x).gen = s.gen := rfl
@[simp] theorem State.setNow_pacer (x : Nat) : (s.setNow x).pacer = s.pacer := rfl
@[simp] theorem State.setNow_store (x : Nat) : (s.setNow x).store = s.store := rfl
@[simp] theorem State.setNow_pq (x : Nat) : (s.setNow x).pq = s.pq := rfl
@[simp] theorem State.setNow_map (x : Nat) : (s.setNow x).map = s.map := rfl
@[simp] theorem State.setNow_seq (x : Nat) : (s.setNow x).seq = s.seq := rfl
@[simp] theorem State.setNow_motion (x : Nat) : (s.setNow x).motion = s.motion := rfl
@[simp] theorem State.setNow_guard (x : Nat) : (s.setNow x).guard = s.guard := rfl
@[simp] theorem State.setNow_cond (x : Nat) : (s.setNow x).cond = s.cond := rfl
@[simp] theorem State.setNow_pending (x : Nat) : (s.setNow x).pending = s.pending := rfl

@[simp] theorem State.setSeed_straps (x : Nat) : (s.setSeed x).straps = s.straps := rfl
@[simp] theorem State.setSeed_inputs (x : Nat) : (s.setSeed x).inputs = s.inputs := rfl
@[simp] theorem State.setSeed_now (x : Nat) : (s.setSeed x).now = s.now := rfl
@[simp] theorem State.setSeed_seed (x : Nat) : (s.setSeed x).seed = x := rfl
@[simp] theorem State.setSeed_selfTest (x : Nat) : (s.setSeed x).selfTest = s.selfTest := rfl
@[simp] theorem State.setSeed_bus (x : Nat) : (s.setSeed x).bus = s.bus := rfl
@[simp] theorem State.setSeed_roster (x : Nat) : (s.setSeed x).roster = s.roster := rfl
@[simp] theorem State.setSeed_job (x : Nat) : (s.setSeed x).job = s.job := rfl
@[simp] theorem State.setSeed_gen (x : Nat) : (s.setSeed x).gen = s.gen := rfl
@[simp] theorem State.setSeed_pacer (x : Nat) : (s.setSeed x).pacer = s.pacer := rfl
@[simp] theorem State.setSeed_store (x : Nat) : (s.setSeed x).store = s.store := rfl
@[simp] theorem State.setSeed_pq (x : Nat) : (s.setSeed x).pq = s.pq := rfl
@[simp] theorem State.setSeed_map (x : Nat) : (s.setSeed x).map = s.map := rfl
@[simp] theorem State.setSeed_seq (x : Nat) : (s.setSeed x).seq = s.seq := rfl
@[simp] theorem State.setSeed_motion (x : Nat) : (s.setSeed x).motion = s.motion := rfl
@[simp] theorem State.setSeed_guard (x : Nat) : (s.setSeed x).guard = s.guard := rfl
@[simp] theorem State.setSeed_cond (x : Nat) : (s.setSeed x).cond = s.cond := rfl
@[simp] theorem State.setSeed_pending (x : Nat) : (s.setSeed x).pending = s.pending := rfl

@[simp] theorem State.setSelfTest_straps (x : Option Nat) : (s.setSelfTest x).straps = s.straps := rfl
@[simp] theorem State.setSelfTest_inputs (x : Option Nat) : (s.setSelfTest x).inputs = s.inputs := rfl
@[simp] theorem State.setSelfTest_now (x : Option Nat) : (s.setSelfTest x).now = s.now := rfl
@[simp] theorem State.setSelfTest_seed (x : Option Nat) : (s.setSelfTest x).seed = s.seed := rfl
@[simp] theorem State.setSelfTest_selfTest (x : Option Nat) : (s.setSelfTest x).selfTest = x := rfl
@[simp] theorem State.setSelfTest_bus (x : Option Nat) : (s.setSelfTest x).bus = s.bus := rfl
@[simp] theorem State.setSelfTest_roster (x : Option Nat) : (s.setSelfTest x).roster = s.roster := rfl
@[simp] theorem State.setSelfTest_job (x : Option Nat) : (s.setSelfTest x).job = s.job := rfl
@[simp] theorem State.setSelfTest_gen (x : Option Nat) : (s.setSelfTest x).gen = s.gen := rfl
@[simp] theorem State.setSelfTest_pacer (x : Option Nat) : (s.setSelfTest x).pacer = s.pacer := rfl
@[simp] theorem State.setSelfTest_store (x : Option Nat) : (s.setSelfTest x).store = s.store := rfl
@[simp] theorem State.setSelfTest_pq (x : Option Nat) : (s.setSelfTest x).pq = s.pq := rfl
@[simp] theorem State.setSelfTest_map (x : Option Nat) : (s.setSelfTest x).map = s.map := rfl
@[simp] theorem State.setSelfTest_seq (x : Option Nat) : (s.setSelfTest x).seq = s.seq := rfl
@[simp] theorem State.setSelfTest_motion (x : Option Nat) : (s.setSelfTest x).motion = s.motion := rfl
@[simp] theorem State.setSelfTest_guard (x : Option Nat) : (s.setSelfTest x).guard = s.guard := rfl
@[simp] theorem State.setSelfTest_cond (x : Option Nat) : (s.setSelfTest x).cond = s.cond := rfl
@[simp] theorem State.setSelfTest_pending (x : Option Nat) : (s.setSelfTest x).pending = s.pending := rfl

@[simp] theorem State.setBus_straps (x : Bus) : (s.setBus x).straps = s.straps := rfl
@[simp] theorem State.setBus_inputs (x : Bus) : (s.setBus x).inputs = s.inputs := rfl
@[simp] theorem State.setBus_now (x : Bus) : (s.setBus x).now = s.now := rfl
@[simp] theorem State.setBus_seed (x : Bus) : (s.setBus x).seed = s.seed := rfl
@[simp] theorem State.setBus_selfTest (x : Bus) : (s.setBus x).selfTest = s.selfTest := rfl
@[simp] theorem State.setBus_bus (x : Bus) : (s.setBus x).bus = x := rfl
@[simp] theorem State.setBus_roster (x : Bus) : (s.setBus x).roster = s.roster := rfl
@[simp] theorem State.setBus_job (x : Bus) : (s.setBus x).job = s.job := rfl
@[simp] theorem State.setBus_gen (x : Bus) : (s.setBus x).gen = s.gen := rfl
@[simp] theorem State.setBus_pacer (x : Bus) : (s.setBus x).pacer = s.pacer := rfl
@[simp] theorem State.setBus_store (x : Bus) : (s.setBus x).store = s.store := rfl
@[simp] theorem State.setBus_pq (x : Bus) : (s.setBus x).pq = s.pq := rfl
@[simp] theorem State.setBus_map (x : Bus) : (s.setBus x).map = s.map := rfl
@[simp] theorem State.setBus_seq (x : Bus) : (s.setBus x).seq = s.seq := rfl
@[simp] theorem State.setBus_motion (x : Bus) : (s.setBus x).motion = s.motion := rfl
@[simp] theorem State.setBus_guard (x : Bus) : (s.setBus x).guard = s.guard := rfl
@[simp] theorem State.setBus_cond (x : Bus) : (s.setBus x).cond = s.cond := rfl
@[simp] theorem State.setBus_pending (x : Bus) : (s.setBus x).pending = s.pending := rfl

@[simp] theorem State.setRoster_straps (x : Roster) : (s.setRoster x).straps = s.straps := rfl
@[simp] theorem State.setRoster_inputs (x : Roster) : (s.setRoster x).inputs = s.inputs := rfl
@[simp] theorem State.setRoster_now (x : Roster) : (s.setRoster x).now = s.now := rfl
@[simp] theorem State.setRoster_seed (x : Roster) : (s.setRoster x).seed = s.seed := rfl
@[simp] theorem State.setRoster_selfTest (x : Roster) : (s.setRoster x).selfTest = s.selfTest := rfl
@[simp] theorem State.setRoster_bus (x : Roster) : (s.setRoster x).bus = s.bus := rfl
@[simp] theorem State.setRoster_roster (x : Roster) : (s.setRoster x).roster = x := rfl
@[simp] theorem State.setRoster_job (x : Roster) : (s.setRoster x).job = s.job := rfl
@[simp] theorem State.setRoster_gen (x : Roster) : (s.setRoster x).gen = s.gen := rfl
@[simp] theorem State.setRoster_pacer (x : Roster) : (s.setRoster x).pacer = s.pacer := rfl
@[simp] theorem State.setRoster_store (x : Roster) : (s.setRoster x).store = s.store := rfl
@[simp] theorem State.setRoster_pq (x : Roster) : (s.setRoster x).pq = s.pq := rfl
@[simp] theorem State.setRoster_map (x : Roster) : (s.setRoster x).map = s.map := rfl
@[simp] theorem State.setRoster_seq (x : Roster) : (s.setRoster x).seq = s.seq := rfl
@[simp] theorem State.setRoster_motion (x : Roster) : (s.setRoster x).motion = s.motion := rfl
@[simp] theorem State.setRoster_guard (x : Roster) : (s.setRoster x).guard = s.guard := rfl
@[simp] theorem State.setRoster_cond (x : Roster) : (s.setRoster x).cond = s.cond := rfl
@[simp] theorem State.setRoster_pending (x : Roster) : (s.setRoster x).pending = s.pending := rfl

@[simp] theorem State.setJob_straps (x : JobStore) : (s.setJob x).straps = s.straps := rfl
@[simp] theorem State.setJob_inputs (x : JobStore) : (s.setJob x).inputs = s.inputs := rfl
@[simp] theorem State.setJob_now (x : JobStore) : (s.setJob x).now = s.now := rfl
@[simp] theorem State.setJob_seed (x : JobStore) : (s.setJob x).seed = s.seed := rfl
@[simp] theorem State.setJob_selfTest (x : JobStore) : (s.setJob x).selfTest = s.selfTest := rfl
@[simp] theorem State.setJob_bus (x : JobStore) : (s.setJob x).bus = s.bus := rfl
@[simp] theorem State.setJob_roster (x : JobStore) : (s.setJob x).roster = s.roster := rfl
@[simp] theorem State.setJob_job (x : JobStore) : (s.setJob x).job = x := rfl
@[simp] theorem State.setJob_gen (x : JobStore) : (s.setJob x).gen = s.gen := rfl
@[simp] theorem State.setJob_pacer (x : JobStore) : (s.setJob x).pacer = s.pacer := rfl
@[simp] theorem State.setJob_store (x : JobStore) : (s.setJob x).store = s.store := rfl
@[simp] theorem State.setJob_pq (x : JobStore) : (s.setJob x).pq = s.pq := rfl
@[simp] theorem State.setJob_map (x : JobStore) : (s.setJob x).map = s.map := rfl
@[simp] theorem State.setJob_seq (x : JobStore) : (s.setJob x).seq = s.seq := rfl
@[simp] theorem State.setJob_motion (x : JobStore) : (s.setJob x).motion = s.motion := rfl
@[simp] theorem State.setJob_guard (x : JobStore) : (s.setJob x).guard = s.guard := rfl
@[simp] theorem State.setJob_cond (x : JobStore) : (s.setJob x).cond = s.cond := rfl
@[simp] theorem State.setJob_pending (x : JobStore) : (s.setJob x).pending = s.pending := rfl

@[simp] theorem State.setGen_straps (x : Generator) : (s.setGen x).straps = s.straps := rfl
@[simp] theorem State.setGen_inputs (x : Generator) : (s.setGen x).inputs = s.inputs := rfl
@[simp] theorem State.setGen_now (x : Generator) : (s.setGen x).now = s.now := rfl
@[simp] theorem State.setGen_seed (x : Generator) : (s.setGen x).seed = s.seed := rfl
@[simp] theorem State.setGen_selfTest (x : Generator) : (s.setGen x).selfTest = s.selfTest := rfl
@[simp] theorem State.setGen_bus (x : Generator) : (s.setGen x).bus = s.bus := rfl
@[simp] theorem State.setGen_roster (x : Generator) : (s.setGen x).roster = s.roster := rfl
@[simp] theorem State.setGen_job (x : Generator) : (s.setGen x).job = s.job := rfl
@[simp] theorem State.setGen_gen (x : Generator) : (s.setGen x).gen = x := rfl
@[simp] theorem State.setGen_pacer (x : Generator) : (s.setGen x).pacer = s.pacer := rfl
@[simp] theorem State.setGen_store (x : Generator) : (s.setGen x).store = s.store := rfl
@[simp] theorem State.setGen_pq (x : Generator) : (s.setGen x).pq = s.pq := rfl
@[simp] theorem State.setGen_map (x : Generator) : (s.setGen x).map = s.map := rfl
@[simp] theorem State.setGen_seq (x : Generator) : (s.setGen x).seq = s.seq := rfl
@[simp] theorem State.setGen_motion (x : Generator) : (s.setGen x).motion = s.motion := rfl
@[simp] theorem State.setGen_guard (x : Generator) : (s.setGen x).guard = s.guard := rfl
@[simp] theorem State.setGen_cond (x : Generator) : (s.setGen x).cond = s.cond := rfl
@[simp] theorem State.setGen_pending (x : Generator) : (s.setGen x).pending = s.pending := rfl

@[simp] theorem State.setPacer_straps (x : Pacer) : (s.setPacer x).straps = s.straps := rfl
@[simp] theorem State.setPacer_inputs (x : Pacer) : (s.setPacer x).inputs = s.inputs := rfl
@[simp] theorem State.setPacer_now (x : Pacer) : (s.setPacer x).now = s.now := rfl
@[simp] theorem State.setPacer_seed (x : Pacer) : (s.setPacer x).seed = s.seed := rfl
@[simp] theorem State.setPacer_selfTest (x : Pacer) : (s.setPacer x).selfTest = s.selfTest := rfl
@[simp] theorem State.setPacer_bus (x : Pacer) : (s.setPacer x).bus = s.bus := rfl
@[simp] theorem State.setPacer_roster (x : Pacer) : (s.setPacer x).roster = s.roster := rfl
@[simp] theorem State.setPacer_job (x : Pacer) : (s.setPacer x).job = s.job := rfl
@[simp] theorem State.setPacer_gen (x : Pacer) : (s.setPacer x).gen = s.gen := rfl
@[simp] theorem State.setPacer_pacer (x : Pacer) : (s.setPacer x).pacer = x := rfl
@[simp] theorem State.setPacer_store (x : Pacer) : (s.setPacer x).store = s.store := rfl
@[simp] theorem State.setPacer_pq (x : Pacer) : (s.setPacer x).pq = s.pq := rfl
@[simp] theorem State.setPacer_map (x : Pacer) : (s.setPacer x).map = s.map := rfl
@[simp] theorem State.setPacer_seq (x : Pacer) : (s.setPacer x).seq = s.seq := rfl
@[simp] theorem State.setPacer_motion (x : Pacer) : (s.setPacer x).motion = s.motion := rfl
@[simp] theorem State.setPacer_guard (x : Pacer) : (s.setPacer x).guard = s.guard := rfl
@[simp] theorem State.setPacer_cond (x : Pacer) : (s.setPacer x).cond = s.cond := rfl
@[simp] theorem State.setPacer_pending (x : Pacer) : (s.setPacer x).pending = s.pending := rfl

@[simp] theorem State.setStore_straps (x : TraceStore) : (s.setStore x).straps = s.straps := rfl
@[simp] theorem State.setStore_inputs (x : TraceStore) : (s.setStore x).inputs = s.inputs := rfl
@[simp] theorem State.setStore_now (x : TraceStore) : (s.setStore x).now = s.now := rfl
@[simp] theorem State.setStore_seed (x : TraceStore) : (s.setStore x).seed = s.seed := rfl
@[simp] theorem State.setStore_selfTest (x : TraceStore) : (s.setStore x).selfTest = s.selfTest := rfl
@[simp] theorem State.setStore_bus (x : TraceStore) : (s.setStore x).bus = s.bus := rfl
@[simp] theorem State.setStore_roster (x : TraceStore) : (s.setStore x).roster = s.roster := rfl
@[simp] theorem State.setStore_job (x : TraceStore) : (s.setStore x).job = s.job := rfl
@[simp] theorem State.setStore_gen (x : TraceStore) : (s.setStore x).gen = s.gen := rfl
@[simp] theorem State.setStore_pacer (x : TraceStore) : (s.setStore x).pacer = s.pacer := rfl
@[simp] theorem State.setStore_store (x : TraceStore) : (s.setStore x).store = x := rfl
@[simp] theorem State.setStore_pq (x : TraceStore) : (s.setStore x).pq = s.pq := rfl
@[simp] theorem State.setStore_map (x : TraceStore) : (s.setStore x).map = s.map := rfl
@[simp] theorem State.setStore_seq (x : TraceStore) : (s.setStore x).seq = s.seq := rfl
@[simp] theorem State.setStore_motion (x : TraceStore) : (s.setStore x).motion = s.motion := rfl
@[simp] theorem State.setStore_guard (x : TraceStore) : (s.setStore x).guard = s.guard := rfl
@[simp] theorem State.setStore_cond (x : TraceStore) : (s.setStore x).cond = s.cond := rfl
@[simp] theorem State.setStore_pending (x : TraceStore) : (s.setStore x).pending = s.pending := rfl

@[simp] theorem State.setPq_straps (x : PathQueue) : (s.setPq x).straps = s.straps := rfl
@[simp] theorem State.setPq_inputs (x : PathQueue) : (s.setPq x).inputs = s.inputs := rfl
@[simp] theorem State.setPq_now (x : PathQueue) : (s.setPq x).now = s.now := rfl
@[simp] theorem State.setPq_seed (x : PathQueue) : (s.setPq x).seed = s.seed := rfl
@[simp] theorem State.setPq_selfTest (x : PathQueue) : (s.setPq x).selfTest = s.selfTest := rfl
@[simp] theorem State.setPq_bus (x : PathQueue) : (s.setPq x).bus = s.bus := rfl
@[simp] theorem State.setPq_roster (x : PathQueue) : (s.setPq x).roster = s.roster := rfl
@[simp] theorem State.setPq_job (x : PathQueue) : (s.setPq x).job = s.job := rfl
@[simp] theorem State.setPq_gen (x : PathQueue) : (s.setPq x).gen = s.gen := rfl
@[simp] theorem State.setPq_pacer (x : PathQueue) : (s.setPq x).pacer = s.pacer := rfl
@[simp] theorem State.setPq_store (x : PathQueue) : (s.setPq x).store = s.store := rfl
@[simp] theorem State.setPq_pq (x : PathQueue) : (s.setPq x).pq = x := rfl
@[simp] theorem State.setPq_map (x : PathQueue) : (s.setPq x).map = s.map := rfl
@[simp] theorem State.setPq_seq (x : PathQueue) : (s.setPq x).seq = s.seq := rfl
@[simp] theorem State.setPq_motion (x : PathQueue) : (s.setPq x).motion = s.motion := rfl
@[simp] theorem State.setPq_guard (x : PathQueue) : (s.setPq x).guard = s.guard := rfl
@[simp] theorem State.setPq_cond (x : PathQueue) : (s.setPq x).cond = s.cond := rfl
@[simp] theorem State.setPq_pending (x : PathQueue) : (s.setPq x).pending = s.pending := rfl

@[simp] theorem State.setMap_straps (x : CutMap) : (s.setMap x).straps = s.straps := rfl
@[simp] theorem State.setMap_inputs (x : CutMap) : (s.setMap x).inputs = s.inputs := rfl
@[simp] theorem State.setMap_now (x : CutMap) : (s.setMap x).now = s.now := rfl
@[simp] theorem State.setMap_seed (x : CutMap) : (s.setMap x).seed = s.seed := rfl
@[simp] theorem State.setMap_selfTest (x : CutMap) : (s.setMap x).selfTest = s.selfTest := rfl
@[simp] theorem State.setMap_bus (x : CutMap) : (s.setMap x).bus = s.bus := rfl
@[simp] theorem State.setMap_roster (x : CutMap) : (s.setMap x).roster = s.roster := rfl
@[simp] theorem State.setMap_job (x : CutMap) : (s.setMap x).job = s.job := rfl
@[simp] theorem State.setMap_gen (x : CutMap) : (s.setMap x).gen = s.gen := rfl
@[simp] theorem State.setMap_pacer (x : CutMap) : (s.setMap x).pacer = s.pacer := rfl
@[simp] theorem State.setMap_store (x : CutMap) : (s.setMap x).store = s.store := rfl
@[simp] theorem State.setMap_pq (x : CutMap) : (s.setMap x).pq = s.pq := rfl
@[simp] theorem State.setMap_map (x : CutMap) : (s.setMap x).map = x := rfl
@[simp] theorem State.setMap_seq (x : CutMap) : (s.setMap x).seq = s.seq := rfl
@[simp] theorem State.setMap_motion (x : CutMap) : (s.setMap x).motion = s.motion := rfl
@[simp] theorem State.setMap_guard (x : CutMap) : (s.setMap x).guard = s.guard := rfl
@[simp] theorem State.setMap_cond (x : CutMap) : (s.setMap x).cond = s.cond := rfl
@[simp] theorem State.setMap_pending (x : CutMap) : (s.setMap x).pending = s.pending := rfl

@[simp] theorem State.setSeq_straps (x : Sequencer) : (s.setSeq x).straps = s.straps := rfl
@[simp] theorem State.setSeq_inputs (x : Sequencer) : (s.setSeq x).inputs = s.inputs := rfl
@[simp] theorem State.setSeq_now (x : Sequencer) : (s.setSeq x).now = s.now := rfl
@[simp] theorem State.setSeq_seed (x : Sequencer) : (s.setSeq x).seed = s.seed := rfl
@[simp] theorem State.setSeq_selfTest (x : Sequencer) : (s.setSeq x).selfTest = s.selfTest := rfl
@[simp] theorem State.setSeq_bus (x : Sequencer) : (s.setSeq x).bus = s.bus := rfl
@[simp] theorem State.setSeq_roster (x : Sequencer) : (s.setSeq x).roster = s.roster := rfl
@[simp] theorem State.setSeq_job (x : Sequencer) : (s.setSeq x).job = s.job := rfl
@[simp] theorem State.setSeq_gen (x : Sequencer) : (s.setSeq x).gen = s.gen := rfl
@[simp] theorem State.setSeq_pacer (x : Sequencer) : (s.setSeq x).pacer = s.pacer := rfl
@[simp] theorem State.setSeq_store (x : Sequencer) : (s.setSeq x).store = s.store := rfl
@[simp] theorem State.setSeq_pq (x : Sequencer) : (s.setSeq x).pq = s.pq := rfl
@[simp] theorem State.setSeq_map (x : Sequencer) : (s.setSeq x).map = s.map := rfl
@[simp] theorem State.setSeq_seq (x : Sequencer) : (s.setSeq x).seq = x := rfl
@[simp] theorem State.setSeq_motion (x : Sequencer) : (s.setSeq x).motion = s.motion := rfl
@[simp] theorem State.setSeq_guard (x : Sequencer) : (s.setSeq x).guard = s.guard := rfl
@[simp] theorem State.setSeq_cond (x : Sequencer) : (s.setSeq x).cond = s.cond := rfl
@[simp] theorem State.setSeq_pending (x : Sequencer) : (s.setSeq x).pending = s.pending := rfl

@[simp] theorem State.setMotion_straps (x : Motion) : (s.setMotion x).straps = s.straps := rfl
@[simp] theorem State.setMotion_inputs (x : Motion) : (s.setMotion x).inputs = s.inputs := rfl
@[simp] theorem State.setMotion_now (x : Motion) : (s.setMotion x).now = s.now := rfl
@[simp] theorem State.setMotion_seed (x : Motion) : (s.setMotion x).seed = s.seed := rfl
@[simp] theorem State.setMotion_selfTest (x : Motion) : (s.setMotion x).selfTest = s.selfTest := rfl
@[simp] theorem State.setMotion_bus (x : Motion) : (s.setMotion x).bus = s.bus := rfl
@[simp] theorem State.setMotion_roster (x : Motion) : (s.setMotion x).roster = s.roster := rfl
@[simp] theorem State.setMotion_job (x : Motion) : (s.setMotion x).job = s.job := rfl
@[simp] theorem State.setMotion_gen (x : Motion) : (s.setMotion x).gen = s.gen := rfl
@[simp] theorem State.setMotion_pacer (x : Motion) : (s.setMotion x).pacer = s.pacer := rfl
@[simp] theorem State.setMotion_store (x : Motion) : (s.setMotion x).store = s.store := rfl
@[simp] theorem State.setMotion_pq (x : Motion) : (s.setMotion x).pq = s.pq := rfl
@[simp] theorem State.setMotion_map (x : Motion) : (s.setMotion x).map = s.map := rfl
@[simp] theorem State.setMotion_seq (x : Motion) : (s.setMotion x).seq = s.seq := rfl
@[simp] theorem State.setMotion_motion (x : Motion) : (s.setMotion x).motion = x := rfl
@[simp] theorem State.setMotion_guard (x : Motion) : (s.setMotion x).guard = s.guard := rfl
@[simp] theorem State.setMotion_cond (x : Motion) : (s.setMotion x).cond = s.cond := rfl
@[simp] theorem State.setMotion_pending (x : Motion) : (s.setMotion x).pending = s.pending := rfl

@[simp] theorem State.setGuard_straps (x : Guard) : (s.setGuard x).straps = s.straps := rfl
@[simp] theorem State.setGuard_inputs (x : Guard) : (s.setGuard x).inputs = s.inputs := rfl
@[simp] theorem State.setGuard_now (x : Guard) : (s.setGuard x).now = s.now := rfl
@[simp] theorem State.setGuard_seed (x : Guard) : (s.setGuard x).seed = s.seed := rfl
@[simp] theorem State.setGuard_selfTest (x : Guard) : (s.setGuard x).selfTest = s.selfTest := rfl
@[simp] theorem State.setGuard_bus (x : Guard) : (s.setGuard x).bus = s.bus := rfl
@[simp] theorem State.setGuard_roster (x : Guard) : (s.setGuard x).roster = s.roster := rfl
@[simp] theorem State.setGuard_job (x : Guard) : (s.setGuard x).job = s.job := rfl
@[simp] theorem State.setGuard_gen (x : Guard) : (s.setGuard x).gen = s.gen := rfl
@[simp] theorem State.setGuard_pacer (x : Guard) : (s.setGuard x).pacer = s.pacer := rfl
@[simp] theorem State.setGuard_store (x : Guard) : (s.setGuard x).store = s.store := rfl
@[simp] theorem State.setGuard_pq (x : Guard) : (s.setGuard x).pq = s.pq := rfl
@[simp] theorem State.setGuard_map (x : Guard) : (s.setGuard x).map = s.map := rfl
@[simp] theorem State.setGuard_seq (x : Guard) : (s.setGuard x).seq = s.seq := rfl
@[simp] theorem State.setGuard_motion (x : Guard) : (s.setGuard x).motion = s.motion := rfl
@[simp] theorem State.setGuard_guard (x : Guard) : (s.setGuard x).guard = x := rfl
@[simp] theorem State.setGuard_cond (x : Guard) : (s.setGuard x).cond = s.cond := rfl
@[simp] theorem State.setGuard_pending (x : Guard) : (s.setGuard x).pending = s.pending := rfl

@[simp] theorem State.setCond_straps (x : ConditionUnit) : (s.setCond x).straps = s.straps := rfl
@[simp] theorem State.setCond_inputs (x : ConditionUnit) : (s.setCond x).inputs = s.inputs := rfl
@[simp] theorem State.setCond_now (x : ConditionUnit) : (s.setCond x).now = s.now := rfl
@[simp] theorem State.setCond_seed (x : ConditionUnit) : (s.setCond x).seed = s.seed := rfl
@[simp] theorem State.setCond_selfTest (x : ConditionUnit) : (s.setCond x).selfTest = s.selfTest := rfl
@[simp] theorem State.setCond_bus (x : ConditionUnit) : (s.setCond x).bus = s.bus := rfl
@[simp] theorem State.setCond_roster (x : ConditionUnit) : (s.setCond x).roster = s.roster := rfl
@[simp] theorem State.setCond_job (x : ConditionUnit) : (s.setCond x).job = s.job := rfl
@[simp] theorem State.setCond_gen (x : ConditionUnit) : (s.setCond x).gen = s.gen := rfl
@[simp] theorem State.setCond_pacer (x : ConditionUnit) : (s.setCond x).pacer = s.pacer := rfl
@[simp] theorem State.setCond_store (x : ConditionUnit) : (s.setCond x).store = s.store := rfl
@[simp] theorem State.setCond_pq (x : ConditionUnit) : (s.setCond x).pq = s.pq := rfl
@[simp] theorem State.setCond_map (x : ConditionUnit) : (s.setCond x).map = s.map := rfl
@[simp] theorem State.setCond_seq (x : ConditionUnit) : (s.setCond x).seq = s.seq := rfl
@[simp] theorem State.setCond_motion (x : ConditionUnit) : (s.setCond x).motion = s.motion := rfl
@[simp] theorem State.setCond_guard (x : ConditionUnit) : (s.setCond x).guard = s.guard := rfl
@[simp] theorem State.setCond_cond (x : ConditionUnit) : (s.setCond x).cond = x := rfl
@[simp] theorem State.setCond_pending (x : ConditionUnit) : (s.setCond x).pending = s.pending := rfl

@[simp] theorem State.setPending_straps (x : List Instr) : (s.setPending x).straps = s.straps := rfl
@[simp] theorem State.setPending_inputs (x : List Instr) : (s.setPending x).inputs = s.inputs := rfl
@[simp] theorem State.setPending_now (x : List Instr) : (s.setPending x).now = s.now := rfl
@[simp] theorem State.setPending_seed (x : List Instr) : (s.setPending x).seed = s.seed := rfl
@[simp] theorem State.setPending_selfTest (x : List Instr) : (s.setPending x).selfTest = s.selfTest := rfl
@[simp] theorem State.setPending_bus (x : List Instr) : (s.setPending x).bus = s.bus := rfl
@[simp] theorem State.setPending_roster (x : List Instr) : (s.setPending x).roster = s.roster := rfl
@[simp] theorem State.setPending_job (x : List Instr) : (s.setPending x).job = s.job := rfl
@[simp] theorem State.setPending_gen (x : List Instr) : (s.setPending x).gen = s.gen := rfl
@[simp] theorem State.setPending_pacer (x : List Instr) : (s.setPending x).pacer = s.pacer := rfl
@[simp] theorem State.setPending_store (x : List Instr) : (s.setPending x).store = s.store := rfl
@[simp] theorem State.setPending_pq (x : List Instr) : (s.setPending x).pq = s.pq := rfl
@[simp] theorem State.setPending_map (x : List Instr) : (s.setPending x).map = s.map := rfl
@[simp] theorem State.setPending_seq (x : List Instr) : (s.setPending x).seq = s.seq := rfl
@[simp] theorem State.setPending_motion (x : List Instr) : (s.setPending x).motion = s.motion := rfl
@[simp] theorem State.setPending_guard (x : List Instr) : (s.setPending x).guard = s.guard := rfl
@[simp] theorem State.setPending_cond (x : List Instr) : (s.setPending x).cond = s.cond := rfl
@[simp] theorem State.setPending_pending (x : List Instr) : (s.setPending x).pending = x := rfl

end Sys2Proof.Machine
end

