-- ==== Sys2Proof/Laws/FrameBlocks.lean ====
section
/-! SUPPORT. Frame lemmas, one per operation: the blocks of State that it leaves as they are. This file: the shared operations: conditions, offers, the load timers, the Neighbour Guard, the Motion Port, and reports. -/

namespace Sys2Proof.Machine

open Sys2Proof

/-! ## Conditions and counters -/

@[simp] theorem count_frame (c : Counter) (n : Nat) (s : State) :
    (count c n s).straps = s.straps ∧ (count c n s).inputs = s.inputs ∧ (count c n s).now = s.now ∧
    (count c n s).seed = s.seed ∧ (count c n s).selfTest = s.selfTest ∧ (count c n s).bus = s.bus ∧
    (count c n s).roster = s.roster ∧ (count c n s).job = s.job ∧ (count c n s).gen = s.gen ∧
    (count c n s).pacer = s.pacer ∧ (count c n s).store = s.store ∧ (count c n s).pq = s.pq ∧
    (count c n s).map = s.map ∧ (count c n s).seq = s.seq ∧ (count c n s).motion = s.motion ∧
    (count c n s).guard = s.guard ∧ (count c n s).pending = s.pending := by
  simp [count]

@[simp] theorem countIf_frame (p : Bool) (c : Counter) (s : State) :
    (countIf p c s).straps = s.straps ∧ (countIf p c s).inputs = s.inputs ∧ (countIf p c s).now = s.now ∧
    (countIf p c s).seed = s.seed ∧ (countIf p c s).selfTest = s.selfTest ∧ (countIf p c s).bus = s.bus ∧
    (countIf p c s).roster = s.roster ∧ (countIf p c s).job = s.job ∧ (countIf p c s).gen = s.gen ∧
    (countIf p c s).pacer = s.pacer ∧ (countIf p c s).store = s.store ∧ (countIf p c s).pq = s.pq ∧
    (countIf p c s).map = s.map ∧ (countIf p c s).seq = s.seq ∧ (countIf p c s).motion = s.motion ∧
    (countIf p c s).guard = s.guard ∧ (countIf p c s).pending = s.pending := by
  unfold countIf
  split <;> simp

@[simp] theorem offerReport_frame (k : Kind) (dest : Byte) (s : State) :
    (offerReport k dest s).straps = s.straps ∧ (offerReport k dest s).inputs = s.inputs ∧
    (offerReport k dest s).now = s.now ∧ (offerReport k dest s).seed = s.seed ∧
    (offerReport k dest s).selfTest = s.selfTest ∧ (offerReport k dest s).roster = s.roster ∧
    (offerReport k dest s).job = s.job ∧ (offerReport k dest s).gen = s.gen ∧
    (offerReport k dest s).pacer = s.pacer ∧ (offerReport k dest s).store = s.store ∧
    (offerReport k dest s).pq = s.pq ∧ (offerReport k dest s).map = s.map ∧ (offerReport k dest s).seq = s.seq ∧
    (offerReport k dest s).motion = s.motion ∧ (offerReport k dest s).guard = s.guard ∧
    (offerReport k dest s).cond = s.cond ∧ (offerReport k dest s).pending = s.pending := by
  unfold offerReport
  split <;> simp

@[simp] theorem offerReach_frame (s : State) :
    (offerReach s).straps = s.straps ∧ (offerReach s).inputs = s.inputs ∧ (offerReach s).now = s.now ∧
    (offerReach s).seed = s.seed ∧ (offerReach s).selfTest = s.selfTest ∧ (offerReach s).roster = s.roster ∧
    (offerReach s).job = s.job ∧ (offerReach s).gen = s.gen ∧ (offerReach s).pacer = s.pacer ∧
    (offerReach s).store = s.store ∧ (offerReach s).pq = s.pq ∧ (offerReach s).map = s.map ∧
    (offerReach s).seq = s.seq ∧ (offerReach s).motion = s.motion ∧ (offerReach s).guard = s.guard ∧
    (offerReach s).cond = s.cond ∧ (offerReach s).pending = s.pending := by
  simp [offerReach]

@[simp] theorem alertRise_frame (c : Cond) (s : State) :
    (alertRise c s).straps = s.straps ∧ (alertRise c s).inputs = s.inputs ∧ (alertRise c s).now = s.now ∧
    (alertRise c s).seed = s.seed ∧ (alertRise c s).selfTest = s.selfTest ∧ (alertRise c s).roster = s.roster ∧
    (alertRise c s).job = s.job ∧ (alertRise c s).gen = s.gen ∧ (alertRise c s).pacer = s.pacer ∧
    (alertRise c s).store = s.store ∧ (alertRise c s).pq = s.pq ∧ (alertRise c s).map = s.map ∧
    (alertRise c s).seq = s.seq ∧ (alertRise c s).motion = s.motion ∧ (alertRise c s).guard = s.guard ∧
    (alertRise c s).pending = s.pending := by
  unfold alertRise
  split <;> simp

@[simp] theorem raise_frame (c : Cond) (s : State) :
    (raise c s).straps = s.straps ∧ (raise c s).inputs = s.inputs ∧ (raise c s).now = s.now ∧
    (raise c s).seed = s.seed ∧ (raise c s).selfTest = s.selfTest ∧ (raise c s).roster = s.roster ∧
    (raise c s).job = s.job ∧ (raise c s).gen = s.gen ∧ (raise c s).pacer = s.pacer ∧ (raise c s).store = s.store ∧
    (raise c s).pq = s.pq ∧ (raise c s).map = s.map ∧ (raise c s).seq = s.seq ∧ (raise c s).motion = s.motion ∧
    (raise c s).guard = s.guard ∧ (raise c s).pending = s.pending := by
  unfold raise
  repeat' split
  all_goals simp

@[simp] theorem raiseIf_frame (p : Bool) (c : Cond) (s : State) :
    (raiseIf p c s).straps = s.straps ∧ (raiseIf p c s).inputs = s.inputs ∧ (raiseIf p c s).now = s.now ∧
    (raiseIf p c s).seed = s.seed ∧ (raiseIf p c s).selfTest = s.selfTest ∧ (raiseIf p c s).roster = s.roster ∧
    (raiseIf p c s).job = s.job ∧ (raiseIf p c s).gen = s.gen ∧ (raiseIf p c s).pacer = s.pacer ∧
    (raiseIf p c s).store = s.store ∧ (raiseIf p c s).pq = s.pq ∧ (raiseIf p c s).map = s.map ∧
    (raiseIf p c s).seq = s.seq ∧ (raiseIf p c s).motion = s.motion ∧ (raiseIf p c s).guard = s.guard ∧
    (raiseIf p c s).pending = s.pending := by
  unfold raiseIf
  split <;> simp

@[simp] theorem strayControl_frame (s : State) :
    (strayControl s).straps = s.straps ∧ (strayControl s).inputs = s.inputs ∧ (strayControl s).now = s.now ∧
    (strayControl s).seed = s.seed ∧ (strayControl s).selfTest = s.selfTest ∧ (strayControl s).bus = s.bus ∧
    (strayControl s).roster = s.roster ∧ (strayControl s).job = s.job ∧ (strayControl s).gen = s.gen ∧
    (strayControl s).pacer = s.pacer ∧ (strayControl s).store = s.store ∧ (strayControl s).pq = s.pq ∧
    (strayControl s).map = s.map ∧ (strayControl s).seq = s.seq ∧ (strayControl s).motion = s.motion ∧
    (strayControl s).guard = s.guard ∧ (strayControl s).pending = s.pending := by
  simp [strayControl]

/-! ## Operations several blocks share -/

@[simp] theorem refreshLoad_frame (s : State) :
    (refreshLoad s).straps = s.straps ∧ (refreshLoad s).inputs = s.inputs ∧ (refreshLoad s).now = s.now ∧
    (refreshLoad s).seed = s.seed ∧ (refreshLoad s).selfTest = s.selfTest ∧ (refreshLoad s).bus = s.bus ∧
    (refreshLoad s).roster = s.roster ∧ (refreshLoad s).job = s.job ∧ (refreshLoad s).gen = s.gen ∧
    (refreshLoad s).pacer = s.pacer ∧ (refreshLoad s).store = s.store ∧ (refreshLoad s).pq = s.pq ∧
    (refreshLoad s).map = s.map ∧ (refreshLoad s).seq = s.seq ∧ (refreshLoad s).guard = s.guard ∧
    (refreshLoad s).cond = s.cond ∧ (refreshLoad s).pending = s.pending := by
  simp [refreshLoad]

@[simp] theorem setStation_frame (st : StationState) (s : State) :
    (setStation st s).straps = s.straps ∧ (setStation st s).inputs = s.inputs ∧ (setStation st s).now = s.now ∧
    (setStation st s).seed = s.seed ∧ (setStation st s).selfTest = s.selfTest ∧ (setStation st s).bus = s.bus ∧
    (setStation st s).roster = s.roster ∧ (setStation st s).gen = s.gen ∧ (setStation st s).pacer = s.pacer ∧
    (setStation st s).store = s.store ∧ (setStation st s).pq = s.pq ∧ (setStation st s).map = s.map ∧
    (setStation st s).seq = s.seq ∧ (setStation st s).guard = s.guard ∧ (setStation st s).cond = s.cond ∧
    (setStation st s).pending = s.pending := by
  simp [setStation]

@[simp] theorem spindleOff_frame (s : State) :
    (spindleOff s).straps = s.straps ∧ (spindleOff s).inputs = s.inputs ∧ (spindleOff s).now = s.now ∧
    (spindleOff s).seed = s.seed ∧ (spindleOff s).selfTest = s.selfTest ∧ (spindleOff s).bus = s.bus ∧
    (spindleOff s).roster = s.roster ∧ (spindleOff s).job = s.job ∧ (spindleOff s).gen = s.gen ∧
    (spindleOff s).pacer = s.pacer ∧ (spindleOff s).store = s.store ∧ (spindleOff s).pq = s.pq ∧
    (spindleOff s).map = s.map ∧ (spindleOff s).seq = s.seq ∧ (spindleOff s).guard = s.guard ∧
    (spindleOff s).cond = s.cond ∧ (spindleOff s).pending = s.pending := by
  simp [spindleOff]

@[simp] theorem spindleOn_frame (s : State) :
    (spindleOn s).straps = s.straps ∧ (spindleOn s).inputs = s.inputs ∧ (spindleOn s).now = s.now ∧
    (spindleOn s).seed = s.seed ∧ (spindleOn s).selfTest = s.selfTest ∧ (spindleOn s).bus = s.bus ∧
    (spindleOn s).roster = s.roster ∧ (spindleOn s).job = s.job ∧ (spindleOn s).gen = s.gen ∧
    (spindleOn s).pacer = s.pacer ∧ (spindleOn s).store = s.store ∧ (spindleOn s).pq = s.pq ∧
    (spindleOn s).map = s.map ∧ (spindleOn s).seq = s.seq ∧ (spindleOn s).guard = s.guard ∧
    (spindleOn s).cond = s.cond ∧ (spindleOn s).pending = s.pending := by
  unfold spindleOn
  split <;> simp

@[simp] theorem offerCreditTo_frame (dest : Byte) (s : State) :
    (offerCreditTo dest s).straps = s.straps ∧ (offerCreditTo dest s).inputs = s.inputs ∧
    (offerCreditTo dest s).now = s.now ∧ (offerCreditTo dest s).seed = s.seed ∧
    (offerCreditTo dest s).selfTest = s.selfTest ∧ (offerCreditTo dest s).roster = s.roster ∧
    (offerCreditTo dest s).job = s.job ∧ (offerCreditTo dest s).gen = s.gen ∧
    (offerCreditTo dest s).pacer = s.pacer ∧ (offerCreditTo dest s).store = s.store ∧
    (offerCreditTo dest s).map = s.map ∧ (offerCreditTo dest s).seq = s.seq ∧
    (offerCreditTo dest s).motion = s.motion ∧ (offerCreditTo dest s).guard = s.guard ∧
    (offerCreditTo dest s).cond = s.cond ∧ (offerCreditTo dest s).pending = s.pending := by
  simp [offerCreditTo]

@[simp] theorem offerCredit_frame (s : State) :
    (offerCredit s).straps = s.straps ∧ (offerCredit s).inputs = s.inputs ∧ (offerCredit s).now = s.now ∧
    (offerCredit s).seed = s.seed ∧ (offerCredit s).selfTest = s.selfTest ∧ (offerCredit s).roster = s.roster ∧
    (offerCredit s).job = s.job ∧ (offerCredit s).gen = s.gen ∧ (offerCredit s).pacer = s.pacer ∧
    (offerCredit s).store = s.store ∧ (offerCredit s).map = s.map ∧ (offerCredit s).seq = s.seq ∧
    (offerCredit s).motion = s.motion ∧ (offerCredit s).guard = s.guard ∧ (offerCredit s).cond = s.cond ∧
    (offerCredit s).pending = s.pending := by
  unfold offerCredit
  split <;> simp

@[simp] theorem offerOnGrowth_frame (s : State) :
    (offerOnGrowth s).straps = s.straps ∧ (offerOnGrowth s).inputs = s.inputs ∧ (offerOnGrowth s).now = s.now ∧
    (offerOnGrowth s).seed = s.seed ∧ (offerOnGrowth s).selfTest = s.selfTest ∧ (offerOnGrowth s).roster = s.roster ∧
    (offerOnGrowth s).job = s.job ∧ (offerOnGrowth s).gen = s.gen ∧ (offerOnGrowth s).pacer = s.pacer ∧
    (offerOnGrowth s).store = s.store ∧ (offerOnGrowth s).map = s.map ∧ (offerOnGrowth s).seq = s.seq ∧
    (offerOnGrowth s).motion = s.motion ∧ (offerOnGrowth s).guard = s.guard ∧ (offerOnGrowth s).cond = s.cond ∧
    (offerOnGrowth s).pending = s.pending := by
  unfold offerOnGrowth
  split <;> simp

/-! ## The Neighbour Guard -/

@[simp] theorem setClaim_frame (iv : Interval) (s : State) :
    (setClaim iv s).straps = s.straps ∧ (setClaim iv s).inputs = s.inputs ∧ (setClaim iv s).now = s.now ∧
    (setClaim iv s).seed = s.seed ∧ (setClaim iv s).selfTest = s.selfTest ∧ (setClaim iv s).roster = s.roster ∧
    (setClaim iv s).job = s.job ∧ (setClaim iv s).gen = s.gen ∧ (setClaim iv s).pacer = s.pacer ∧
    (setClaim iv s).store = s.store ∧ (setClaim iv s).pq = s.pq ∧ (setClaim iv s).map = s.map ∧
    (setClaim iv s).seq = s.seq ∧ (setClaim iv s).motion = s.motion ∧ (setClaim iv s).cond = s.cond ∧
    (setClaim iv s).pending = s.pending := by
  unfold setClaim
  split <;> simp

@[simp] theorem setAnnounce_frame (a : Option Interval) (s : State) :
    (setAnnounce a s).straps = s.straps ∧ (setAnnounce a s).inputs = s.inputs ∧ (setAnnounce a s).now = s.now ∧
    (setAnnounce a s).seed = s.seed ∧ (setAnnounce a s).selfTest = s.selfTest ∧ (setAnnounce a s).roster = s.roster ∧
    (setAnnounce a s).job = s.job ∧ (setAnnounce a s).gen = s.gen ∧ (setAnnounce a s).pacer = s.pacer ∧
    (setAnnounce a s).store = s.store ∧ (setAnnounce a s).pq = s.pq ∧ (setAnnounce a s).map = s.map ∧
    (setAnnounce a s).seq = s.seq ∧ (setAnnounce a s).motion = s.motion ∧ (setAnnounce a s).cond = s.cond ∧
    (setAnnounce a s).pending = s.pending := by
  unfold setAnnounce
  split <;> simp

@[simp] theorem recomputeClaim_frame (s : State) :
    (recomputeClaim s).straps = s.straps ∧ (recomputeClaim s).inputs = s.inputs ∧ (recomputeClaim s).now = s.now ∧
    (recomputeClaim s).seed = s.seed ∧ (recomputeClaim s).selfTest = s.selfTest ∧
    (recomputeClaim s).roster = s.roster ∧ (recomputeClaim s).job = s.job ∧ (recomputeClaim s).gen = s.gen ∧
    (recomputeClaim s).pacer = s.pacer ∧ (recomputeClaim s).store = s.store ∧ (recomputeClaim s).pq = s.pq ∧
    (recomputeClaim s).map = s.map ∧ (recomputeClaim s).seq = s.seq ∧ (recomputeClaim s).motion = s.motion ∧
    (recomputeClaim s).cond = s.cond ∧ (recomputeClaim s).pending = s.pending := by
  unfold recomputeClaim
  split <;> simp

@[simp] theorem followClaim_frame (s : State) :
    (followClaim s).straps = s.straps ∧ (followClaim s).inputs = s.inputs ∧ (followClaim s).now = s.now ∧
    (followClaim s).seed = s.seed ∧ (followClaim s).selfTest = s.selfTest ∧ (followClaim s).roster = s.roster ∧
    (followClaim s).job = s.job ∧ (followClaim s).gen = s.gen ∧ (followClaim s).pacer = s.pacer ∧
    (followClaim s).store = s.store ∧ (followClaim s).pq = s.pq ∧ (followClaim s).map = s.map ∧
    (followClaim s).seq = s.seq ∧ (followClaim s).motion = s.motion ∧ (followClaim s).cond = s.cond ∧
    (followClaim s).pending = s.pending := by
  unfold followClaim
  split <;> simp

@[simp] theorem passCheck_frame (s : State) :
    (passCheck s).straps = s.straps ∧ (passCheck s).inputs = s.inputs ∧ (passCheck s).now = s.now ∧
    (passCheck s).seed = s.seed ∧ (passCheck s).selfTest = s.selfTest ∧ (passCheck s).bus = s.bus ∧
    (passCheck s).roster = s.roster ∧ (passCheck s).job = s.job ∧ (passCheck s).gen = s.gen ∧
    (passCheck s).pacer = s.pacer ∧ (passCheck s).store = s.store ∧ (passCheck s).pq = s.pq ∧
    (passCheck s).map = s.map ∧ (passCheck s).seq = s.seq ∧ (passCheck s).motion = s.motion ∧
    (passCheck s).cond = s.cond ∧ (passCheck s).pending = s.pending := by
  simp [passCheck]

@[simp] theorem enterWait_frame (side : Side) (s : State) :
    (enterWait side s).straps = s.straps ∧ (enterWait side s).inputs = s.inputs ∧ (enterWait side s).now = s.now ∧
    (enterWait side s).seed = s.seed ∧ (enterWait side s).selfTest = s.selfTest ∧
    (enterWait side s).roster = s.roster ∧ (enterWait side s).job = s.job ∧ (enterWait side s).gen = s.gen ∧
    (enterWait side s).pacer = s.pacer ∧ (enterWait side s).store = s.store ∧ (enterWait side s).pq = s.pq ∧
    (enterWait side s).map = s.map ∧ (enterWait side s).seq = s.seq ∧ (enterWait side s).motion = s.motion ∧
    (enterWait side s).cond = s.cond ∧ (enterWait side s).pending = s.pending := by
  simp [enterWait]

@[simp] theorem announceOn_frame (side : Side) (n : Interval) (s : State) :
    (announceOn side n s).straps = s.straps ∧ (announceOn side n s).inputs = s.inputs ∧
    (announceOn side n s).now = s.now ∧ (announceOn side n s).seed = s.seed ∧
    (announceOn side n s).selfTest = s.selfTest ∧ (announceOn side n s).roster = s.roster ∧
    (announceOn side n s).job = s.job ∧ (announceOn side n s).gen = s.gen ∧ (announceOn side n s).pacer = s.pacer ∧
    (announceOn side n s).store = s.store ∧ (announceOn side n s).pq = s.pq ∧ (announceOn side n s).map = s.map ∧
    (announceOn side n s).seq = s.seq ∧ (announceOn side n s).motion = s.motion ∧
    (announceOn side n s).cond = s.cond ∧ (announceOn side n s).pending = s.pending := by
  simp [announceOn]

@[simp] theorem checkBeyond_frame (side : Side) (n : Interval) (s : State) :
    (checkBeyond side n s).straps = s.straps ∧ (checkBeyond side n s).inputs = s.inputs ∧
    (checkBeyond side n s).now = s.now ∧ (checkBeyond side n s).seed = s.seed ∧
    (checkBeyond side n s).selfTest = s.selfTest ∧ (checkBeyond side n s).roster = s.roster ∧
    (checkBeyond side n s).job = s.job ∧ (checkBeyond side n s).gen = s.gen ∧
    (checkBeyond side n s).pacer = s.pacer ∧ (checkBeyond side n s).store = s.store ∧
    (checkBeyond side n s).pq = s.pq ∧ (checkBeyond side n s).map = s.map ∧ (checkBeyond side n s).seq = s.seq ∧
    (checkBeyond side n s).motion = s.motion ∧ (checkBeyond side n s).cond = s.cond ∧
    (checkBeyond side n s).pending = s.pending := by
  unfold checkBeyond
  repeat' split
  all_goals simp

@[simp] theorem runCheck_frame (s : State) :
    (runCheck s).straps = s.straps ∧ (runCheck s).inputs = s.inputs ∧ (runCheck s).now = s.now ∧
    (runCheck s).seed = s.seed ∧ (runCheck s).selfTest = s.selfTest ∧ (runCheck s).roster = s.roster ∧
    (runCheck s).job = s.job ∧ (runCheck s).gen = s.gen ∧ (runCheck s).pacer = s.pacer ∧
    (runCheck s).store = s.store ∧ (runCheck s).pq = s.pq ∧ (runCheck s).map = s.map ∧ (runCheck s).seq = s.seq ∧
    (runCheck s).motion = s.motion ∧ (runCheck s).cond = s.cond ∧ (runCheck s).pending = s.pending := by
  unfold runCheck
  dsimp only
  repeat' split
  all_goals simp

@[simp] theorem beginCheck_frame (sp : Setpoint) (s : State) :
    (beginCheck sp s).straps = s.straps ∧ (beginCheck sp s).inputs = s.inputs ∧ (beginCheck sp s).now = s.now ∧
    (beginCheck sp s).seed = s.seed ∧ (beginCheck sp s).selfTest = s.selfTest ∧ (beginCheck sp s).roster = s.roster ∧
    (beginCheck sp s).job = s.job ∧ (beginCheck sp s).gen = s.gen ∧ (beginCheck sp s).pacer = s.pacer ∧
    (beginCheck sp s).store = s.store ∧ (beginCheck sp s).pq = s.pq ∧ (beginCheck sp s).map = s.map ∧
    (beginCheck sp s).seq = s.seq ∧ (beginCheck sp s).motion = s.motion ∧ (beginCheck sp s).cond = s.cond ∧
    (beginCheck sp s).pending = s.pending := by
  simp [beginCheck]

@[simp] theorem recheck_frame (s : State) :
    (recheck s).straps = s.straps ∧ (recheck s).inputs = s.inputs ∧ (recheck s).now = s.now ∧
    (recheck s).seed = s.seed ∧ (recheck s).selfTest = s.selfTest ∧ (recheck s).roster = s.roster ∧
    (recheck s).job = s.job ∧ (recheck s).gen = s.gen ∧ (recheck s).pacer = s.pacer ∧ (recheck s).store = s.store ∧
    (recheck s).pq = s.pq ∧ (recheck s).map = s.map ∧ (recheck s).seq = s.seq ∧ (recheck s).motion = s.motion ∧
    (recheck s).cond = s.cond ∧ (recheck s).pending = s.pending := by
  unfold recheck
  split <;> simp

@[simp] theorem recheckIfMoved_frame (before : Interval) (s : State) :
    (recheckIfMoved before s).straps = s.straps ∧ (recheckIfMoved before s).inputs = s.inputs ∧
    (recheckIfMoved before s).now = s.now ∧ (recheckIfMoved before s).seed = s.seed ∧
    (recheckIfMoved before s).selfTest = s.selfTest ∧ (recheckIfMoved before s).roster = s.roster ∧
    (recheckIfMoved before s).job = s.job ∧ (recheckIfMoved before s).gen = s.gen ∧
    (recheckIfMoved before s).pacer = s.pacer ∧ (recheckIfMoved before s).store = s.store ∧
    (recheckIfMoved before s).pq = s.pq ∧ (recheckIfMoved before s).map = s.map ∧
    (recheckIfMoved before s).seq = s.seq ∧ (recheckIfMoved before s).motion = s.motion ∧
    (recheckIfMoved before s).cond = s.cond ∧ (recheckIfMoved before s).pending = s.pending := by
  unfold recheckIfMoved
  split <;> simp

@[simp] theorem shrinkClaim_frame (s : State) :
    (shrinkClaim s).straps = s.straps ∧ (shrinkClaim s).inputs = s.inputs ∧ (shrinkClaim s).now = s.now ∧
    (shrinkClaim s).seed = s.seed ∧ (shrinkClaim s).selfTest = s.selfTest ∧ (shrinkClaim s).roster = s.roster ∧
    (shrinkClaim s).job = s.job ∧ (shrinkClaim s).gen = s.gen ∧ (shrinkClaim s).pacer = s.pacer ∧
    (shrinkClaim s).store = s.store ∧ (shrinkClaim s).pq = s.pq ∧ (shrinkClaim s).map = s.map ∧
    (shrinkClaim s).seq = s.seq ∧ (shrinkClaim s).motion = s.motion ∧ (shrinkClaim s).cond = s.cond ∧
    (shrinkClaim s).pending = s.pending := by
  simp [shrinkClaim]

@[simp] theorem takeOnClearReply_frame (s : State) :
    (takeOnClearReply s).straps = s.straps ∧ (takeOnClearReply s).inputs = s.inputs ∧
    (takeOnClearReply s).now = s.now ∧ (takeOnClearReply s).seed = s.seed ∧
    (takeOnClearReply s).selfTest = s.selfTest ∧ (takeOnClearReply s).roster = s.roster ∧
    (takeOnClearReply s).job = s.job ∧ (takeOnClearReply s).gen = s.gen ∧ (takeOnClearReply s).pacer = s.pacer ∧
    (takeOnClearReply s).store = s.store ∧ (takeOnClearReply s).pq = s.pq ∧ (takeOnClearReply s).map = s.map ∧
    (takeOnClearReply s).seq = s.seq ∧ (takeOnClearReply s).motion = s.motion ∧ (takeOnClearReply s).cond = s.cond ∧
    (takeOnClearReply s).pending = s.pending := by
  unfold takeOnClearReply
  repeat' split
  all_goals simp

@[simp] theorem settleOnReach_frame (v : Seen) (s : State) :
    (settleOnReach v s).straps = s.straps ∧ (settleOnReach v s).inputs = s.inputs ∧ (settleOnReach v s).now = s.now ∧
    (settleOnReach v s).seed = s.seed ∧ (settleOnReach v s).selfTest = s.selfTest ∧
    (settleOnReach v s).roster = s.roster ∧ (settleOnReach v s).job = s.job ∧ (settleOnReach v s).gen = s.gen ∧
    (settleOnReach v s).pacer = s.pacer ∧ (settleOnReach v s).store = s.store ∧ (settleOnReach v s).pq = s.pq ∧
    (settleOnReach v s).map = s.map ∧ (settleOnReach v s).seq = s.seq ∧ (settleOnReach v s).motion = s.motion ∧
    (settleOnReach v s).cond = s.cond ∧ (settleOnReach v s).pending = s.pending := by
  unfold settleOnReach
  dsimp only
  repeat' split
  all_goals simp

@[simp] theorem abandonCheck_frame (s : State) :
    (abandonCheck s).straps = s.straps ∧ (abandonCheck s).inputs = s.inputs ∧ (abandonCheck s).now = s.now ∧
    (abandonCheck s).seed = s.seed ∧ (abandonCheck s).selfTest = s.selfTest ∧ (abandonCheck s).roster = s.roster ∧
    (abandonCheck s).job = s.job ∧ (abandonCheck s).gen = s.gen ∧ (abandonCheck s).pacer = s.pacer ∧
    (abandonCheck s).store = s.store ∧ (abandonCheck s).pq = s.pq ∧ (abandonCheck s).map = s.map ∧
    (abandonCheck s).seq = s.seq ∧ (abandonCheck s).motion = s.motion ∧ (abandonCheck s).cond = s.cond ∧
    (abandonCheck s).pending = s.pending := by
  unfold abandonCheck
  split <;> simp

@[simp] theorem testBreach_frame (side : Side) (s : State) :
    (testBreach side s).straps = s.straps ∧ (testBreach side s).inputs = s.inputs ∧ (testBreach side s).now = s.now ∧
    (testBreach side s).seed = s.seed ∧ (testBreach side s).selfTest = s.selfTest ∧
    (testBreach side s).roster = s.roster ∧ (testBreach side s).job = s.job ∧ (testBreach side s).gen = s.gen ∧
    (testBreach side s).pacer = s.pacer ∧ (testBreach side s).store = s.store ∧ (testBreach side s).pq = s.pq ∧
    (testBreach side s).map = s.map ∧ (testBreach side s).seq = s.seq ∧ (testBreach side s).motion = s.motion ∧
    (testBreach side s).pending = s.pending := by
  unfold testBreach
  repeat' split
  all_goals simp

@[simp] theorem resetView_frame (side : Side) (station : Option Nat) (s : State) :
    (resetView side station s).straps = s.straps ∧ (resetView side station s).inputs = s.inputs ∧
    (resetView side station s).now = s.now ∧ (resetView side station s).seed = s.seed ∧
    (resetView side station s).selfTest = s.selfTest ∧ (resetView side station s).bus = s.bus ∧
    (resetView side station s).roster = s.roster ∧ (resetView side station s).job = s.job ∧
    (resetView side station s).gen = s.gen ∧ (resetView side station s).pacer = s.pacer ∧
    (resetView side station s).store = s.store ∧ (resetView side station s).pq = s.pq ∧
    (resetView side station s).map = s.map ∧ (resetView side station s).seq = s.seq ∧
    (resetView side station s).motion = s.motion ∧ (resetView side station s).cond = s.cond ∧
    (resetView side station s).pending = s.pending := by
  simp [resetView]

@[simp] theorem joinNoticeOn_frame (side : Side) (joined : Nat) (s : State) :
    (joinNoticeOn side joined s).straps = s.straps ∧ (joinNoticeOn side joined s).inputs = s.inputs ∧
    (joinNoticeOn side joined s).now = s.now ∧ (joinNoticeOn side joined s).seed = s.seed ∧
    (joinNoticeOn side joined s).selfTest = s.selfTest ∧ (joinNoticeOn side joined s).roster = s.roster ∧
    (joinNoticeOn side joined s).job = s.job ∧ (joinNoticeOn side joined s).gen = s.gen ∧
    (joinNoticeOn side joined s).pacer = s.pacer ∧ (joinNoticeOn side joined s).store = s.store ∧
    (joinNoticeOn side joined s).pq = s.pq ∧ (joinNoticeOn side joined s).map = s.map ∧
    (joinNoticeOn side joined s).seq = s.seq ∧ (joinNoticeOn side joined s).motion = s.motion ∧
    (joinNoticeOn side joined s).cond = s.cond ∧ (joinNoticeOn side joined s).pending = s.pending := by
  unfold joinNoticeOn
  dsimp only
  repeat' split
  all_goals simp

@[simp] theorem joinNotice_frame (joined : Nat) (s : State) :
    (joinNotice joined s).straps = s.straps ∧ (joinNotice joined s).inputs = s.inputs ∧
    (joinNotice joined s).now = s.now ∧ (joinNotice joined s).seed = s.seed ∧
    (joinNotice joined s).selfTest = s.selfTest ∧ (joinNotice joined s).roster = s.roster ∧
    (joinNotice joined s).job = s.job ∧ (joinNotice joined s).gen = s.gen ∧ (joinNotice joined s).pacer = s.pacer ∧
    (joinNotice joined s).store = s.store ∧ (joinNotice joined s).pq = s.pq ∧ (joinNotice joined s).map = s.map ∧
    (joinNotice joined s).seq = s.seq ∧ (joinNotice joined s).motion = s.motion ∧
    (joinNotice joined s).cond = s.cond ∧ (joinNotice joined s).pending = s.pending := by
  simp [joinNotice]

@[simp] theorem lookUpNeighbours_frame (s : State) :
    (lookUpNeighbours s).straps = s.straps ∧ (lookUpNeighbours s).inputs = s.inputs ∧
    (lookUpNeighbours s).now = s.now ∧ (lookUpNeighbours s).seed = s.seed ∧
    (lookUpNeighbours s).selfTest = s.selfTest ∧ (lookUpNeighbours s).bus = s.bus ∧
    (lookUpNeighbours s).roster = s.roster ∧ (lookUpNeighbours s).job = s.job ∧ (lookUpNeighbours s).gen = s.gen ∧
    (lookUpNeighbours s).pacer = s.pacer ∧ (lookUpNeighbours s).store = s.store ∧ (lookUpNeighbours s).pq = s.pq ∧
    (lookUpNeighbours s).map = s.map ∧ (lookUpNeighbours s).seq = s.seq ∧ (lookUpNeighbours s).motion = s.motion ∧
    (lookUpNeighbours s).cond = s.cond ∧ (lookUpNeighbours s).pending = s.pending := by
  simp [lookUpNeighbours]

/-! ## The Motion Port -/

@[simp] theorem countMarks_frame (m : Marks) (s : State) :
    (countMarks m s).straps = s.straps ∧ (countMarks m s).inputs = s.inputs ∧ (countMarks m s).now = s.now ∧
    (countMarks m s).seed = s.seed ∧ (countMarks m s).selfTest = s.selfTest ∧ (countMarks m s).roster = s.roster ∧
    (countMarks m s).job = s.job ∧ (countMarks m s).gen = s.gen ∧ (countMarks m s).pacer = s.pacer ∧
    (countMarks m s).store = s.store ∧ (countMarks m s).pq = s.pq ∧ (countMarks m s).map = s.map ∧
    (countMarks m s).seq = s.seq ∧ (countMarks m s).motion = s.motion ∧ (countMarks m s).guard = s.guard ∧
    (countMarks m s).pending = s.pending := by
  simp [countMarks]

@[simp] theorem markGap_frame (sp : Setpoint) (behind : List Entry) (s : State) :
    (markGap sp behind s).straps = s.straps ∧ (markGap sp behind s).inputs = s.inputs ∧
    (markGap sp behind s).now = s.now ∧ (markGap sp behind s).seed = s.seed ∧
    (markGap sp behind s).selfTest = s.selfTest ∧ (markGap sp behind s).bus = s.bus ∧
    (markGap sp behind s).roster = s.roster ∧ (markGap sp behind s).job = s.job ∧ (markGap sp behind s).gen = s.gen ∧
    (markGap sp behind s).pacer = s.pacer ∧ (markGap sp behind s).store = s.store ∧ (markGap sp behind s).pq = s.pq ∧
    (markGap sp behind s).seq = s.seq ∧ (markGap sp behind s).motion = s.motion ∧
    (markGap sp behind s).guard = s.guard ∧ (markGap sp behind s).cond = s.cond ∧
    (markGap sp behind s).pending = s.pending := by
  unfold markGap
  split <;> simp

@[simp] theorem issueEntry_frame (tag : Byte) (sp : Setpoint) (s : State) :
    (issueEntry tag sp s).straps = s.straps ∧ (issueEntry tag sp s).inputs = s.inputs ∧
    (issueEntry tag sp s).now = s.now ∧ (issueEntry tag sp s).seed = s.seed ∧
    (issueEntry tag sp s).selfTest = s.selfTest ∧ (issueEntry tag sp s).roster = s.roster ∧
    (issueEntry tag sp s).job = s.job ∧ (issueEntry tag sp s).gen = s.gen ∧ (issueEntry tag sp s).pacer = s.pacer ∧
    (issueEntry tag sp s).store = s.store ∧ (issueEntry tag sp s).seq = s.seq ∧
    (issueEntry tag sp s).motion = s.motion ∧ (issueEntry tag sp s).guard = s.guard ∧
    (issueEntry tag sp s).pending = s.pending := by
  unfold issueEntry
  repeat' split
  all_goals simp

@[simp] theorem issue_frame (sp : Setpoint) (s : State) :
    (issue sp s).straps = s.straps ∧ (issue sp s).inputs = s.inputs ∧ (issue sp s).now = s.now ∧
    (issue sp s).seed = s.seed ∧ (issue sp s).selfTest = s.selfTest ∧ (issue sp s).roster = s.roster ∧
    (issue sp s).job = s.job ∧ (issue sp s).gen = s.gen ∧ (issue sp s).pacer = s.pacer ∧
    (issue sp s).store = s.store ∧ (issue sp s).seq = s.seq ∧ (issue sp s).pending = s.pending := by
  unfold issue
  split <;> simp

@[simp] theorem issuePassed_frame (s : State) :
    (issuePassed s).straps = s.straps ∧ (issuePassed s).inputs = s.inputs ∧ (issuePassed s).now = s.now ∧
    (issuePassed s).seed = s.seed ∧ (issuePassed s).selfTest = s.selfTest ∧ (issuePassed s).roster = s.roster ∧
    (issuePassed s).job = s.job ∧ (issuePassed s).gen = s.gen ∧ (issuePassed s).pacer = s.pacer ∧
    (issuePassed s).store = s.store ∧ (issuePassed s).seq = s.seq ∧ (issuePassed s).pending = s.pending := by
  unfold issuePassed
  repeat' split
  all_goals simp

@[simp] theorem checkAndIssue_frame (sp : Setpoint) (s : State) :
    (checkAndIssue sp s).straps = s.straps ∧ (checkAndIssue sp s).inputs = s.inputs ∧
    (checkAndIssue sp s).now = s.now ∧ (checkAndIssue sp s).seed = s.seed ∧
    (checkAndIssue sp s).selfTest = s.selfTest ∧ (checkAndIssue sp s).roster = s.roster ∧
    (checkAndIssue sp s).job = s.job ∧ (checkAndIssue sp s).gen = s.gen ∧ (checkAndIssue sp s).pacer = s.pacer ∧
    (checkAndIssue sp s).store = s.store ∧ (checkAndIssue sp s).seq = s.seq ∧
    (checkAndIssue sp s).pending = s.pending := by
  simp [checkAndIssue]

@[simp] theorem endDrain_frame (s : State) :
    (endDrain s).straps = s.straps ∧ (endDrain s).inputs = s.inputs ∧ (endDrain s).now = s.now ∧
    (endDrain s).seed = s.seed ∧ (endDrain s).selfTest = s.selfTest ∧ (endDrain s).roster = s.roster ∧
    (endDrain s).gen = s.gen ∧ (endDrain s).pacer = s.pacer ∧ (endDrain s).store = s.store ∧
    (endDrain s).map = s.map ∧ (endDrain s).seq = s.seq ∧ (endDrain s).guard = s.guard ∧ (endDrain s).cond = s.cond ∧
    (endDrain s).pending = s.pending := by
  unfold endDrain
  split <;> simp

@[simp] theorem closingDone_frame (c : ClosingLift) (s : State) :
    (closingDone c s).straps = s.straps ∧ (closingDone c s).inputs = s.inputs ∧ (closingDone c s).now = s.now ∧
    (closingDone c s).seed = s.seed ∧ (closingDone c s).selfTest = s.selfTest ∧ (closingDone c s).roster = s.roster ∧
    (closingDone c s).gen = s.gen ∧ (closingDone c s).pacer = s.pacer ∧ (closingDone c s).store = s.store ∧
    (closingDone c s).map = s.map ∧ (closingDone c s).seq = s.seq ∧ (closingDone c s).guard = s.guard ∧
    (closingDone c s).cond = s.cond ∧ (closingDone c s).pending = s.pending := by
  unfold closingDone
  split <;> simp

@[simp] theorem closingDue_frame (c : ClosingLift) (s : State) :
    (closingDue c s).straps = s.straps ∧ (closingDue c s).inputs = s.inputs ∧ (closingDue c s).now = s.now ∧
    (closingDue c s).seed = s.seed ∧ (closingDue c s).selfTest = s.selfTest ∧ (closingDue c s).bus = s.bus ∧
    (closingDue c s).roster = s.roster ∧ (closingDue c s).job = s.job ∧ (closingDue c s).gen = s.gen ∧
    (closingDue c s).pacer = s.pacer ∧ (closingDue c s).store = s.store ∧ (closingDue c s).pq = s.pq ∧
    (closingDue c s).map = s.map ∧ (closingDue c s).seq = s.seq ∧ (closingDue c s).guard = s.guard ∧
    (closingDue c s).cond = s.cond ∧ (closingDue c s).pending = s.pending := by
  simp [closingDue]

@[simp] theorem pumpClosing_frame (s : State) :
    (pumpClosing s).straps = s.straps ∧ (pumpClosing s).inputs = s.inputs ∧ (pumpClosing s).now = s.now ∧
    (pumpClosing s).seed = s.seed ∧ (pumpClosing s).selfTest = s.selfTest ∧ (pumpClosing s).roster = s.roster ∧
    (pumpClosing s).gen = s.gen ∧ (pumpClosing s).pacer = s.pacer ∧ (pumpClosing s).store = s.store ∧
    (pumpClosing s).seq = s.seq ∧ (pumpClosing s).pending = s.pending := by
  unfold pumpClosing
  repeat' split
  all_goals simp

@[simp] theorem pumpPortLift_frame (s : State) :
    (pumpPortLift s).straps = s.straps ∧ (pumpPortLift s).inputs = s.inputs ∧ (pumpPortLift s).now = s.now ∧
    (pumpPortLift s).seed = s.seed ∧ (pumpPortLift s).selfTest = s.selfTest ∧ (pumpPortLift s).roster = s.roster ∧
    (pumpPortLift s).job = s.job ∧ (pumpPortLift s).gen = s.gen ∧ (pumpPortLift s).pacer = s.pacer ∧
    (pumpPortLift s).store = s.store ∧ (pumpPortLift s).seq = s.seq ∧ (pumpPortLift s).pending = s.pending := by
  unfold pumpPortLift
  repeat' split
  all_goals simp

@[simp] theorem pumpLifts_frame (s : State) :
    (pumpLifts s).straps = s.straps ∧ (pumpLifts s).inputs = s.inputs ∧ (pumpLifts s).now = s.now ∧
    (pumpLifts s).seed = s.seed ∧ (pumpLifts s).selfTest = s.selfTest ∧ (pumpLifts s).roster = s.roster ∧
    (pumpLifts s).gen = s.gen ∧ (pumpLifts s).pacer = s.pacer ∧ (pumpLifts s).store = s.store ∧
    (pumpLifts s).seq = s.seq ∧ (pumpLifts s).pending = s.pending := by
  simp [pumpLifts]

@[simp] theorem pumpMoves_frame (s : State) :
    (pumpMoves s).straps = s.straps ∧ (pumpMoves s).inputs = s.inputs ∧ (pumpMoves s).now = s.now ∧
    (pumpMoves s).seed = s.seed ∧ (pumpMoves s).selfTest = s.selfTest ∧ (pumpMoves s).roster = s.roster ∧
    (pumpMoves s).job = s.job ∧ (pumpMoves s).gen = s.gen ∧ (pumpMoves s).pacer = s.pacer ∧
    (pumpMoves s).store = s.store ∧ (pumpMoves s).pq = s.pq ∧ (pumpMoves s).map = s.map ∧ (pumpMoves s).seq = s.seq ∧
    (pumpMoves s).cond = s.cond ∧ (pumpMoves s).pending = s.pending := by
  unfold pumpMoves
  repeat' split
  all_goals simp

@[simp] theorem commandMove_frame (sp : Setpoint) (s : State) :
    (commandMove sp s).straps = s.straps ∧ (commandMove sp s).inputs = s.inputs ∧ (commandMove sp s).now = s.now ∧
    (commandMove sp s).seed = s.seed ∧ (commandMove sp s).selfTest = s.selfTest ∧
    (commandMove sp s).roster = s.roster ∧ (commandMove sp s).job = s.job ∧ (commandMove sp s).gen = s.gen ∧
    (commandMove sp s).pacer = s.pacer ∧ (commandMove sp s).store = s.store ∧ (commandMove sp s).pq = s.pq ∧
    (commandMove sp s).map = s.map ∧ (commandMove sp s).seq = s.seq ∧ (commandMove sp s).cond = s.cond ∧
    (commandMove sp s).pending = s.pending := by
  simp [commandMove]

@[simp] theorem pumpPort_frame (s : State) :
    (pumpPort s).straps = s.straps ∧ (pumpPort s).inputs = s.inputs ∧ (pumpPort s).now = s.now ∧
    (pumpPort s).seed = s.seed ∧ (pumpPort s).selfTest = s.selfTest ∧ (pumpPort s).roster = s.roster ∧
    (pumpPort s).gen = s.gen ∧ (pumpPort s).pacer = s.pacer ∧ (pumpPort s).store = s.store ∧
    (pumpPort s).seq = s.seq ∧ (pumpPort s).pending = s.pending := by
  simp [pumpPort]

@[simp] theorem driveFault_frame (code : Byte) (s : State) :
    (driveFault code s).straps = s.straps ∧ (driveFault code s).inputs = s.inputs ∧ (driveFault code s).now = s.now ∧
    (driveFault code s).seed = s.seed ∧ (driveFault code s).selfTest = s.selfTest ∧
    (driveFault code s).roster = s.roster ∧ (driveFault code s).job = s.job ∧ (driveFault code s).gen = s.gen ∧
    (driveFault code s).pacer = s.pacer ∧ (driveFault code s).store = s.store ∧ (driveFault code s).pq = s.pq ∧
    (driveFault code s).map = s.map ∧ (driveFault code s).seq = s.seq ∧ (driveFault code s).guard = s.guard ∧
    (driveFault code s).pending = s.pending := by
  unfold driveFault
  dsimp only
  repeat' split
  all_goals simp

/-! ## Contention and replies -/

@[simp] theorem noteAttempt_frame (k : Kind) (s : State) :
    (noteAttempt k s).straps = s.straps ∧ (noteAttempt k s).inputs = s.inputs ∧ (noteAttempt k s).now = s.now ∧
    (noteAttempt k s).seed = s.seed ∧ (noteAttempt k s).selfTest = s.selfTest ∧ (noteAttempt k s).bus = s.bus ∧
    (noteAttempt k s).roster = s.roster ∧ (noteAttempt k s).job = s.job ∧ (noteAttempt k s).gen = s.gen ∧
    (noteAttempt k s).pacer = s.pacer ∧ (noteAttempt k s).store = s.store ∧ (noteAttempt k s).pq = s.pq ∧
    (noteAttempt k s).map = s.map ∧ (noteAttempt k s).seq = s.seq ∧ (noteAttempt k s).motion = s.motion ∧
    (noteAttempt k s).pending = s.pending := by
  unfold noteAttempt
  split <;> simp

@[simp] theorem startAttempt_frame (f : TxFrame) (rest : List TxFrame) (s : State) :
    (startAttempt f rest s).straps = s.straps ∧ (startAttempt f rest s).inputs = s.inputs ∧
    (startAttempt f rest s).now = s.now ∧ (startAttempt f rest s).selfTest = s.selfTest ∧
    (startAttempt f rest s).roster = s.roster ∧ (startAttempt f rest s).job = s.job ∧
    (startAttempt f rest s).gen = s.gen ∧ (startAttempt f rest s).pacer = s.pacer ∧
    (startAttempt f rest s).store = s.store ∧ (startAttempt f rest s).pq = s.pq ∧
    (startAttempt f rest s).map = s.map ∧ (startAttempt f rest s).seq = s.seq ∧
    (startAttempt f rest s).motion = s.motion ∧ (startAttempt f rest s).pending = s.pending := by
  simp [startAttempt]

@[simp] theorem contend_frame (s : State) :
    (contend s).straps = s.straps ∧ (contend s).inputs = s.inputs ∧ (contend s).now = s.now ∧
    (contend s).selfTest = s.selfTest ∧ (contend s).roster = s.roster ∧ (contend s).job = s.job ∧
    (contend s).gen = s.gen ∧ (contend s).pacer = s.pacer ∧ (contend s).store = s.store ∧ (contend s).pq = s.pq ∧
    (contend s).map = s.map ∧ (contend s).seq = s.seq ∧ (contend s).motion = s.motion ∧
    (contend s).pending = s.pending := by
  unfold contend
  repeat' split
  all_goals simp

@[simp] theorem offerReply_frame (dest : Nat) (payload : List Byte) (s : State) :
    (offerReply dest payload s).straps = s.straps ∧ (offerReply dest payload s).inputs = s.inputs ∧
    (offerReply dest payload s).now = s.now ∧ (offerReply dest payload s).seed = s.seed ∧
    (offerReply dest payload s).selfTest = s.selfTest ∧ (offerReply dest payload s).roster = s.roster ∧
    (offerReply dest payload s).job = s.job ∧ (offerReply dest payload s).gen = s.gen ∧
    (offerReply dest payload s).pacer = s.pacer ∧ (offerReply dest payload s).store = s.store ∧
    (offerReply dest payload s).pq = s.pq ∧ (offerReply dest payload s).map = s.map ∧
    (offerReply dest payload s).seq = s.seq ∧ (offerReply dest payload s).motion = s.motion ∧
    (offerReply dest payload s).guard = s.guard ∧ (offerReply dest payload s).pending = s.pending := by
  unfold offerReply
  split <;> simp

@[simp] theorem answerQuery_frame (src : Nat) (query : List Byte) (s : State) :
    (answerQuery src query s).straps = s.straps ∧ (answerQuery src query s).inputs = s.inputs ∧
    (answerQuery src query s).now = s.now ∧ (answerQuery src query s).selfTest = s.selfTest ∧
    (answerQuery src query s).roster = s.roster ∧ (answerQuery src query s).job = s.job ∧
    (answerQuery src query s).gen = s.gen ∧ (answerQuery src query s).pacer = s.pacer ∧
    (answerQuery src query s).store = s.store ∧ (answerQuery src query s).pq = s.pq ∧
    (answerQuery src query s).seq = s.seq ∧ (answerQuery src query s).motion = s.motion ∧
    (answerQuery src query s).guard = s.guard ∧ (answerQuery src query s).pending = s.pending := by
  simp [answerQuery]

end Sys2Proof.Machine
end

