-- ==== Sys2Proof/Laws/FrameRoles.lean ====
section
/-! SUPPORT. Frame lemmas, one per operation: the blocks of State that it leaves as they are. This file: the tracer's and the carver's blocks, STARTING, the wire and the Job Store. -/

namespace Sys2Proof.Machine

open Sys2Proof

/-! ## The tracer's blocks -/

@[simp] theorem build_frame (b : Built) (s : State) :
    (build b s).straps = s.straps ∧ (build b s).inputs = s.inputs ∧ (build b s).now = s.now ∧
    (build b s).seed = s.seed ∧ (build b s).selfTest = s.selfTest ∧ (build b s).bus = s.bus ∧
    (build b s).roster = s.roster ∧ (build b s).job = s.job ∧ (build b s).pacer = s.pacer ∧
    (build b s).store = s.store ∧ (build b s).pq = s.pq ∧ (build b s).map = s.map ∧ (build b s).seq = s.seq ∧
    (build b s).motion = s.motion ∧ (build b s).guard = s.guard ∧ (build b s).cond = s.cond ∧
    (build b s).pending = s.pending := by
  simp [build]

@[simp] theorem buildLift_frame (t : TracerJob) (p : Point) (s : State) :
    (buildLift t p s).straps = s.straps ∧ (buildLift t p s).inputs = s.inputs ∧ (buildLift t p s).now = s.now ∧
    (buildLift t p s).seed = s.seed ∧ (buildLift t p s).selfTest = s.selfTest ∧ (buildLift t p s).bus = s.bus ∧
    (buildLift t p s).roster = s.roster ∧ (buildLift t p s).job = s.job ∧ (buildLift t p s).pacer = s.pacer ∧
    (buildLift t p s).store = s.store ∧ (buildLift t p s).pq = s.pq ∧ (buildLift t p s).map = s.map ∧
    (buildLift t p s).seq = s.seq ∧ (buildLift t p s).motion = s.motion ∧ (buildLift t p s).guard = s.guard ∧
    (buildLift t p s).cond = s.cond ∧ (buildLift t p s).pending = s.pending := by
  simp [buildLift]

@[simp] theorem buildPassEnd_frame (s : State) :
    (buildPassEnd s).straps = s.straps ∧ (buildPassEnd s).inputs = s.inputs ∧ (buildPassEnd s).now = s.now ∧
    (buildPassEnd s).seed = s.seed ∧ (buildPassEnd s).selfTest = s.selfTest ∧ (buildPassEnd s).bus = s.bus ∧
    (buildPassEnd s).roster = s.roster ∧ (buildPassEnd s).job = s.job ∧ (buildPassEnd s).pacer = s.pacer ∧
    (buildPassEnd s).store = s.store ∧ (buildPassEnd s).pq = s.pq ∧ (buildPassEnd s).map = s.map ∧
    (buildPassEnd s).seq = s.seq ∧ (buildPassEnd s).motion = s.motion ∧ (buildPassEnd s).guard = s.guard ∧
    (buildPassEnd s).cond = s.cond ∧ (buildPassEnd s).pending = s.pending := by
  simp [buildPassEnd]

@[simp] theorem beginFace_frame (t : TracerJob) (k : Nat) (s : State) :
    (beginFace t k s).straps = s.straps ∧ (beginFace t k s).inputs = s.inputs ∧ (beginFace t k s).now = s.now ∧
    (beginFace t k s).seed = s.seed ∧ (beginFace t k s).selfTest = s.selfTest ∧ (beginFace t k s).bus = s.bus ∧
    (beginFace t k s).roster = s.roster ∧ (beginFace t k s).job = s.job ∧ (beginFace t k s).pacer = s.pacer ∧
    (beginFace t k s).store = s.store ∧ (beginFace t k s).pq = s.pq ∧ (beginFace t k s).map = s.map ∧
    (beginFace t k s).seq = s.seq ∧ (beginFace t k s).motion = s.motion ∧ (beginFace t k s).guard = s.guard ∧
    (beginFace t k s).cond = s.cond ∧ (beginFace t k s).pending = s.pending := by
  simp [beginFace]

@[simp] theorem takeSample_frame (r : JobRecord) (t : TracerJob) (probe : Option Probe) (s : State) :
    (takeSample r t probe s).straps = s.straps ∧ (takeSample r t probe s).inputs = s.inputs ∧
    (takeSample r t probe s).now = s.now ∧ (takeSample r t probe s).seed = s.seed ∧
    (takeSample r t probe s).selfTest = s.selfTest ∧ (takeSample r t probe s).roster = s.roster ∧
    (takeSample r t probe s).job = s.job ∧ (takeSample r t probe s).pacer = s.pacer ∧
    (takeSample r t probe s).store = s.store ∧ (takeSample r t probe s).pq = s.pq ∧
    (takeSample r t probe s).map = s.map ∧ (takeSample r t probe s).seq = s.seq ∧
    (takeSample r t probe s).motion = s.motion ∧ (takeSample r t probe s).guard = s.guard ∧
    (takeSample r t probe s).pending = s.pending := by
  unfold takeSample
  dsimp only
  repeat' split
  all_goals simp

@[simp] theorem nextPoint_frame (r : JobRecord) (t : TracerJob) (s : State) :
    (nextPoint r t s).straps = s.straps ∧ (nextPoint r t s).inputs = s.inputs ∧ (nextPoint r t s).now = s.now ∧
    (nextPoint r t s).seed = s.seed ∧ (nextPoint r t s).selfTest = s.selfTest ∧ (nextPoint r t s).roster = s.roster ∧
    (nextPoint r t s).job = s.job ∧ (nextPoint r t s).pacer = s.pacer ∧ (nextPoint r t s).store = s.store ∧
    (nextPoint r t s).pq = s.pq ∧ (nextPoint r t s).map = s.map ∧ (nextPoint r t s).seq = s.seq ∧
    (nextPoint r t s).pending = s.pending := by
  unfold nextPoint
  dsimp only
  repeat' split
  all_goals simp

@[simp] theorem noteReport_frame (r : ProbeReport) (s : State) :
    (noteReport r s).straps = s.straps ∧ (noteReport r s).inputs = s.inputs ∧ (noteReport r s).now = s.now ∧
    (noteReport r s).seed = s.seed ∧ (noteReport r s).selfTest = s.selfTest ∧ (noteReport r s).bus = s.bus ∧
    (noteReport r s).roster = s.roster ∧ (noteReport r s).job = s.job ∧ (noteReport r s).pacer = s.pacer ∧
    (noteReport r s).store = s.store ∧ (noteReport r s).pq = s.pq ∧ (noteReport r s).map = s.map ∧
    (noteReport r s).seq = s.seq ∧ (noteReport r s).motion = s.motion ∧ (noteReport r s).guard = s.guard ∧
    (noteReport r s).cond = s.cond ∧ (noteReport r s).pending = s.pending := by
  simp [noteReport]

@[simp] theorem buildStroke_frame (t : TracerJob) (r : ProbeReport) (s : State) :
    (buildStroke t r s).straps = s.straps ∧ (buildStroke t r s).inputs = s.inputs ∧ (buildStroke t r s).now = s.now ∧
    (buildStroke t r s).seed = s.seed ∧ (buildStroke t r s).selfTest = s.selfTest ∧ (buildStroke t r s).bus = s.bus ∧
    (buildStroke t r s).roster = s.roster ∧ (buildStroke t r s).job = s.job ∧ (buildStroke t r s).pacer = s.pacer ∧
    (buildStroke t r s).store = s.store ∧ (buildStroke t r s).pq = s.pq ∧ (buildStroke t r s).map = s.map ∧
    (buildStroke t r s).seq = s.seq ∧ (buildStroke t r s).motion = s.motion ∧ (buildStroke t r s).guard = s.guard ∧
    (buildStroke t r s).cond = s.cond ∧ (buildStroke t r s).pending = s.pending := by
  simp [buildStroke]

@[simp] theorem followReport_frame (t : TracerJob) (r : ProbeReport) (s : State) :
    (followReport t r s).straps = s.straps ∧ (followReport t r s).inputs = s.inputs ∧
    (followReport t r s).now = s.now ∧ (followReport t r s).seed = s.seed ∧
    (followReport t r s).selfTest = s.selfTest ∧ (followReport t r s).bus = s.bus ∧
    (followReport t r s).roster = s.roster ∧ (followReport t r s).job = s.job ∧
    (followReport t r s).pacer = s.pacer ∧ (followReport t r s).store = s.store ∧ (followReport t r s).pq = s.pq ∧
    (followReport t r s).map = s.map ∧ (followReport t r s).seq = s.seq ∧ (followReport t r s).motion = s.motion ∧
    (followReport t r s).guard = s.guard ∧ (followReport t r s).cond = s.cond ∧
    (followReport t r s).pending = s.pending := by
  unfold followReport
  dsimp only
  repeat' split
  all_goals simp

@[simp] theorem holdReport_frame (t : TracerJob) (r : ProbeReport) (s : State) :
    (holdReport t r s).straps = s.straps ∧ (holdReport t r s).inputs = s.inputs ∧ (holdReport t r s).now = s.now ∧
    (holdReport t r s).seed = s.seed ∧ (holdReport t r s).selfTest = s.selfTest ∧ (holdReport t r s).bus = s.bus ∧
    (holdReport t r s).roster = s.roster ∧ (holdReport t r s).job = s.job ∧ (holdReport t r s).pacer = s.pacer ∧
    (holdReport t r s).store = s.store ∧ (holdReport t r s).pq = s.pq ∧ (holdReport t r s).map = s.map ∧
    (holdReport t r s).seq = s.seq ∧ (holdReport t r s).motion = s.motion ∧ (holdReport t r s).guard = s.guard ∧
    (holdReport t r s).cond = s.cond ∧ (holdReport t r s).pending = s.pending := by
  unfold holdReport
  repeat' split
  all_goals simp

@[simp] theorem endFollowPass_frame (t : TracerJob) (s : State) :
    (endFollowPass t s).straps = s.straps ∧ (endFollowPass t s).inputs = s.inputs ∧ (endFollowPass t s).now = s.now ∧
    (endFollowPass t s).seed = s.seed ∧ (endFollowPass t s).selfTest = s.selfTest ∧ (endFollowPass t s).bus = s.bus ∧
    (endFollowPass t s).roster = s.roster ∧ (endFollowPass t s).job = s.job ∧ (endFollowPass t s).pacer = s.pacer ∧
    (endFollowPass t s).store = s.store ∧ (endFollowPass t s).pq = s.pq ∧ (endFollowPass t s).map = s.map ∧
    (endFollowPass t s).seq = s.seq ∧ (endFollowPass t s).motion = s.motion ∧ (endFollowPass t s).guard = s.guard ∧
    (endFollowPass t s).cond = s.cond ∧ (endFollowPass t s).pending = s.pending := by
  unfold endFollowPass
  split <;> simp

@[simp] theorem holdLift_frame (t : TracerJob) (s : State) :
    (holdLift t s).straps = s.straps ∧ (holdLift t s).inputs = s.inputs ∧ (holdLift t s).now = s.now ∧
    (holdLift t s).seed = s.seed ∧ (holdLift t s).selfTest = s.selfTest ∧ (holdLift t s).roster = s.roster ∧
    (holdLift t s).job = s.job ∧ (holdLift t s).pacer = s.pacer ∧ (holdLift t s).store = s.store ∧
    (holdLift t s).pq = s.pq ∧ (holdLift t s).map = s.map ∧ (holdLift t s).seq = s.seq ∧
    (holdLift t s).motion = s.motion ∧ (holdLift t s).guard = s.guard ∧ (holdLift t s).pending = s.pending := by
  unfold holdLift
  dsimp only
  repeat' split
  all_goals simp

@[simp] theorem endHold_frame (s : State) :
    (endHold s).straps = s.straps ∧ (endHold s).inputs = s.inputs ∧ (endHold s).now = s.now ∧
    (endHold s).seed = s.seed ∧ (endHold s).selfTest = s.selfTest ∧ (endHold s).roster = s.roster ∧
    (endHold s).job = s.job ∧ (endHold s).pacer = s.pacer ∧ (endHold s).store = s.store ∧ (endHold s).pq = s.pq ∧
    (endHold s).map = s.map ∧ (endHold s).seq = s.seq ∧ (endHold s).motion = s.motion ∧ (endHold s).guard = s.guard ∧
    (endHold s).pending = s.pending := by
  unfold endHold
  dsimp only
  repeat' split
  all_goals simp

@[simp] theorem beginLive_frame (r : JobRecord) (t : TracerJob) (p c : Nat) (s : State) :
    (beginLive r t p c s).straps = s.straps ∧ (beginLive r t p c s).inputs = s.inputs ∧
    (beginLive r t p c s).now = s.now ∧ (beginLive r t p c s).seed = s.seed ∧
    (beginLive r t p c s).selfTest = s.selfTest ∧ (beginLive r t p c s).roster = s.roster ∧
    (beginLive r t p c s).job = s.job ∧ (beginLive r t p c s).pacer = s.pacer ∧
    (beginLive r t p c s).store = s.store ∧ (beginLive r t p c s).pq = s.pq ∧ (beginLive r t p c s).map = s.map ∧
    (beginLive r t p c s).seq = s.seq ∧ (beginLive r t p c s).cond = s.cond ∧
    (beginLive r t p c s).pending = s.pending := by
  unfold beginLive
  split <;> simp

@[simp] theorem buildReplay_frame (c : Cursor) (s : State) :
    (buildReplay c s).straps = s.straps ∧ (buildReplay c s).inputs = s.inputs ∧ (buildReplay c s).now = s.now ∧
    (buildReplay c s).seed = s.seed ∧ (buildReplay c s).selfTest = s.selfTest ∧ (buildReplay c s).bus = s.bus ∧
    (buildReplay c s).roster = s.roster ∧ (buildReplay c s).job = s.job ∧ (buildReplay c s).pacer = s.pacer ∧
    (buildReplay c s).pq = s.pq ∧ (buildReplay c s).map = s.map ∧ (buildReplay c s).seq = s.seq ∧
    (buildReplay c s).motion = s.motion ∧ (buildReplay c s).guard = s.guard ∧ (buildReplay c s).cond = s.cond ∧
    (buildReplay c s).pending = s.pending := by
  simp [buildReplay]

@[simp] theorem orderPass_frame (p c : Nat) (s : State) :
    (orderPass p c s).straps = s.straps ∧ (orderPass p c s).inputs = s.inputs ∧ (orderPass p c s).now = s.now ∧
    (orderPass p c s).seed = s.seed ∧ (orderPass p c s).selfTest = s.selfTest ∧ (orderPass p c s).roster = s.roster ∧
    (orderPass p c s).job = s.job ∧ (orderPass p c s).pq = s.pq ∧ (orderPass p c s).map = s.map ∧
    (orderPass p c s).seq = s.seq ∧ (orderPass p c s).cond = s.cond ∧ (orderPass p c s).pending = s.pending := by
  unfold orderPass
  dsimp only
  repeat' split
  all_goals simp

@[simp] theorem recordEmitted_frame (t : TracerJob) (r : TraceRecord) (s : State) :
    (recordEmitted t r s).straps = s.straps ∧ (recordEmitted t r s).inputs = s.inputs ∧
    (recordEmitted t r s).now = s.now ∧ (recordEmitted t r s).seed = s.seed ∧
    (recordEmitted t r s).selfTest = s.selfTest ∧ (recordEmitted t r s).roster = s.roster ∧
    (recordEmitted t r s).job = s.job ∧ (recordEmitted t r s).gen = s.gen ∧ (recordEmitted t r s).pacer = s.pacer ∧
    (recordEmitted t r s).pq = s.pq ∧ (recordEmitted t r s).map = s.map ∧ (recordEmitted t r s).seq = s.seq ∧
    (recordEmitted t r s).motion = s.motion ∧ (recordEmitted t r s).guard = s.guard ∧
    (recordEmitted t r s).pending = s.pending := by
  unfold recordEmitted
  repeat' split
  all_goals simp

@[simp] theorem offerFinish_frame (s : State) :
    (offerFinish s).straps = s.straps ∧ (offerFinish s).inputs = s.inputs ∧ (offerFinish s).now = s.now ∧
    (offerFinish s).seed = s.seed ∧ (offerFinish s).selfTest = s.selfTest ∧ (offerFinish s).roster = s.roster ∧
    (offerFinish s).gen = s.gen ∧ (offerFinish s).store = s.store ∧ (offerFinish s).pq = s.pq ∧
    (offerFinish s).map = s.map ∧ (offerFinish s).seq = s.seq ∧ (offerFinish s).guard = s.guard ∧
    (offerFinish s).cond = s.cond ∧ (offerFinish s).pending = s.pending := by
  unfold offerFinish
  split <;> simp

@[simp] theorem decidePass_frame (p : Nat) (s : State) :
    (decidePass p s).straps = s.straps ∧ (decidePass p s).inputs = s.inputs ∧ (decidePass p s).now = s.now ∧
    (decidePass p s).seed = s.seed ∧ (decidePass p s).selfTest = s.selfTest ∧ (decidePass p s).roster = s.roster ∧
    (decidePass p s).pq = s.pq ∧ (decidePass p s).map = s.map ∧ (decidePass p s).seq = s.seq ∧
    (decidePass p s).pending = s.pending := by
  unfold decidePass
  repeat' split
  all_goals simp

@[simp] theorem testCollection_frame (s : State) :
    (testCollection s).straps = s.straps ∧ (testCollection s).inputs = s.inputs ∧ (testCollection s).now = s.now ∧
    (testCollection s).seed = s.seed ∧ (testCollection s).selfTest = s.selfTest ∧
    (testCollection s).roster = s.roster ∧ (testCollection s).pq = s.pq ∧ (testCollection s).map = s.map ∧
    (testCollection s).seq = s.seq ∧ (testCollection s).pending = s.pending := by
  unfold testCollection
  repeat' split
  all_goals simp

@[simp] theorem enterCollecting_frame (r : JobRecord) (t : TracerJob) (s : State) :
    (enterCollecting r t s).straps = s.straps ∧ (enterCollecting r t s).inputs = s.inputs ∧
    (enterCollecting r t s).now = s.now ∧ (enterCollecting r t s).seed = s.seed ∧
    (enterCollecting r t s).selfTest = s.selfTest ∧ (enterCollecting r t s).roster = s.roster ∧
    (enterCollecting r t s).pq = s.pq ∧ (enterCollecting r t s).map = s.map ∧ (enterCollecting r t s).seq = s.seq ∧
    (enterCollecting r t s).pending = s.pending := by
  unfold enterCollecting
  split <;> simp

@[simp] theorem enrolmentResult_frame (s : State) :
    (enrolmentResult s).straps = s.straps ∧ (enrolmentResult s).inputs = s.inputs ∧ (enrolmentResult s).now = s.now ∧
    (enrolmentResult s).seed = s.seed ∧ (enrolmentResult s).selfTest = s.selfTest ∧
    (enrolmentResult s).roster = s.roster ∧ (enrolmentResult s).pq = s.pq ∧ (enrolmentResult s).map = s.map ∧
    (enrolmentResult s).seq = s.seq ∧ (enrolmentResult s).pending = s.pending := by
  unfold enrolmentResult
  dsimp only
  repeat' split
  all_goals simp

@[simp] theorem endEnrolment_frame (s : State) :
    (endEnrolment s).straps = s.straps ∧ (endEnrolment s).inputs = s.inputs ∧ (endEnrolment s).now = s.now ∧
    (endEnrolment s).seed = s.seed ∧ (endEnrolment s).selfTest = s.selfTest ∧ (endEnrolment s).roster = s.roster ∧
    (endEnrolment s).pq = s.pq ∧ (endEnrolment s).map = s.map ∧ (endEnrolment s).seq = s.seq ∧
    (endEnrolment s).pending = s.pending := by
  unfold endEnrolment
  split <;> simp

@[simp] theorem testEnrolment_frame (s : State) :
    (testEnrolment s).straps = s.straps ∧ (testEnrolment s).inputs = s.inputs ∧ (testEnrolment s).now = s.now ∧
    (testEnrolment s).seed = s.seed ∧ (testEnrolment s).selfTest = s.selfTest ∧ (testEnrolment s).roster = s.roster ∧
    (testEnrolment s).pq = s.pq ∧ (testEnrolment s).map = s.map ∧ (testEnrolment s).seq = s.seq ∧
    (testEnrolment s).pending = s.pending := by
  unfold testEnrolment
  split <;> simp

@[simp] theorem afterLive_frame (j : JobRecord) (t : TracerJob) (r : TraceRecord) (s : State) :
    (afterLive j t r s).straps = s.straps ∧ (afterLive j t r s).inputs = s.inputs ∧ (afterLive j t r s).now = s.now ∧
    (afterLive j t r s).seed = s.seed ∧ (afterLive j t r s).selfTest = s.selfTest ∧
    (afterLive j t r s).roster = s.roster ∧ (afterLive j t r s).pq = s.pq ∧ (afterLive j t r s).map = s.map ∧
    (afterLive j t r s).seq = s.seq ∧ (afterLive j t r s).pending = s.pending := by
  unfold afterLive
  repeat' split
  all_goals simp

@[simp] theorem afterReplay_frame (j : JobRecord) (t : TracerJob) (c : Cursor) (s : State) :
    (afterReplay j t c s).straps = s.straps ∧ (afterReplay j t c s).inputs = s.inputs ∧
    (afterReplay j t c s).now = s.now ∧ (afterReplay j t c s).seed = s.seed ∧
    (afterReplay j t c s).selfTest = s.selfTest ∧ (afterReplay j t c s).roster = s.roster ∧
    (afterReplay j t c s).pq = s.pq ∧ (afterReplay j t c s).map = s.map ∧ (afterReplay j t c s).seq = s.seq ∧
    (afterReplay j t c s).pending = s.pending := by
  unfold afterReplay
  split <;> simp

@[simp] theorem emitHead_frame (s : State) :
    (emitHead s).straps = s.straps ∧ (emitHead s).inputs = s.inputs ∧ (emitHead s).now = s.now ∧
    (emitHead s).seed = s.seed ∧ (emitHead s).selfTest = s.selfTest ∧ (emitHead s).roster = s.roster ∧
    (emitHead s).pq = s.pq ∧ (emitHead s).map = s.map ∧ (emitHead s).seq = s.seq ∧ (emitHead s).pending = s.pending := by
  unfold emitHead
  dsimp only
  repeat' split
  all_goals simp

@[simp] theorem dropEntry_frame (k : Nat) (e : LagEntry) (s : State) :
    (dropEntry k e s).straps = s.straps ∧ (dropEntry k e s).inputs = s.inputs ∧ (dropEntry k e s).now = s.now ∧
    (dropEntry k e s).seed = s.seed ∧ (dropEntry k e s).selfTest = s.selfTest ∧ (dropEntry k e s).roster = s.roster ∧
    (dropEntry k e s).job = s.job ∧ (dropEntry k e s).gen = s.gen ∧ (dropEntry k e s).store = s.store ∧
    (dropEntry k e s).pq = s.pq ∧ (dropEntry k e s).map = s.map ∧ (dropEntry k e s).seq = s.seq ∧
    (dropEntry k e s).motion = s.motion ∧ (dropEntry k e s).guard = s.guard ∧ (dropEntry k e s).pending = s.pending := by
  simp [dropEntry]

@[simp] theorem creditUpdate_frame (e : LagEntry) (c : CreditReport) (s : State) :
    (creditUpdate e c s).straps = s.straps ∧ (creditUpdate e c s).inputs = s.inputs ∧
    (creditUpdate e c s).now = s.now ∧ (creditUpdate e c s).seed = s.seed ∧
    (creditUpdate e c s).selfTest = s.selfTest ∧ (creditUpdate e c s).roster = s.roster ∧
    (creditUpdate e c s).pq = s.pq ∧ (creditUpdate e c s).map = s.map ∧ (creditUpdate e c s).seq = s.seq ∧
    (creditUpdate e c s).pending = s.pending := by
  simp [creditUpdate]

@[simp] theorem creditFromEntry_frame (e : LagEntry) (c : CreditReport) (s : State) :
    (creditFromEntry e c s).straps = s.straps ∧ (creditFromEntry e c s).inputs = s.inputs ∧
    (creditFromEntry e c s).now = s.now ∧ (creditFromEntry e c s).seed = s.seed ∧
    (creditFromEntry e c s).selfTest = s.selfTest ∧ (creditFromEntry e c s).roster = s.roster ∧
    (creditFromEntry e c s).pq = s.pq ∧ (creditFromEntry e c s).map = s.map ∧ (creditFromEntry e c s).seq = s.seq ∧
    (creditFromEntry e c s).pending = s.pending := by
  unfold creditFromEntry
  repeat' split
  all_goals simp

@[simp] theorem admitCarver_frame (c : CreditReport) (s : State) :
    (admitCarver c s).straps = s.straps ∧ (admitCarver c s).inputs = s.inputs ∧ (admitCarver c s).now = s.now ∧
    (admitCarver c s).seed = s.seed ∧ (admitCarver c s).selfTest = s.selfTest ∧ (admitCarver c s).roster = s.roster ∧
    (admitCarver c s).pq = s.pq ∧ (admitCarver c s).map = s.map ∧ (admitCarver c s).seq = s.seq ∧
    (admitCarver c s).pending = s.pending := by
  simp [admitCarver]

@[simp] theorem creditInDone_frame (e : LagEntry) (c : CreditReport) (s : State) :
    (creditInDone e c s).straps = s.straps ∧ (creditInDone e c s).inputs = s.inputs ∧
    (creditInDone e c s).now = s.now ∧ (creditInDone e c s).seed = s.seed ∧
    (creditInDone e c s).selfTest = s.selfTest ∧ (creditInDone e c s).bus = s.bus ∧
    (creditInDone e c s).roster = s.roster ∧ (creditInDone e c s).job = s.job ∧ (creditInDone e c s).gen = s.gen ∧
    (creditInDone e c s).store = s.store ∧ (creditInDone e c s).pq = s.pq ∧ (creditInDone e c s).map = s.map ∧
    (creditInDone e c s).seq = s.seq ∧ (creditInDone e c s).motion = s.motion ∧
    (creditInDone e c s).guard = s.guard ∧ (creditInDone e c s).cond = s.cond ∧
    (creditInDone e c s).pending = s.pending := by
  simp [creditInDone]

@[simp] theorem takeCredit_frame (c : CreditReport) (s : State) :
    (takeCredit c s).straps = s.straps ∧ (takeCredit c s).inputs = s.inputs ∧ (takeCredit c s).now = s.now ∧
    (takeCredit c s).seed = s.seed ∧ (takeCredit c s).selfTest = s.selfTest ∧ (takeCredit c s).roster = s.roster ∧
    (takeCredit c s).pq = s.pq ∧ (takeCredit c s).map = s.map ∧ (takeCredit c s).seq = s.seq ∧
    (takeCredit c s).pending = s.pending := by
  unfold takeCredit
  repeat' split
  all_goals simp

@[simp] theorem removeCarver_frame (k : Nat) (s : State) :
    (removeCarver k s).straps = s.straps ∧ (removeCarver k s).inputs = s.inputs ∧ (removeCarver k s).now = s.now ∧
    (removeCarver k s).seed = s.seed ∧ (removeCarver k s).selfTest = s.selfTest ∧
    (removeCarver k s).roster = s.roster ∧ (removeCarver k s).pq = s.pq ∧ (removeCarver k s).map = s.map ∧
    (removeCarver k s).seq = s.seq ∧ (removeCarver k s).pending = s.pending := by
  simp [removeCarver]

@[simp] theorem rejoinNotice_frame (k : Nat) (s : State) :
    (rejoinNotice k s).straps = s.straps ∧ (rejoinNotice k s).inputs = s.inputs ∧ (rejoinNotice k s).now = s.now ∧
    (rejoinNotice k s).seed = s.seed ∧ (rejoinNotice k s).selfTest = s.selfTest ∧
    (rejoinNotice k s).roster = s.roster ∧ (rejoinNotice k s).pq = s.pq ∧ (rejoinNotice k s).map = s.map ∧
    (rejoinNotice k s).seq = s.seq ∧ (rejoinNotice k s).pending = s.pending := by
  unfold rejoinNotice
  split <;> simp

@[simp] theorem offerJoin_frame (answer : Bool) (s : State) :
    (offerJoin answer s).straps = s.straps ∧ (offerJoin answer s).inputs = s.inputs ∧
    (offerJoin answer s).now = s.now ∧ (offerJoin answer s).seed = s.seed ∧
    (offerJoin answer s).selfTest = s.selfTest ∧ (offerJoin answer s).job = s.job ∧
    (offerJoin answer s).gen = s.gen ∧ (offerJoin answer s).pacer = s.pacer ∧ (offerJoin answer s).store = s.store ∧
    (offerJoin answer s).pq = s.pq ∧ (offerJoin answer s).map = s.map ∧ (offerJoin answer s).seq = s.seq ∧
    (offerJoin answer s).motion = s.motion ∧ (offerJoin answer s).guard = s.guard ∧
    (offerJoin answer s).cond = s.cond ∧ (offerJoin answer s).pending = s.pending := by
  unfold offerJoin
  split <;> simp

@[simp] theorem placeFreed_frame (s : State) :
    (placeFreed s).straps = s.straps ∧ (placeFreed s).inputs = s.inputs ∧ (placeFreed s).now = s.now ∧
    (placeFreed s).seed = s.seed ∧ (placeFreed s).selfTest = s.selfTest ∧ (placeFreed s).pq = s.pq ∧
    (placeFreed s).map = s.map ∧ (placeFreed s).seq = s.seq ∧ (placeFreed s).pending = s.pending := by
  unfold placeFreed
  repeat' split
  all_goals simp

/-! ## The Path Queue and the Pass Sequencer -/

@[simp] theorem noteGap_frame (d : Nat) (s : State) :
    (noteGap d s).straps = s.straps ∧ (noteGap d s).inputs = s.inputs ∧ (noteGap d s).now = s.now ∧
    (noteGap d s).seed = s.seed ∧ (noteGap d s).selfTest = s.selfTest ∧ (noteGap d s).roster = s.roster ∧
    (noteGap d s).job = s.job ∧ (noteGap d s).gen = s.gen ∧ (noteGap d s).pacer = s.pacer ∧
    (noteGap d s).store = s.store ∧ (noteGap d s).pq = s.pq ∧ (noteGap d s).map = s.map ∧ (noteGap d s).seq = s.seq ∧
    (noteGap d s).motion = s.motion ∧ (noteGap d s).guard = s.guard ∧ (noteGap d s).pending = s.pending := by
  unfold noteGap
  split <;> simp

@[simp] theorem overrun_frame (s : State) :
    (overrun s).straps = s.straps ∧ (overrun s).inputs = s.inputs ∧ (overrun s).now = s.now ∧
    (overrun s).seed = s.seed ∧ (overrun s).selfTest = s.selfTest ∧ (overrun s).roster = s.roster ∧
    (overrun s).job = s.job ∧ (overrun s).gen = s.gen ∧ (overrun s).pacer = s.pacer ∧ (overrun s).store = s.store ∧
    (overrun s).pq = s.pq ∧ (overrun s).map = s.map ∧ (overrun s).seq = s.seq ∧ (overrun s).motion = s.motion ∧
    (overrun s).guard = s.guard ∧ (overrun s).pending = s.pending := by
  simp [overrun]

@[simp] theorem intakeAt_frame (r : TraceRecord) (d : Nat) (s : State) :
    (intakeAt r d s).straps = s.straps ∧ (intakeAt r d s).inputs = s.inputs ∧ (intakeAt r d s).now = s.now ∧
    (intakeAt r d s).seed = s.seed ∧ (intakeAt r d s).selfTest = s.selfTest ∧ (intakeAt r d s).roster = s.roster ∧
    (intakeAt r d s).job = s.job ∧ (intakeAt r d s).gen = s.gen ∧ (intakeAt r d s).pacer = s.pacer ∧
    (intakeAt r d s).store = s.store ∧ (intakeAt r d s).map = s.map ∧ (intakeAt r d s).seq = s.seq ∧
    (intakeAt r d s).motion = s.motion ∧ (intakeAt r d s).guard = s.guard ∧ (intakeAt r d s).pending = s.pending := by
  unfold intakeAt
  dsimp only
  repeat' split
  all_goals simp

@[simp] theorem intake_frame (r : TraceRecord) (s : State) :
    (intake r s).straps = s.straps ∧ (intake r s).inputs = s.inputs ∧ (intake r s).now = s.now ∧
    (intake r s).seed = s.seed ∧ (intake r s).selfTest = s.selfTest ∧ (intake r s).roster = s.roster ∧
    (intake r s).job = s.job ∧ (intake r s).gen = s.gen ∧ (intake r s).pacer = s.pacer ∧
    (intake r s).store = s.store ∧ (intake r s).map = s.map ∧ (intake r s).seq = s.seq ∧
    (intake r s).motion = s.motion ∧ (intake r s).guard = s.guard ∧ (intake r s).pending = s.pending := by
  unfold intake
  dsimp only
  repeat' split
  all_goals simp

@[simp] theorem testDrain_frame (s : State) :
    (testDrain s).straps = s.straps ∧ (testDrain s).inputs = s.inputs ∧ (testDrain s).now = s.now ∧
    (testDrain s).seed = s.seed ∧ (testDrain s).selfTest = s.selfTest ∧ (testDrain s).bus = s.bus ∧
    (testDrain s).roster = s.roster ∧ (testDrain s).job = s.job ∧ (testDrain s).gen = s.gen ∧
    (testDrain s).pacer = s.pacer ∧ (testDrain s).store = s.store ∧ (testDrain s).pq = s.pq ∧
    (testDrain s).map = s.map ∧ (testDrain s).seq = s.seq ∧ (testDrain s).guard = s.guard ∧
    (testDrain s).cond = s.cond ∧ (testDrain s).pending = s.pending := by
  unfold testDrain
  split <;> simp

@[simp] theorem emptyQueue_frame (s : State) :
    (emptyQueue s).straps = s.straps ∧ (emptyQueue s).inputs = s.inputs ∧ (emptyQueue s).now = s.now ∧
    (emptyQueue s).seed = s.seed ∧ (emptyQueue s).selfTest = s.selfTest ∧ (emptyQueue s).bus = s.bus ∧
    (emptyQueue s).roster = s.roster ∧ (emptyQueue s).job = s.job ∧ (emptyQueue s).gen = s.gen ∧
    (emptyQueue s).pacer = s.pacer ∧ (emptyQueue s).store = s.store ∧ (emptyQueue s).map = s.map ∧
    (emptyQueue s).seq = s.seq ∧ (emptyQueue s).motion = s.motion ∧ (emptyQueue s).guard = s.guard ∧
    (emptyQueue s).cond = s.cond ∧ (emptyQueue s).pending = s.pending := by
  simp [emptyQueue]

@[simp] theorem dropClose_frame (s : State) :
    (dropClose s).straps = s.straps ∧ (dropClose s).inputs = s.inputs ∧ (dropClose s).now = s.now ∧
    (dropClose s).selfTest = s.selfTest ∧ (dropClose s).bus = s.bus ∧ (dropClose s).roster = s.roster ∧
    (dropClose s).job = s.job ∧ (dropClose s).gen = s.gen ∧ (dropClose s).pacer = s.pacer ∧
    (dropClose s).store = s.store ∧ (dropClose s).pq = s.pq ∧ (dropClose s).motion = s.motion ∧
    (dropClose s).guard = s.guard ∧ (dropClose s).cond = s.cond ∧ (dropClose s).pending = s.pending := by
  unfold dropClose
  split <;> simp

@[simp] theorem releaseIssued_frame (s : State) :
    (releaseIssued s).straps = s.straps ∧ (releaseIssued s).inputs = s.inputs ∧ (releaseIssued s).now = s.now ∧
    (releaseIssued s).seed = s.seed ∧ (releaseIssued s).selfTest = s.selfTest ∧ (releaseIssued s).bus = s.bus ∧
    (releaseIssued s).roster = s.roster ∧ (releaseIssued s).job = s.job ∧ (releaseIssued s).gen = s.gen ∧
    (releaseIssued s).pacer = s.pacer ∧ (releaseIssued s).store = s.store ∧ (releaseIssued s).map = s.map ∧
    (releaseIssued s).seq = s.seq ∧ (releaseIssued s).motion = s.motion ∧ (releaseIssued s).guard = s.guard ∧
    (releaseIssued s).cond = s.cond ∧ (releaseIssued s).pending = s.pending := by
  simp [releaseIssued]

@[simp] theorem startSweep_frame (s : State) :
    (startSweep s).straps = s.straps ∧ (startSweep s).inputs = s.inputs ∧ (startSweep s).now = s.now ∧
    (startSweep s).seed = s.seed ∧ (startSweep s).selfTest = s.selfTest ∧ (startSweep s).bus = s.bus ∧
    (startSweep s).roster = s.roster ∧ (startSweep s).job = s.job ∧ (startSweep s).gen = s.gen ∧
    (startSweep s).pacer = s.pacer ∧ (startSweep s).store = s.store ∧ (startSweep s).pq = s.pq ∧
    (startSweep s).motion = s.motion ∧ (startSweep s).guard = s.guard ∧ (startSweep s).cond = s.cond ∧
    (startSweep s).pending = s.pending := by
  simp [startSweep]

@[simp] theorem sweepIfAwaited_frame (s : State) :
    (sweepIfAwaited s).straps = s.straps ∧ (sweepIfAwaited s).inputs = s.inputs ∧ (sweepIfAwaited s).now = s.now ∧
    (sweepIfAwaited s).seed = s.seed ∧ (sweepIfAwaited s).selfTest = s.selfTest ∧ (sweepIfAwaited s).bus = s.bus ∧
    (sweepIfAwaited s).roster = s.roster ∧ (sweepIfAwaited s).job = s.job ∧ (sweepIfAwaited s).gen = s.gen ∧
    (sweepIfAwaited s).pacer = s.pacer ∧ (sweepIfAwaited s).store = s.store ∧ (sweepIfAwaited s).pq = s.pq ∧
    (sweepIfAwaited s).motion = s.motion ∧ (sweepIfAwaited s).guard = s.guard ∧ (sweepIfAwaited s).cond = s.cond ∧
    (sweepIfAwaited s).pending = s.pending := by
  unfold sweepIfAwaited
  split <;> simp

@[simp] theorem completeHead_frame (s : State) :
    (completeHead s).straps = s.straps ∧ (completeHead s).inputs = s.inputs ∧ (completeHead s).now = s.now ∧
    (completeHead s).seed = s.seed ∧ (completeHead s).selfTest = s.selfTest ∧ (completeHead s).roster = s.roster ∧
    (completeHead s).job = s.job ∧ (completeHead s).gen = s.gen ∧ (completeHead s).pacer = s.pacer ∧
    (completeHead s).store = s.store ∧ (completeHead s).map = s.map ∧ (completeHead s).seq = s.seq ∧
    (completeHead s).motion = s.motion ∧ (completeHead s).guard = s.guard ∧ (completeHead s).cond = s.cond ∧
    (completeHead s).pending = s.pending := by
  unfold completeHead
  split <;> simp

@[simp] theorem completeMarker_frame (e : Entry) (s : State) :
    (completeMarker e s).straps = s.straps ∧ (completeMarker e s).inputs = s.inputs ∧
    (completeMarker e s).now = s.now ∧ (completeMarker e s).seed = s.seed ∧
    (completeMarker e s).selfTest = s.selfTest ∧ (completeMarker e s).roster = s.roster ∧
    (completeMarker e s).job = s.job ∧ (completeMarker e s).gen = s.gen ∧ (completeMarker e s).pacer = s.pacer ∧
    (completeMarker e s).store = s.store ∧ (completeMarker e s).map = s.map ∧ (completeMarker e s).guard = s.guard ∧
    (completeMarker e s).cond = s.cond ∧ (completeMarker e s).pending = s.pending := by
  simp [completeMarker]

@[simp] theorem openPass_frame (e : Entry) (s : State) :
    (openPass e s).straps = s.straps ∧ (openPass e s).inputs = s.inputs ∧ (openPass e s).now = s.now ∧
    (openPass e s).seed = s.seed ∧ (openPass e s).selfTest = s.selfTest ∧ (openPass e s).roster = s.roster ∧
    (openPass e s).job = s.job ∧ (openPass e s).gen = s.gen ∧ (openPass e s).pacer = s.pacer ∧
    (openPass e s).store = s.store ∧ (openPass e s).map = s.map ∧ (openPass e s).guard = s.guard ∧
    (openPass e s).cond = s.cond ∧ (openPass e s).pending = s.pending := by
  unfold openPass
  split <;> simp

@[simp] theorem closePass_frame (e : Entry) (s : State) :
    (closePass e s).straps = s.straps ∧ (closePass e s).inputs = s.inputs ∧ (closePass e s).now = s.now ∧
    (closePass e s).seed = s.seed ∧ (closePass e s).selfTest = s.selfTest ∧ (closePass e s).bus = s.bus ∧
    (closePass e s).roster = s.roster ∧ (closePass e s).job = s.job ∧ (closePass e s).gen = s.gen ∧
    (closePass e s).pacer = s.pacer ∧ (closePass e s).store = s.store ∧ (closePass e s).pq = s.pq ∧
    (closePass e s).motion = s.motion ∧ (closePass e s).guard = s.guard ∧ (closePass e s).cond = s.cond ∧
    (closePass e s).pending = s.pending := by
  simp [closePass]

@[simp] theorem completeResting_frame (e : Entry) (s : State) :
    (completeResting e s).straps = s.straps ∧ (completeResting e s).inputs = s.inputs ∧
    (completeResting e s).now = s.now ∧ (completeResting e s).seed = s.seed ∧
    (completeResting e s).selfTest = s.selfTest ∧ (completeResting e s).roster = s.roster ∧
    (completeResting e s).job = s.job ∧ (completeResting e s).gen = s.gen ∧ (completeResting e s).pacer = s.pacer ∧
    (completeResting e s).store = s.store ∧ (completeResting e s).map = s.map ∧
    (completeResting e s).guard = s.guard ∧ (completeResting e s).cond = s.cond ∧
    (completeResting e s).pending = s.pending := by
  unfold completeResting
  repeat' split
  all_goals simp

@[simp] theorem restNotice_frame (s : State) :
    (restNotice s).straps = s.straps ∧ (restNotice s).inputs = s.inputs ∧ (restNotice s).now = s.now ∧
    (restNotice s).seed = s.seed ∧ (restNotice s).selfTest = s.selfTest ∧ (restNotice s).bus = s.bus ∧
    (restNotice s).roster = s.roster ∧ (restNotice s).job = s.job ∧ (restNotice s).gen = s.gen ∧
    (restNotice s).pacer = s.pacer ∧ (restNotice s).store = s.store ∧ (restNotice s).pq = s.pq ∧
    (restNotice s).map = s.map ∧ (restNotice s).seq = s.seq ∧ (restNotice s).guard = s.guard ∧
    (restNotice s).cond = s.cond ∧ (restNotice s).pending = s.pending := by
  unfold restNotice
  dsimp only
  repeat' split
  all_goals simp

@[simp] theorem advanceStep_frame (c : CarverJob) (k : Nat) (s : State) :
    (advanceStep c k s).straps = s.straps ∧ (advanceStep c k s).inputs = s.inputs ∧ (advanceStep c k s).now = s.now ∧
    (advanceStep c k s).seed = s.seed ∧ (advanceStep c k s).selfTest = s.selfTest ∧ (advanceStep c k s).bus = s.bus ∧
    (advanceStep c k s).roster = s.roster ∧ (advanceStep c k s).job = s.job ∧ (advanceStep c k s).gen = s.gen ∧
    (advanceStep c k s).pacer = s.pacer ∧ (advanceStep c k s).store = s.store ∧ (advanceStep c k s).pq = s.pq ∧
    (advanceStep c k s).map = s.map ∧ (advanceStep c k s).guard = s.guard ∧ (advanceStep c k s).cond = s.cond ∧
    (advanceStep c k s).pending = s.pending := by
  unfold advanceStep
  split <;> simp

@[simp] theorem decideStep_frame (s : State) :
    (decideStep s).straps = s.straps ∧ (decideStep s).inputs = s.inputs ∧ (decideStep s).now = s.now ∧
    (decideStep s).seed = s.seed ∧ (decideStep s).selfTest = s.selfTest ∧ (decideStep s).bus = s.bus ∧
    (decideStep s).roster = s.roster ∧ (decideStep s).job = s.job ∧ (decideStep s).gen = s.gen ∧
    (decideStep s).pacer = s.pacer ∧ (decideStep s).store = s.store ∧ (decideStep s).pq = s.pq ∧
    (decideStep s).map = s.map ∧ (decideStep s).guard = s.guard ∧ (decideStep s).cond = s.cond ∧
    (decideStep s).pending = s.pending := by
  unfold decideStep
  dsimp only
  repeat' split
  all_goals simp

@[simp] theorem handSetpoint_frame (e : Entry) (s : State) :
    (handSetpoint e s).straps = s.straps ∧ (handSetpoint e s).inputs = s.inputs ∧ (handSetpoint e s).now = s.now ∧
    (handSetpoint e s).seed = s.seed ∧ (handSetpoint e s).selfTest = s.selfTest ∧
    (handSetpoint e s).roster = s.roster ∧ (handSetpoint e s).job = s.job ∧ (handSetpoint e s).gen = s.gen ∧
    (handSetpoint e s).pacer = s.pacer ∧ (handSetpoint e s).store = s.store ∧ (handSetpoint e s).pq = s.pq ∧
    (handSetpoint e s).map = s.map ∧ (handSetpoint e s).seq = s.seq ∧ (handSetpoint e s).motion = s.motion ∧
    (handSetpoint e s).cond = s.cond ∧ (handSetpoint e s).pending = s.pending := by
  unfold handSetpoint
  split <;> simp

@[simp] theorem handHead_frame (e : Entry) (s : State) :
    (handHead e s).straps = s.straps ∧ (handHead e s).inputs = s.inputs ∧ (handHead e s).now = s.now ∧
    (handHead e s).seed = s.seed ∧ (handHead e s).selfTest = s.selfTest ∧ (handHead e s).roster = s.roster ∧
    (handHead e s).job = s.job ∧ (handHead e s).gen = s.gen ∧ (handHead e s).pacer = s.pacer ∧
    (handHead e s).store = s.store ∧ (handHead e s).cond = s.cond ∧ (handHead e s).pending = s.pending := by
  unfold handHead
  repeat' split
  all_goals simp

@[simp] theorem completeIssued_frame (i : Issued) (rest : List Issued) (s : State) :
    (completeIssued i rest s).straps = s.straps ∧ (completeIssued i rest s).inputs = s.inputs ∧
    (completeIssued i rest s).now = s.now ∧ (completeIssued i rest s).seed = s.seed ∧
    (completeIssued i rest s).selfTest = s.selfTest ∧ (completeIssued i rest s).roster = s.roster ∧
    (completeIssued i rest s).job = s.job ∧ (completeIssued i rest s).gen = s.gen ∧
    (completeIssued i rest s).pacer = s.pacer ∧ (completeIssued i rest s).store = s.store ∧
    (completeIssued i rest s).guard = s.guard ∧ (completeIssued i rest s).cond = s.cond ∧
    (completeIssued i rest s).pending = s.pending := by
  simp [completeIssued]

@[simp] theorem arriveEntry_frame (tag : Byte) (s : State) :
    (arriveEntry tag s).straps = s.straps ∧ (arriveEntry tag s).inputs = s.inputs ∧ (arriveEntry tag s).now = s.now ∧
    (arriveEntry tag s).seed = s.seed ∧ (arriveEntry tag s).selfTest = s.selfTest ∧
    (arriveEntry tag s).roster = s.roster ∧ (arriveEntry tag s).job = s.job ∧ (arriveEntry tag s).gen = s.gen ∧
    (arriveEntry tag s).pacer = s.pacer ∧ (arriveEntry tag s).store = s.store ∧ (arriveEntry tag s).guard = s.guard ∧
    (arriveEntry tag s).cond = s.cond ∧ (arriveEntry tag s).pending = s.pending := by
  unfold arriveEntry
  repeat' split
  all_goals simp

/-! ## Start-up -/

@[simp] theorem writeOwnEntry_frame (selfCheck : Nat) (s : State) :
    (writeOwnEntry selfCheck s).straps = s.straps ∧ (writeOwnEntry selfCheck s).inputs = s.inputs ∧
    (writeOwnEntry selfCheck s).now = s.now ∧ (writeOwnEntry selfCheck s).seed = s.seed ∧
    (writeOwnEntry selfCheck s).selfTest = s.selfTest ∧ (writeOwnEntry selfCheck s).bus = s.bus ∧
    (writeOwnEntry selfCheck s).job = s.job ∧ (writeOwnEntry selfCheck s).gen = s.gen ∧
    (writeOwnEntry selfCheck s).pacer = s.pacer ∧ (writeOwnEntry selfCheck s).store = s.store ∧
    (writeOwnEntry selfCheck s).pq = s.pq ∧ (writeOwnEntry selfCheck s).map = s.map ∧
    (writeOwnEntry selfCheck s).seq = s.seq ∧ (writeOwnEntry selfCheck s).motion = s.motion ∧
    (writeOwnEntry selfCheck s).guard = s.guard ∧ (writeOwnEntry selfCheck s).cond = s.cond ∧
    (writeOwnEntry selfCheck s).pending = s.pending := by
  simp [writeOwnEntry]

@[simp] theorem offerPendingAlert_frame (s : State) :
    (offerPendingAlert s).straps = s.straps ∧ (offerPendingAlert s).inputs = s.inputs ∧
    (offerPendingAlert s).now = s.now ∧ (offerPendingAlert s).seed = s.seed ∧
    (offerPendingAlert s).selfTest = s.selfTest ∧ (offerPendingAlert s).roster = s.roster ∧
    (offerPendingAlert s).job = s.job ∧ (offerPendingAlert s).gen = s.gen ∧ (offerPendingAlert s).pacer = s.pacer ∧
    (offerPendingAlert s).store = s.store ∧ (offerPendingAlert s).pq = s.pq ∧ (offerPendingAlert s).map = s.map ∧
    (offerPendingAlert s).seq = s.seq ∧ (offerPendingAlert s).motion = s.motion ∧
    (offerPendingAlert s).guard = s.guard ∧ (offerPendingAlert s).cond = s.cond ∧
    (offerPendingAlert s).pending = s.pending := by
  unfold offerPendingAlert
  split <;> simp

@[simp] theorem readStandingFault_frame (s : State) :
    (readStandingFault s).straps = s.straps ∧ (readStandingFault s).inputs = s.inputs ∧
    (readStandingFault s).now = s.now ∧ (readStandingFault s).seed = s.seed ∧
    (readStandingFault s).selfTest = s.selfTest ∧ (readStandingFault s).roster = s.roster ∧
    (readStandingFault s).job = s.job ∧ (readStandingFault s).gen = s.gen ∧ (readStandingFault s).pacer = s.pacer ∧
    (readStandingFault s).store = s.store ∧ (readStandingFault s).pq = s.pq ∧ (readStandingFault s).map = s.map ∧
    (readStandingFault s).seq = s.seq ∧ (readStandingFault s).guard = s.guard ∧
    (readStandingFault s).pending = s.pending := by
  unfold readStandingFault
  split <;> simp

@[simp] theorem endStarting_frame (result : Nat) (s : State) :
    (endStarting result s).straps = s.straps ∧ (endStarting result s).inputs = s.inputs ∧
    (endStarting result s).now = s.now ∧ (endStarting result s).seed = s.seed ∧ (endStarting result s).gen = s.gen ∧
    (endStarting result s).pacer = s.pacer ∧ (endStarting result s).store = s.store ∧
    (endStarting result s).pq = s.pq ∧ (endStarting result s).map = s.map ∧ (endStarting result s).seq = s.seq ∧
    (endStarting result s).pending = s.pending := by
  simp [endStarting]

@[simp] theorem leaveReset_frame (straps : Straps) (s : State) :
    (leaveReset straps s).inputs = s.inputs ∧ (leaveReset straps s).now = s.now ∧
    (leaveReset straps s).seed = s.seed ∧ (leaveReset straps s).gen = s.gen ∧ (leaveReset straps s).pacer = s.pacer ∧
    (leaveReset straps s).store = s.store ∧ (leaveReset straps s).pq = s.pq ∧ (leaveReset straps s).map = s.map ∧
    (leaveReset straps s).seq = s.seq ∧ (leaveReset straps s).pending = s.pending := by
  unfold leaveReset
  split <;> simp

@[simp] theorem leaveFailed_frame (code : Nat) (s : State) :
    (leaveFailed code s).straps = s.straps ∧ (leaveFailed code s).inputs = s.inputs ∧
    (leaveFailed code s).now = s.now ∧ (leaveFailed code s).selfTest = s.selfTest ∧
    (leaveFailed code s).bus = s.bus ∧ (leaveFailed code s).roster = s.roster ∧ (leaveFailed code s).job = s.job ∧
    (leaveFailed code s).gen = s.gen ∧ (leaveFailed code s).pacer = s.pacer ∧ (leaveFailed code s).store = s.store ∧
    (leaveFailed code s).pq = s.pq ∧ (leaveFailed code s).seq = s.seq ∧ (leaveFailed code s).motion = s.motion ∧
    (leaveFailed code s).guard = s.guard ∧ (leaveFailed code s).cond = s.cond ∧
    (leaveFailed code s).pending = s.pending := by
  unfold leaveFailed
  split <;> simp

@[simp] theorem memoryTested_frame (code : Nat) (passed : Bool) (s : State) :
    (memoryTested code passed s).straps = s.straps ∧ (memoryTested code passed s).inputs = s.inputs ∧
    (memoryTested code passed s).now = s.now ∧ (memoryTested code passed s).gen = s.gen ∧
    (memoryTested code passed s).pacer = s.pacer ∧ (memoryTested code passed s).store = s.store ∧
    (memoryTested code passed s).pq = s.pq ∧ (memoryTested code passed s).seq = s.seq ∧
    (memoryTested code passed s).pending = s.pending := by
  unfold memoryTested
  repeat' split
  all_goals simp

/-! ## The wire -/

@[simp] theorem countBadFrame_frame (s : State) :
    (countBadFrame s).straps = s.straps ∧ (countBadFrame s).inputs = s.inputs ∧ (countBadFrame s).now = s.now ∧
    (countBadFrame s).seed = s.seed ∧ (countBadFrame s).selfTest = s.selfTest ∧ (countBadFrame s).bus = s.bus ∧
    (countBadFrame s).roster = s.roster ∧ (countBadFrame s).job = s.job ∧ (countBadFrame s).gen = s.gen ∧
    (countBadFrame s).pacer = s.pacer ∧ (countBadFrame s).store = s.store ∧ (countBadFrame s).pq = s.pq ∧
    (countBadFrame s).map = s.map ∧ (countBadFrame s).seq = s.seq ∧ (countBadFrame s).motion = s.motion ∧
    (countBadFrame s).guard = s.guard ∧ (countBadFrame s).pending = s.pending := by
  simp [countBadFrame]

@[simp] theorem setPhase_frame (p : RxPhase) (s : State) :
    (setPhase p s).straps = s.straps ∧ (setPhase p s).inputs = s.inputs ∧ (setPhase p s).now = s.now ∧
    (setPhase p s).seed = s.seed ∧ (setPhase p s).selfTest = s.selfTest ∧ (setPhase p s).roster = s.roster ∧
    (setPhase p s).job = s.job ∧ (setPhase p s).gen = s.gen ∧ (setPhase p s).pacer = s.pacer ∧
    (setPhase p s).store = s.store ∧ (setPhase p s).pq = s.pq ∧ (setPhase p s).map = s.map ∧
    (setPhase p s).seq = s.seq ∧ (setPhase p s).motion = s.motion ∧ (setPhase p s).guard = s.guard ∧
    (setPhase p s).cond = s.cond ∧ (setPhase p s).pending = s.pending := by
  simp [setPhase]

@[simp] theorem setHold_frame (b : Bool) (s : State) :
    (setHold b s).straps = s.straps ∧ (setHold b s).inputs = s.inputs ∧ (setHold b s).now = s.now ∧
    (setHold b s).seed = s.seed ∧ (setHold b s).selfTest = s.selfTest ∧ (setHold b s).roster = s.roster ∧
    (setHold b s).job = s.job ∧ (setHold b s).gen = s.gen ∧ (setHold b s).pacer = s.pacer ∧
    (setHold b s).store = s.store ∧ (setHold b s).pq = s.pq ∧ (setHold b s).map = s.map ∧ (setHold b s).seq = s.seq ∧
    (setHold b s).motion = s.motion ∧ (setHold b s).guard = s.guard ∧ (setHold b s).cond = s.cond ∧
    (setHold b s).pending = s.pending := by
  simp [setHold]

@[simp] theorem startHold_frame (s : State) :
    (startHold s).straps = s.straps ∧ (startHold s).inputs = s.inputs ∧ (startHold s).now = s.now ∧
    (startHold s).seed = s.seed ∧ (startHold s).selfTest = s.selfTest ∧ (startHold s).roster = s.roster ∧
    (startHold s).job = s.job ∧ (startHold s).gen = s.gen ∧ (startHold s).pacer = s.pacer ∧
    (startHold s).store = s.store ∧ (startHold s).pq = s.pq ∧ (startHold s).map = s.map ∧ (startHold s).seq = s.seq ∧
    (startHold s).motion = s.motion ∧ (startHold s).guard = s.guard ∧ (startHold s).cond = s.cond ∧
    (startHold s).pending = s.pending := by
  simp [startHold]

@[simp] theorem endHoldAtStart_frame (s : State) :
    (endHoldAtStart s).straps = s.straps ∧ (endHoldAtStart s).inputs = s.inputs ∧ (endHoldAtStart s).now = s.now ∧
    (endHoldAtStart s).seed = s.seed ∧ (endHoldAtStart s).selfTest = s.selfTest ∧
    (endHoldAtStart s).roster = s.roster ∧ (endHoldAtStart s).job = s.job ∧ (endHoldAtStart s).gen = s.gen ∧
    (endHoldAtStart s).pacer = s.pacer ∧ (endHoldAtStart s).store = s.store ∧ (endHoldAtStart s).pq = s.pq ∧
    (endHoldAtStart s).map = s.map ∧ (endHoldAtStart s).seq = s.seq ∧ (endHoldAtStart s).motion = s.motion ∧
    (endHoldAtStart s).guard = s.guard ∧ (endHoldAtStart s).cond = s.cond ∧ (endHoldAtStart s).pending = s.pending := by
  unfold endHoldAtStart
  split <;> simp

@[simp] theorem attemptLost_frame (k : Kind) (s : State) :
    (attemptLost k s).straps = s.straps ∧ (attemptLost k s).inputs = s.inputs ∧ (attemptLost k s).now = s.now ∧
    (attemptLost k s).seed = s.seed ∧ (attemptLost k s).selfTest = s.selfTest ∧ (attemptLost k s).bus = s.bus ∧
    (attemptLost k s).roster = s.roster ∧ (attemptLost k s).job = s.job ∧ (attemptLost k s).gen = s.gen ∧
    (attemptLost k s).pacer = s.pacer ∧ (attemptLost k s).store = s.store ∧ (attemptLost k s).pq = s.pq ∧
    (attemptLost k s).map = s.map ∧ (attemptLost k s).seq = s.seq ∧ (attemptLost k s).motion = s.motion ∧
    (attemptLost k s).pending = s.pending := by
  unfold attemptLost
  split <;> simp

@[simp] theorem loseAttempt_frame (t : Sending) (s : State) :
    (loseAttempt t s).straps = s.straps ∧ (loseAttempt t s).inputs = s.inputs ∧ (loseAttempt t s).now = s.now ∧
    (loseAttempt t s).seed = s.seed ∧ (loseAttempt t s).selfTest = s.selfTest ∧ (loseAttempt t s).roster = s.roster ∧
    (loseAttempt t s).job = s.job ∧ (loseAttempt t s).gen = s.gen ∧ (loseAttempt t s).pacer = s.pacer ∧
    (loseAttempt t s).store = s.store ∧ (loseAttempt t s).pq = s.pq ∧ (loseAttempt t s).map = s.map ∧
    (loseAttempt t s).seq = s.seq ∧ (loseAttempt t s).motion = s.motion ∧ (loseAttempt t s).pending = s.pending := by
  simp [loseAttempt]

@[simp] theorem enterMute_frame (s : State) :
    (enterMute s).straps = s.straps ∧ (enterMute s).inputs = s.inputs ∧ (enterMute s).now = s.now ∧
    (enterMute s).seed = s.seed ∧ (enterMute s).selfTest = s.selfTest ∧ (enterMute s).roster = s.roster ∧
    (enterMute s).job = s.job ∧ (enterMute s).gen = s.gen ∧ (enterMute s).pacer = s.pacer ∧
    (enterMute s).store = s.store ∧ (enterMute s).pq = s.pq ∧ (enterMute s).map = s.map ∧ (enterMute s).seq = s.seq ∧
    (enterMute s).motion = s.motion ∧ (enterMute s).guard = s.guard ∧ (enterMute s).pending = s.pending := by
  simp [enterMute]

@[simp] theorem failTransmit_frame (t : Sending) (s : State) :
    (failTransmit t s).straps = s.straps ∧ (failTransmit t s).inputs = s.inputs ∧ (failTransmit t s).now = s.now ∧
    (failTransmit t s).seed = s.seed ∧ (failTransmit t s).selfTest = s.selfTest ∧
    (failTransmit t s).roster = s.roster ∧ (failTransmit t s).job = s.job ∧ (failTransmit t s).gen = s.gen ∧
    (failTransmit t s).pacer = s.pacer ∧ (failTransmit t s).store = s.store ∧ (failTransmit t s).pq = s.pq ∧
    (failTransmit t s).map = s.map ∧ (failTransmit t s).seq = s.seq ∧ (failTransmit t s).motion = s.motion ∧
    (failTransmit t s).pending = s.pending := by
  unfold failTransmit
  dsimp only
  repeat' split
  all_goals simp

@[simp] theorem echoMismatch_frame (t : Sending) (s : State) :
    (echoMismatch t s).straps = s.straps ∧ (echoMismatch t s).inputs = s.inputs ∧ (echoMismatch t s).now = s.now ∧
    (echoMismatch t s).seed = s.seed ∧ (echoMismatch t s).selfTest = s.selfTest ∧
    (echoMismatch t s).roster = s.roster ∧ (echoMismatch t s).job = s.job ∧ (echoMismatch t s).gen = s.gen ∧
    (echoMismatch t s).pacer = s.pacer ∧ (echoMismatch t s).store = s.store ∧ (echoMismatch t s).pq = s.pq ∧
    (echoMismatch t s).map = s.map ∧ (echoMismatch t s).seq = s.seq ∧ (echoMismatch t s).motion = s.motion ∧
    (echoMismatch t s).pending = s.pending := by
  simp [echoMismatch]

@[simp] theorem reachSent_frame (heard : Bool) (s : State) :
    (reachSent heard s).straps = s.straps ∧ (reachSent heard s).inputs = s.inputs ∧ (reachSent heard s).now = s.now ∧
    (reachSent heard s).seed = s.seed ∧ (reachSent heard s).selfTest = s.selfTest ∧ (reachSent heard s).bus = s.bus ∧
    (reachSent heard s).roster = s.roster ∧ (reachSent heard s).job = s.job ∧ (reachSent heard s).gen = s.gen ∧
    (reachSent heard s).pacer = s.pacer ∧ (reachSent heard s).store = s.store ∧ (reachSent heard s).pq = s.pq ∧
    (reachSent heard s).map = s.map ∧ (reachSent heard s).seq = s.seq ∧ (reachSent heard s).motion = s.motion ∧
    (reachSent heard s).cond = s.cond ∧ (reachSent heard s).pending = s.pending := by
  simp [reachSent]

@[simp] theorem traceSent_frame (payload : List Byte) (s : State) :
    (traceSent payload s).straps = s.straps ∧ (traceSent payload s).inputs = s.inputs ∧
    (traceSent payload s).now = s.now ∧ (traceSent payload s).seed = s.seed ∧
    (traceSent payload s).selfTest = s.selfTest ∧ (traceSent payload s).bus = s.bus ∧
    (traceSent payload s).roster = s.roster ∧ (traceSent payload s).job = s.job ∧ (traceSent payload s).gen = s.gen ∧
    (traceSent payload s).store = s.store ∧ (traceSent payload s).pq = s.pq ∧ (traceSent payload s).map = s.map ∧
    (traceSent payload s).seq = s.seq ∧ (traceSent payload s).motion = s.motion ∧
    (traceSent payload s).guard = s.guard ∧ (traceSent payload s).cond = s.cond ∧
    (traceSent payload s).pending = s.pending := by
  unfold traceSent
  split <;> simp

@[simp] theorem frameLeft_frame (t : Sending) (heard : Bool) (s : State) :
    (frameLeft t heard s).straps = s.straps ∧ (frameLeft t heard s).inputs = s.inputs ∧
    (frameLeft t heard s).now = s.now ∧ (frameLeft t heard s).seed = s.seed ∧
    (frameLeft t heard s).selfTest = s.selfTest ∧ (frameLeft t heard s).pq = s.pq ∧
    (frameLeft t heard s).map = s.map ∧ (frameLeft t heard s).seq = s.seq ∧ (frameLeft t heard s).pending = s.pending := by
  unfold frameLeft
  split <;> simp

@[simp] theorem endTransmit_frame (t : Sending) (heard : Bool) (s : State) :
    (endTransmit t heard s).straps = s.straps ∧ (endTransmit t heard s).inputs = s.inputs ∧
    (endTransmit t heard s).now = s.now ∧ (endTransmit t heard s).seed = s.seed ∧
    (endTransmit t heard s).selfTest = s.selfTest ∧ (endTransmit t heard s).pq = s.pq ∧
    (endTransmit t heard s).map = s.map ∧ (endTransmit t heard s).seq = s.seq ∧
    (endTransmit t heard s).pending = s.pending := by
  simp [endTransmit]

@[simp] theorem accept_frame (f : Frame) (s : State) :
    (accept f s).straps = s.straps ∧ (accept f s).inputs = s.inputs ∧ (accept f s).now = s.now ∧
    (accept f s).seed = s.seed ∧ (accept f s).selfTest = s.selfTest ∧ (accept f s).roster = s.roster ∧
    (accept f s).job = s.job ∧ (accept f s).gen = s.gen ∧ (accept f s).pacer = s.pacer ∧
    (accept f s).store = s.store ∧ (accept f s).pq = s.pq ∧ (accept f s).map = s.map ∧ (accept f s).seq = s.seq ∧
    (accept f s).motion = s.motion ∧ (accept f s).guard = s.guard ∧ (accept f s).cond = s.cond ∧
    (accept f s).pending = s.pending := by
  unfold accept
  dsimp only
  repeat' split
  all_goals simp

@[simp] theorem settle_frame (bytes : List Byte) (s : State) :
    (settle bytes s).straps = s.straps ∧ (settle bytes s).inputs = s.inputs ∧ (settle bytes s).now = s.now ∧
    (settle bytes s).seed = s.seed ∧ (settle bytes s).selfTest = s.selfTest ∧ (settle bytes s).roster = s.roster ∧
    (settle bytes s).job = s.job ∧ (settle bytes s).gen = s.gen ∧ (settle bytes s).pacer = s.pacer ∧
    (settle bytes s).store = s.store ∧ (settle bytes s).pq = s.pq ∧ (settle bytes s).map = s.map ∧
    (settle bytes s).seq = s.seq ∧ (settle bytes s).motion = s.motion ∧ (settle bytes s).guard = s.guard ∧
    (settle bytes s).pending = s.pending := by
  unfold settle
  repeat' split
  all_goals simp

@[simp] theorem clearAck_frame (s : State) :
    (clearAck s).straps = s.straps ∧ (clearAck s).inputs = s.inputs ∧ (clearAck s).now = s.now ∧
    (clearAck s).seed = s.seed ∧ (clearAck s).selfTest = s.selfTest ∧ (clearAck s).roster = s.roster ∧
    (clearAck s).job = s.job ∧ (clearAck s).gen = s.gen ∧ (clearAck s).pacer = s.pacer ∧
    (clearAck s).store = s.store ∧ (clearAck s).pq = s.pq ∧ (clearAck s).map = s.map ∧ (clearAck s).seq = s.seq ∧
    (clearAck s).motion = s.motion ∧ (clearAck s).guard = s.guard ∧ (clearAck s).cond = s.cond ∧
    (clearAck s).pending = s.pending := by
  simp [clearAck]

@[simp] theorem readBack_frame (t : Sending) (bytes : List Byte) (s : State) :
    (readBack t bytes s).straps = s.straps ∧ (readBack t bytes s).inputs = s.inputs ∧
    (readBack t bytes s).now = s.now ∧ (readBack t bytes s).seed = s.seed ∧
    (readBack t bytes s).selfTest = s.selfTest ∧ (readBack t bytes s).roster = s.roster ∧
    (readBack t bytes s).job = s.job ∧ (readBack t bytes s).gen = s.gen ∧ (readBack t bytes s).pacer = s.pacer ∧
    (readBack t bytes s).store = s.store ∧ (readBack t bytes s).pq = s.pq ∧ (readBack t bytes s).map = s.map ∧
    (readBack t bytes s).seq = s.seq ∧ (readBack t bytes s).motion = s.motion ∧
    (readBack t bytes s).pending = s.pending := by
  unfold readBack
  repeat' split
  all_goals simp

@[simp] theorem receive_frame (bytes : List Byte) (s : State) :
    (receive bytes s).straps = s.straps ∧ (receive bytes s).inputs = s.inputs ∧ (receive bytes s).now = s.now ∧
    (receive bytes s).seed = s.seed ∧ (receive bytes s).selfTest = s.selfTest ∧ (receive bytes s).roster = s.roster ∧
    (receive bytes s).job = s.job ∧ (receive bytes s).gen = s.gen ∧ (receive bytes s).pacer = s.pacer ∧
    (receive bytes s).store = s.store ∧ (receive bytes s).pq = s.pq ∧ (receive bytes s).map = s.map ∧
    (receive bytes s).seq = s.seq ∧ (receive bytes s).motion = s.motion ∧ (receive bytes s).pending = s.pending := by
  unfold receive
  dsimp only
  repeat' split
  all_goals simp

/-! ## The Job Store -/

@[simp] theorem armCarver_frame (c : CarverJob) (s : State) :
    (armCarver c s).straps = s.straps ∧ (armCarver c s).inputs = s.inputs ∧ (armCarver c s).now = s.now ∧
    (armCarver c s).seed = s.seed ∧ (armCarver c s).selfTest = s.selfTest ∧ (armCarver c s).bus = s.bus ∧
    (armCarver c s).roster = s.roster ∧ (armCarver c s).job = s.job ∧ (armCarver c s).gen = s.gen ∧
    (armCarver c s).pacer = s.pacer ∧ (armCarver c s).store = s.store ∧ (armCarver c s).motion = s.motion ∧
    (armCarver c s).guard = s.guard ∧ (armCarver c s).cond = s.cond ∧ (armCarver c s).pending = s.pending := by
  unfold armCarver
  split <;> simp

@[simp] theorem armTracer_frame (s : State) :
    (armTracer s).straps = s.straps ∧ (armTracer s).inputs = s.inputs ∧ (armTracer s).now = s.now ∧
    (armTracer s).seed = s.seed ∧ (armTracer s).selfTest = s.selfTest ∧ (armTracer s).bus = s.bus ∧
    (armTracer s).roster = s.roster ∧ (armTracer s).job = s.job ∧ (armTracer s).gen = s.gen ∧
    (armTracer s).pq = s.pq ∧ (armTracer s).map = s.map ∧ (armTracer s).seq = s.seq ∧
    (armTracer s).motion = s.motion ∧ (armTracer s).guard = s.guard ∧ (armTracer s).cond = s.cond ∧
    (armTracer s).pending = s.pending := by
  simp [armTracer]

@[simp] theorem armMotion_frame (s : State) :
    (armMotion s).straps = s.straps ∧ (armMotion s).inputs = s.inputs ∧ (armMotion s).now = s.now ∧
    (armMotion s).seed = s.seed ∧ (armMotion s).selfTest = s.selfTest ∧ (armMotion s).bus = s.bus ∧
    (armMotion s).roster = s.roster ∧ (armMotion s).job = s.job ∧ (armMotion s).gen = s.gen ∧
    (armMotion s).pacer = s.pacer ∧ (armMotion s).store = s.store ∧ (armMotion s).pq = s.pq ∧
    (armMotion s).map = s.map ∧ (armMotion s).seq = s.seq ∧ (armMotion s).guard = s.guard ∧
    (armMotion s).cond = s.cond ∧ (armMotion s).pending = s.pending := by
  simp [armMotion]

@[simp] theorem arm_frame (r : JobRecord) (s : State) :
    (arm r s).straps = s.straps ∧ (arm r s).inputs = s.inputs ∧ (arm r s).now = s.now ∧ (arm r s).seed = s.seed ∧
    (arm r s).selfTest = s.selfTest ∧ (arm r s).roster = s.roster ∧ (arm r s).gen = s.gen ∧ (arm r s).cond = s.cond ∧
    (arm r s).pending = s.pending := by
  unfold arm
  split <;> simp

@[simp] theorem refuse_frame (id : Nat) (code : JobCode) (index : Nat) (s : State) :
    (refuse id code index s).straps = s.straps ∧ (refuse id code index s).inputs = s.inputs ∧
    (refuse id code index s).now = s.now ∧ (refuse id code index s).seed = s.seed ∧
    (refuse id code index s).selfTest = s.selfTest ∧ (refuse id code index s).roster = s.roster ∧
    (refuse id code index s).gen = s.gen ∧ (refuse id code index s).pacer = s.pacer ∧
    (refuse id code index s).store = s.store ∧ (refuse id code index s).pq = s.pq ∧
    (refuse id code index s).map = s.map ∧ (refuse id code index s).seq = s.seq ∧
    (refuse id code index s).motion = s.motion ∧ (refuse id code index s).guard = s.guard ∧
    (refuse id code index s).pending = s.pending := by
  simp [refuse]

@[simp] theorem dropAssembly_frame (s : State) :
    (dropAssembly s).straps = s.straps ∧ (dropAssembly s).inputs = s.inputs ∧ (dropAssembly s).now = s.now ∧
    (dropAssembly s).seed = s.seed ∧ (dropAssembly s).selfTest = s.selfTest ∧ (dropAssembly s).bus = s.bus ∧
    (dropAssembly s).roster = s.roster ∧ (dropAssembly s).gen = s.gen ∧ (dropAssembly s).pacer = s.pacer ∧
    (dropAssembly s).store = s.store ∧ (dropAssembly s).pq = s.pq ∧ (dropAssembly s).map = s.map ∧
    (dropAssembly s).seq = s.seq ∧ (dropAssembly s).guard = s.guard ∧ (dropAssembly s).cond = s.cond ∧
    (dropAssembly s).pending = s.pending := by
  unfold dropAssembly
  split <;> simp

@[simp] theorem endAssembly_frame (a : Assembly) (s : State) :
    (endAssembly a s).straps = s.straps ∧ (endAssembly a s).inputs = s.inputs ∧ (endAssembly a s).now = s.now ∧
    (endAssembly a s).seed = s.seed ∧ (endAssembly a s).selfTest = s.selfTest ∧ (endAssembly a s).roster = s.roster ∧
    (endAssembly a s).gen = s.gen ∧ (endAssembly a s).pending = s.pending := by
  unfold endAssembly
  repeat' split
  all_goals simp

@[simp] theorem keepAssembly_frame (a : Assembly) (more : Bool) (s : State) :
    (keepAssembly a more s).straps = s.straps ∧ (keepAssembly a more s).inputs = s.inputs ∧
    (keepAssembly a more s).now = s.now ∧ (keepAssembly a more s).seed = s.seed ∧
    (keepAssembly a more s).selfTest = s.selfTest ∧ (keepAssembly a more s).roster = s.roster ∧
    (keepAssembly a more s).gen = s.gen ∧ (keepAssembly a more s).pending = s.pending := by
  unfold keepAssembly
  split <;> simp

@[simp] theorem startAssembly_frame (g : Segment) (s : State) :
    (startAssembly g s).straps = s.straps ∧ (startAssembly g s).inputs = s.inputs ∧ (startAssembly g s).now = s.now ∧
    (startAssembly g s).seed = s.seed ∧ (startAssembly g s).selfTest = s.selfTest ∧
    (startAssembly g s).roster = s.roster ∧ (startAssembly g s).gen = s.gen ∧ (startAssembly g s).pending = s.pending := by
  unfold startAssembly
  split <;> simp

@[simp] theorem continueAssembly_frame (a : Assembly) (g : Segment) (s : State) :
    (continueAssembly a g s).straps = s.straps ∧ (continueAssembly a g s).inputs = s.inputs ∧
    (continueAssembly a g s).now = s.now ∧ (continueAssembly a g s).seed = s.seed ∧
    (continueAssembly a g s).selfTest = s.selfTest ∧ (continueAssembly a g s).roster = s.roster ∧
    (continueAssembly a g s).gen = s.gen ∧ (continueAssembly a g s).pending = s.pending := by
  unfold continueAssembly
  repeat' split
  all_goals simp

@[simp] theorem takeSegment_frame (g : Segment) (s : State) :
    (takeSegment g s).straps = s.straps ∧ (takeSegment g s).inputs = s.inputs ∧ (takeSegment g s).now = s.now ∧
    (takeSegment g s).seed = s.seed ∧ (takeSegment g s).selfTest = s.selfTest ∧ (takeSegment g s).roster = s.roster ∧
    (takeSegment g s).gen = s.gen ∧ (takeSegment g s).pending = s.pending := by
  unfold takeSegment
  repeat' split
  all_goals simp

@[simp] theorem takeJob_frame (f : Frame) (s : State) :
    (takeJob f s).straps = s.straps ∧ (takeJob f s).inputs = s.inputs ∧ (takeJob f s).now = s.now ∧
    (takeJob f s).seed = s.seed ∧ (takeJob f s).selfTest = s.selfTest ∧ (takeJob f s).roster = s.roster ∧
    (takeJob f s).gen = s.gen ∧ (takeJob f s).pending = s.pending := by
  unfold takeJob
  split <;> simp

end Sys2Proof.Machine
end

