-- ==== Sys2Proof/Laws/FrameCommands.lean ====
section
/-! SUPPORT. Frame lemmas, one per operation: the blocks of State that it leaves as they are. This file: what the commands do with frames taken, timers, drives and the clock. -/

namespace Sys2Proof.Machine

open Sys2Proof

/-! ## Frames taken -/

@[simp] theorem answerJoin_frame (s : State) :
    (answerJoin s).straps = s.straps ∧ (answerJoin s).inputs = s.inputs ∧ (answerJoin s).now = s.now ∧
    (answerJoin s).seed = s.seed ∧ (answerJoin s).selfTest = s.selfTest ∧ (answerJoin s).job = s.job ∧
    (answerJoin s).gen = s.gen ∧ (answerJoin s).pacer = s.pacer ∧ (answerJoin s).store = s.store ∧
    (answerJoin s).pq = s.pq ∧ (answerJoin s).map = s.map ∧ (answerJoin s).seq = s.seq ∧
    (answerJoin s).motion = s.motion ∧ (answerJoin s).guard = s.guard ∧ (answerJoin s).cond = s.cond ∧
    (answerJoin s).pending = s.pending := by
  unfold answerJoin
  split <;> simp

@[simp] theorem acceptJoin_frame (k : Nat) (p : Peer) (answer : Bool) (s : State) :
    (acceptJoin k p answer s).straps = s.straps ∧ (acceptJoin k p answer s).inputs = s.inputs ∧
    (acceptJoin k p answer s).now = s.now ∧ (acceptJoin k p answer s).seed = s.seed ∧
    (acceptJoin k p answer s).selfTest = s.selfTest ∧ (acceptJoin k p answer s).pq = s.pq ∧
    (acceptJoin k p answer s).map = s.map ∧ (acceptJoin k p answer s).seq = s.seq ∧
    (acceptJoin k p answer s).pending = s.pending := by
  unfold acceptJoin
  dsimp only
  repeat' split
  all_goals simp

@[simp] theorem takeJoin_frame (f : Frame) (s : State) :
    (takeJoin f s).straps = s.straps ∧ (takeJoin f s).inputs = s.inputs ∧ (takeJoin f s).now = s.now ∧
    (takeJoin f s).seed = s.seed ∧ (takeJoin f s).selfTest = s.selfTest ∧ (takeJoin f s).pq = s.pq ∧
    (takeJoin f s).map = s.map ∧ (takeJoin f s).seq = s.seq ∧ (takeJoin f s).pending = s.pending := by
  unfold takeJoin
  repeat' split
  all_goals simp

@[simp] theorem startEnrolment_frame (s : State) :
    (startEnrolment s).straps = s.straps ∧ (startEnrolment s).inputs = s.inputs ∧ (startEnrolment s).now = s.now ∧
    (startEnrolment s).seed = s.seed ∧ (startEnrolment s).selfTest = s.selfTest ∧ (startEnrolment s).bus = s.bus ∧
    (startEnrolment s).roster = s.roster ∧ (startEnrolment s).job = s.job ∧ (startEnrolment s).store = s.store ∧
    (startEnrolment s).pq = s.pq ∧ (startEnrolment s).map = s.map ∧ (startEnrolment s).seq = s.seq ∧
    (startEnrolment s).motion = s.motion ∧ (startEnrolment s).guard = s.guard ∧ (startEnrolment s).cond = s.cond ∧
    (startEnrolment s).pending = s.pending := by
  simp [startEnrolment]

@[simp] theorem startJob_frame (s : State) :
    (startJob s).straps = s.straps ∧ (startJob s).inputs = s.inputs ∧ (startJob s).now = s.now ∧
    (startJob s).seed = s.seed ∧ (startJob s).selfTest = s.selfTest ∧ (startJob s).roster = s.roster ∧
    (startJob s).seq = s.seq ∧ (startJob s).pending = s.pending := by
  unfold startJob
  dsimp only
  repeat' split
  all_goals simp

@[simp] theorem takeStart_frame (f : Frame) (s : State) :
    (takeStart f s).straps = s.straps ∧ (takeStart f s).inputs = s.inputs ∧ (takeStart f s).now = s.now ∧
    (takeStart f s).seed = s.seed ∧ (takeStart f s).selfTest = s.selfTest ∧ (takeStart f s).roster = s.roster ∧
    (takeStart f s).seq = s.seq ∧ (takeStart f s).pending = s.pending := by
  unfold takeStart
  split <;> simp

@[simp] theorem endWork_frame (s : State) :
    (endWork s).straps = s.straps ∧ (endWork s).inputs = s.inputs ∧ (endWork s).now = s.now ∧
    (endWork s).selfTest = s.selfTest ∧ (endWork s).roster = s.roster ∧ (endWork s).job = s.job ∧
    (endWork s).gen = s.gen ∧ (endWork s).pacer = s.pacer ∧ (endWork s).store = s.store ∧
    (endWork s).motion = s.motion ∧ (endWork s).cond = s.cond ∧ (endWork s).pending = s.pending := by
  simp [endWork]

@[simp] theorem endStream_frame (s : State) :
    (endStream s).straps = s.straps ∧ (endStream s).inputs = s.inputs ∧ (endStream s).now = s.now ∧
    (endStream s).seed = s.seed ∧ (endStream s).selfTest = s.selfTest ∧ (endStream s).roster = s.roster ∧
    (endStream s).job = s.job ∧ (endStream s).store = s.store ∧
    (endStream s).pq = s.pq ∧ (endStream s).map = s.map ∧ (endStream s).seq = s.seq ∧
    (endStream s).cond = s.cond ∧ (endStream s).pending = s.pending := by
  simp [endStream]

@[simp] theorem endTracing_frame (s : State) :
    (endTracing s).straps = s.straps ∧ (endTracing s).inputs = s.inputs ∧ (endTracing s).now = s.now ∧
    (endTracing s).seed = s.seed ∧ (endTracing s).selfTest = s.selfTest ∧ (endTracing s).roster = s.roster ∧
    (endTracing s).job = s.job ∧ (endTracing s).pq = s.pq ∧ (endTracing s).map = s.map ∧ (endTracing s).seq = s.seq ∧
    (endTracing s).cond = s.cond ∧ (endTracing s).pending = s.pending := by
  simp [endTracing]

@[simp] theorem discardJob_frame (s : State) :
    (discardJob s).straps = s.straps ∧ (discardJob s).inputs = s.inputs ∧ (discardJob s).now = s.now ∧
    (discardJob s).seed = s.seed ∧ (discardJob s).selfTest = s.selfTest ∧ (discardJob s).bus = s.bus ∧
    (discardJob s).roster = s.roster ∧ (discardJob s).gen = s.gen ∧ (discardJob s).pacer = s.pacer ∧
    (discardJob s).store = s.store ∧ (discardJob s).pq = s.pq ∧ (discardJob s).map = s.map ∧
    (discardJob s).seq = s.seq ∧ (discardJob s).guard = s.guard ∧ (discardJob s).cond = s.cond ∧
    (discardJob s).pending = s.pending := by
  simp [discardJob]

@[simp] theorem abortCarver_frame (c : CarverJob) (s : State) :
    (abortCarver c s).straps = s.straps ∧ (abortCarver c s).inputs = s.inputs ∧ (abortCarver c s).now = s.now ∧
    (abortCarver c s).selfTest = s.selfTest ∧ (abortCarver c s).roster = s.roster ∧ (abortCarver c s).gen = s.gen ∧
    (abortCarver c s).pacer = s.pacer ∧ (abortCarver c s).store = s.store ∧ (abortCarver c s).pending = s.pending := by
  unfold abortCarver
  dsimp only
  repeat' split
  all_goals simp

@[simp] theorem abortTracer_frame (s : State) :
    (abortTracer s).straps = s.straps ∧ (abortTracer s).inputs = s.inputs ∧ (abortTracer s).now = s.now ∧
    (abortTracer s).seed = s.seed ∧ (abortTracer s).selfTest = s.selfTest ∧ (abortTracer s).seq = s.seq ∧
    (abortTracer s).pending = s.pending := by
  unfold abortTracer
  dsimp only
  repeat' split
  all_goals simp

@[simp] theorem abortLoading_frame (s : State) :
    (abortLoading s).straps = s.straps ∧ (abortLoading s).inputs = s.inputs ∧ (abortLoading s).now = s.now ∧
    (abortLoading s).seed = s.seed ∧ (abortLoading s).selfTest = s.selfTest ∧ (abortLoading s).pq = s.pq ∧
    (abortLoading s).map = s.map ∧ (abortLoading s).seq = s.seq ∧ (abortLoading s).pending = s.pending := by
  unfold abortLoading
  dsimp only
  split <;> simp

@[simp] theorem abortJob_frame (s : State) :
    (abortJob s).straps = s.straps ∧ (abortJob s).inputs = s.inputs ∧ (abortJob s).now = s.now ∧
    (abortJob s).selfTest = s.selfTest ∧ (abortJob s).pending = s.pending := by
  unfold abortJob
  repeat' split
  all_goals simp

@[simp] theorem takeAbort_frame (f : Frame) (s : State) :
    (takeAbort f s).straps = s.straps ∧ (takeAbort f s).inputs = s.inputs ∧ (takeAbort f s).now = s.now ∧
    (takeAbort f s).selfTest = s.selfTest ∧ (takeAbort f s).pending = s.pending := by
  unfold takeAbort
  split <;> simp

@[simp] theorem excuseCarver_frame (k : Nat) (r : JobRecord) (t : TracerJob) (s : State) :
    (excuseCarver k r t s).straps = s.straps ∧ (excuseCarver k r t s).inputs = s.inputs ∧
    (excuseCarver k r t s).now = s.now ∧ (excuseCarver k r t s).seed = s.seed ∧
    (excuseCarver k r t s).selfTest = s.selfTest ∧ (excuseCarver k r t s).roster = s.roster ∧
    (excuseCarver k r t s).pq = s.pq ∧ (excuseCarver k r t s).map = s.map ∧ (excuseCarver k r t s).seq = s.seq ∧
    (excuseCarver k r t s).pending = s.pending := by
  unfold excuseCarver
  dsimp only
  repeat' split
  all_goals simp

@[simp] theorem tracerExcuse_frame (f : Frame) (s : State) :
    (tracerExcuse f s).straps = s.straps ∧ (tracerExcuse f s).inputs = s.inputs ∧ (tracerExcuse f s).now = s.now ∧
    (tracerExcuse f s).seed = s.seed ∧ (tracerExcuse f s).selfTest = s.selfTest ∧
    (tracerExcuse f s).roster = s.roster ∧ (tracerExcuse f s).pq = s.pq ∧ (tracerExcuse f s).map = s.map ∧
    (tracerExcuse f s).seq = s.seq ∧ (tracerExcuse f s).pending = s.pending := by
  unfold tracerExcuse
  repeat' split
  all_goals simp

@[simp] theorem becomeExcused_frame (s : State) :
    (becomeExcused s).straps = s.straps ∧ (becomeExcused s).inputs = s.inputs ∧ (becomeExcused s).now = s.now ∧
    (becomeExcused s).selfTest = s.selfTest ∧ (becomeExcused s).roster = s.roster ∧ (becomeExcused s).gen = s.gen ∧
    (becomeExcused s).pacer = s.pacer ∧ (becomeExcused s).store = s.store ∧ (becomeExcused s).pending = s.pending := by
  unfold becomeExcused
  dsimp only
  repeat' split
  all_goals simp

@[simp] theorem carverExcuse_frame (f : Frame) (s : State) :
    (carverExcuse f s).straps = s.straps ∧ (carverExcuse f s).inputs = s.inputs ∧ (carverExcuse f s).now = s.now ∧
    (carverExcuse f s).selfTest = s.selfTest ∧ (carverExcuse f s).roster = s.roster ∧
    (carverExcuse f s).gen = s.gen ∧ (carverExcuse f s).pacer = s.pacer ∧ (carverExcuse f s).store = s.store ∧
    (carverExcuse f s).pending = s.pending := by
  unfold carverExcuse
  repeat' split
  all_goals simp

@[simp] theorem takeExcuse_frame (f : Frame) (s : State) :
    (takeExcuse f s).straps = s.straps ∧ (takeExcuse f s).inputs = s.inputs ∧ (takeExcuse f s).now = s.now ∧
    (takeExcuse f s).selfTest = s.selfTest ∧ (takeExcuse f s).roster = s.roster ∧
    (takeExcuse f s).pending = s.pending := by
  unfold takeExcuse
  split <;> simp

@[simp] theorem resumeCarver_frame (s : State) :
    (resumeCarver s).straps = s.straps ∧ (resumeCarver s).inputs = s.inputs ∧ (resumeCarver s).now = s.now ∧
    (resumeCarver s).seed = s.seed ∧ (resumeCarver s).selfTest = s.selfTest ∧ (resumeCarver s).roster = s.roster ∧
    (resumeCarver s).gen = s.gen ∧ (resumeCarver s).pacer = s.pacer ∧ (resumeCarver s).store = s.store ∧
    (resumeCarver s).seq = s.seq ∧ (resumeCarver s).pending = s.pending := by
  simp [resumeCarver]

@[simp] theorem reachHeld_frame (s : State) :
    (reachHeld s).straps = s.straps ∧ (reachHeld s).inputs = s.inputs ∧ (reachHeld s).now = s.now ∧
    (reachHeld s).seed = s.seed ∧ (reachHeld s).selfTest = s.selfTest ∧ (reachHeld s).roster = s.roster ∧
    (reachHeld s).pq = s.pq ∧ (reachHeld s).map = s.map ∧ (reachHeld s).seq = s.seq ∧
    (reachHeld s).pending = s.pending := by
  unfold reachHeld
  split <;> simp

@[simp] theorem offerHeldFinish_frame (s : State) :
    (offerHeldFinish s).straps = s.straps ∧ (offerHeldFinish s).inputs = s.inputs ∧ (offerHeldFinish s).now = s.now ∧
    (offerHeldFinish s).seed = s.seed ∧ (offerHeldFinish s).selfTest = s.selfTest ∧
    (offerHeldFinish s).roster = s.roster ∧ (offerHeldFinish s).gen = s.gen ∧ (offerHeldFinish s).store = s.store ∧
    (offerHeldFinish s).pq = s.pq ∧ (offerHeldFinish s).map = s.map ∧ (offerHeldFinish s).seq = s.seq ∧
    (offerHeldFinish s).guard = s.guard ∧ (offerHeldFinish s).cond = s.cond ∧ (offerHeldFinish s).pending = s.pending := by
  unfold offerHeldFinish
  split <;> simp

@[simp] theorem resumeTracer_frame (s : State) :
    (resumeTracer s).straps = s.straps ∧ (resumeTracer s).inputs = s.inputs ∧ (resumeTracer s).now = s.now ∧
    (resumeTracer s).seed = s.seed ∧ (resumeTracer s).selfTest = s.selfTest ∧ (resumeTracer s).roster = s.roster ∧
    (resumeTracer s).seq = s.seq ∧ (resumeTracer s).pending = s.pending := by
  simp [resumeTracer]

@[simp] theorem resumeJob_frame (s : State) :
    (resumeJob s).straps = s.straps ∧ (resumeJob s).inputs = s.inputs ∧ (resumeJob s).now = s.now ∧
    (resumeJob s).seed = s.seed ∧ (resumeJob s).selfTest = s.selfTest ∧ (resumeJob s).roster = s.roster ∧
    (resumeJob s).seq = s.seq ∧ (resumeJob s).pending = s.pending := by
  unfold resumeJob
  dsimp only
  repeat' split
  all_goals simp

@[simp] theorem takeResume_frame (f : Frame) (s : State) :
    (takeResume f s).straps = s.straps ∧ (takeResume f s).inputs = s.inputs ∧ (takeResume f s).now = s.now ∧
    (takeResume f s).seed = s.seed ∧ (takeResume f s).selfTest = s.selfTest ∧ (takeResume f s).roster = s.roster ∧
    (takeResume f s).seq = s.seq ∧ (takeResume f s).pending = s.pending := by
  unfold takeResume
  repeat' split
  all_goals simp

@[simp] theorem clearAll_frame (l : List Cond) (s : State) :
    (clearAll l s).straps = s.straps ∧ (clearAll l s).inputs = s.inputs ∧ (clearAll l s).now = s.now ∧
    (clearAll l s).seed = s.seed ∧ (clearAll l s).selfTest = s.selfTest ∧ (clearAll l s).roster = s.roster ∧
    (clearAll l s).job = s.job ∧ (clearAll l s).gen = s.gen ∧ (clearAll l s).pacer = s.pacer ∧
    (clearAll l s).store = s.store ∧ (clearAll l s).pq = s.pq ∧ (clearAll l s).map = s.map ∧
    (clearAll l s).seq = s.seq ∧ (clearAll l s).motion = s.motion ∧ (clearAll l s).guard = s.guard ∧
    (clearAll l s).pending = s.pending := by
  simp [clearAll]

@[simp] theorem takeClear_frame (f : Frame) (s : State) :
    (takeClear f s).straps = s.straps ∧ (takeClear f s).inputs = s.inputs ∧ (takeClear f s).now = s.now ∧
    (takeClear f s).seed = s.seed ∧ (takeClear f s).selfTest = s.selfTest ∧ (takeClear f s).roster = s.roster ∧
    (takeClear f s).job = s.job ∧ (takeClear f s).gen = s.gen ∧ (takeClear f s).pacer = s.pacer ∧
    (takeClear f s).store = s.store ∧ (takeClear f s).pq = s.pq ∧ (takeClear f s).map = s.map ∧
    (takeClear f s).seq = s.seq ∧ (takeClear f s).motion = s.motion ∧ (takeClear f s).guard = s.guard ∧
    (takeClear f s).pending = s.pending := by
  unfold takeClear
  split <;> simp

@[simp] theorem beginDrain_frame (s : State) :
    (beginDrain s).straps = s.straps ∧ (beginDrain s).inputs = s.inputs ∧ (beginDrain s).now = s.now ∧
    (beginDrain s).seed = s.seed ∧ (beginDrain s).selfTest = s.selfTest ∧ (beginDrain s).roster = s.roster ∧
    (beginDrain s).gen = s.gen ∧ (beginDrain s).pacer = s.pacer ∧ (beginDrain s).store = s.store ∧
    (beginDrain s).seq = s.seq ∧ (beginDrain s).pending = s.pending := by
  unfold beginDrain
  split <;> simp

@[simp] theorem takeFinish_frame (f : Frame) (s : State) :
    (takeFinish f s).straps = s.straps ∧ (takeFinish f s).inputs = s.inputs ∧ (takeFinish f s).now = s.now ∧
    (takeFinish f s).seed = s.seed ∧ (takeFinish f s).selfTest = s.selfTest ∧ (takeFinish f s).roster = s.roster ∧
    (takeFinish f s).gen = s.gen ∧ (takeFinish f s).pacer = s.pacer ∧ (takeFinish f s).store = s.store ∧
    (takeFinish f s).seq = s.seq ∧ (takeFinish f s).pending = s.pending := by
  unfold takeFinish
  repeat' split
  all_goals simp

@[simp] theorem creditFrame_frame (f : Frame) (s : State) :
    (creditFrame f s).straps = s.straps ∧ (creditFrame f s).inputs = s.inputs ∧ (creditFrame f s).now = s.now ∧
    (creditFrame f s).seed = s.seed ∧ (creditFrame f s).selfTest = s.selfTest ∧ (creditFrame f s).roster = s.roster ∧
    (creditFrame f s).pq = s.pq ∧ (creditFrame f s).map = s.map ∧ (creditFrame f s).seq = s.seq ∧
    (creditFrame f s).pending = s.pending := by
  unfold creditFrame
  split <;> simp

@[simp] theorem traceFrame_frame (f : Frame) (s : State) :
    (traceFrame f s).straps = s.straps ∧ (traceFrame f s).inputs = s.inputs ∧ (traceFrame f s).now = s.now ∧
    (traceFrame f s).seed = s.seed ∧ (traceFrame f s).selfTest = s.selfTest ∧ (traceFrame f s).roster = s.roster ∧
    (traceFrame f s).job = s.job ∧ (traceFrame f s).gen = s.gen ∧ (traceFrame f s).pacer = s.pacer ∧
    (traceFrame f s).store = s.store ∧ (traceFrame f s).map = s.map ∧ (traceFrame f s).seq = s.seq ∧
    (traceFrame f s).motion = s.motion ∧ (traceFrame f s).guard = s.guard ∧ (traceFrame f s).pending = s.pending := by
  unfold traceFrame
  repeat' split
  all_goals simp

@[simp] theorem reachFrom_frame (side : Side) (v : Seen) (s : State) :
    (reachFrom side v s).straps = s.straps ∧ (reachFrom side v s).inputs = s.inputs ∧
    (reachFrom side v s).now = s.now ∧ (reachFrom side v s).seed = s.seed ∧
    (reachFrom side v s).selfTest = s.selfTest ∧ (reachFrom side v s).roster = s.roster ∧
    (reachFrom side v s).job = s.job ∧ (reachFrom side v s).gen = s.gen ∧ (reachFrom side v s).pacer = s.pacer ∧
    (reachFrom side v s).store = s.store ∧ (reachFrom side v s).pq = s.pq ∧ (reachFrom side v s).map = s.map ∧
    (reachFrom side v s).seq = s.seq ∧ (reachFrom side v s).motion = s.motion ∧
    (reachFrom side v s).pending = s.pending := by
  unfold reachFrom
  dsimp only
  repeat' split
  all_goals simp

@[simp] theorem takeReach_frame (f : Frame) (s : State) :
    (takeReach f s).straps = s.straps ∧ (takeReach f s).inputs = s.inputs ∧ (takeReach f s).now = s.now ∧
    (takeReach f s).seed = s.seed ∧ (takeReach f s).selfTest = s.selfTest ∧ (takeReach f s).roster = s.roster ∧
    (takeReach f s).job = s.job ∧ (takeReach f s).gen = s.gen ∧ (takeReach f s).pacer = s.pacer ∧
    (takeReach f s).store = s.store ∧ (takeReach f s).pq = s.pq ∧ (takeReach f s).map = s.map ∧
    (takeReach f s).seq = s.seq ∧ (takeReach f s).motion = s.motion ∧ (takeReach f s).pending = s.pending := by
  unfold takeReach
  repeat' split
  all_goals simp

@[simp] theorem takeQuery_frame (f : Frame) (s : State) :
    (takeQuery f s).straps = s.straps ∧ (takeQuery f s).inputs = s.inputs ∧ (takeQuery f s).now = s.now ∧
    (takeQuery f s).selfTest = s.selfTest ∧ (takeQuery f s).roster = s.roster ∧ (takeQuery f s).job = s.job ∧
    (takeQuery f s).gen = s.gen ∧ (takeQuery f s).pacer = s.pacer ∧ (takeQuery f s).store = s.store ∧
    (takeQuery f s).pq = s.pq ∧ (takeQuery f s).seq = s.seq ∧ (takeQuery f s).motion = s.motion ∧
    (takeQuery f s).guard = s.guard ∧ (takeQuery f s).pending = s.pending := by
  unfold takeQuery
  split <;> simp

/-! ## Timers -/

@[simp] theorem viewStale_frame (side : Side) (station : Option Nat) (h : Heard) (s : State) :
    (viewStale side station h s).straps = s.straps ∧ (viewStale side station h s).inputs = s.inputs ∧
    (viewStale side station h s).now = s.now ∧ (viewStale side station h s).seed = s.seed ∧
    (viewStale side station h s).selfTest = s.selfTest ∧ (viewStale side station h s).roster = s.roster ∧
    (viewStale side station h s).job = s.job ∧ (viewStale side station h s).gen = s.gen ∧
    (viewStale side station h s).pacer = s.pacer ∧ (viewStale side station h s).store = s.store ∧
    (viewStale side station h s).pq = s.pq ∧ (viewStale side station h s).map = s.map ∧
    (viewStale side station h s).seq = s.seq ∧ (viewStale side station h s).motion = s.motion ∧
    (viewStale side station h s).pending = s.pending := by
  unfold viewStale
  dsimp only
  repeat' split
  all_goals simp

@[simp] theorem fallSilent_frame (k : Nat) (e : LagEntry) (s : State) :
    (fallSilent k e s).straps = s.straps ∧ (fallSilent k e s).inputs = s.inputs ∧ (fallSilent k e s).now = s.now ∧
    (fallSilent k e s).seed = s.seed ∧ (fallSilent k e s).selfTest = s.selfTest ∧
    (fallSilent k e s).roster = s.roster ∧ (fallSilent k e s).job = s.job ∧ (fallSilent k e s).gen = s.gen ∧
    (fallSilent k e s).store = s.store ∧ (fallSilent k e s).pq = s.pq ∧ (fallSilent k e s).map = s.map ∧
    (fallSilent k e s).seq = s.seq ∧ (fallSilent k e s).motion = s.motion ∧ (fallSilent k e s).guard = s.guard ∧
    (fallSilent k e s).pending = s.pending := by
  simp [fallSilent]

@[simp] theorem relieve_frame (o : Override) (s : State) :
    (relieve o s).straps = s.straps ∧ (relieve o s).inputs = s.inputs ∧ (relieve o s).now = s.now ∧
    (relieve o s).seed = s.seed ∧ (relieve o s).selfTest = s.selfTest ∧ (relieve o s).roster = s.roster ∧
    (relieve o s).job = s.job ∧ (relieve o s).gen = s.gen ∧ (relieve o s).pacer = s.pacer ∧
    (relieve o s).store = s.store ∧ (relieve o s).pq = s.pq ∧ (relieve o s).map = s.map ∧ (relieve o s).seq = s.seq ∧
    (relieve o s).guard = s.guard ∧ (relieve o s).pending = s.pending := by
  simp [relieve]

@[simp] theorem stallCarver_frame (s : State) :
    (stallCarver s).straps = s.straps ∧ (stallCarver s).inputs = s.inputs ∧ (stallCarver s).now = s.now ∧
    (stallCarver s).selfTest = s.selfTest ∧ (stallCarver s).roster = s.roster ∧ (stallCarver s).gen = s.gen ∧
    (stallCarver s).pacer = s.pacer ∧ (stallCarver s).store = s.store ∧ (stallCarver s).pending = s.pending := by
  simp [stallCarver]

/-! ## The tracer's own events -/

@[simp] theorem passReport_frame (t : TracerJob) (r : ProbeReport) (s : State) :
    (passReport t r s).straps = s.straps ∧ (passReport t r s).inputs = s.inputs ∧ (passReport t r s).now = s.now ∧
    (passReport t r s).seed = s.seed ∧ (passReport t r s).selfTest = s.selfTest ∧
    (passReport t r s).roster = s.roster ∧ (passReport t r s).job = s.job ∧ (passReport t r s).pacer = s.pacer ∧
    (passReport t r s).store = s.store ∧ (passReport t r s).pq = s.pq ∧ (passReport t r s).map = s.map ∧
    (passReport t r s).seq = s.seq ∧ (passReport t r s).motion = s.motion ∧ (passReport t r s).guard = s.guard ∧
    (passReport t r s).pending = s.pending := by
  unfold passReport
  dsimp only
  repeat' split
  all_goals simp

/-! ## The carver's own events -/

@[simp] theorem closeSweep_frame (e : Entry) (s : State) :
    (closeSweep e s).straps = s.straps ∧ (closeSweep e s).inputs = s.inputs ∧ (closeSweep e s).now = s.now ∧
    (closeSweep e s).seed = s.seed ∧ (closeSweep e s).selfTest = s.selfTest ∧ (closeSweep e s).roster = s.roster ∧
    (closeSweep e s).gen = s.gen ∧ (closeSweep e s).pacer = s.pacer ∧ (closeSweep e s).store = s.store ∧
    (closeSweep e s).pending = s.pending := by
  simp [closeSweep]

/-! ## The drives' events -/

@[simp] theorem moveArrived_frame (m : Move) (probe : Probe) (s : State) :
    (moveArrived m probe s).straps = s.straps ∧ (moveArrived m probe s).inputs = s.inputs ∧
    (moveArrived m probe s).now = s.now ∧ (moveArrived m probe s).seed = s.seed ∧
    (moveArrived m probe s).selfTest = s.selfTest ∧ (moveArrived m probe s).roster = s.roster ∧
    (moveArrived m probe s).job = s.job ∧ (moveArrived m probe s).pacer = s.pacer ∧
    (moveArrived m probe s).store = s.store ∧ (moveArrived m probe s).pq = s.pq ∧
    (moveArrived m probe s).map = s.map ∧ (moveArrived m probe s).seq = s.seq ∧
    (moveArrived m probe s).motion = s.motion ∧ (moveArrived m probe s).guard = s.guard ∧
    (moveArrived m probe s).pending = s.pending := by
  unfold moveArrived
  repeat' split
  all_goals simp

@[simp] theorem handArrival_frame (o : Outstanding) (probe : Probe) (s : State) :
    (handArrival o probe s).straps = s.straps ∧ (handArrival o probe s).inputs = s.inputs ∧
    (handArrival o probe s).now = s.now ∧ (handArrival o probe s).seed = s.seed ∧
    (handArrival o probe s).selfTest = s.selfTest ∧ (handArrival o probe s).roster = s.roster ∧
    (handArrival o probe s).pacer = s.pacer ∧ (handArrival o probe s).store = s.store ∧
    (handArrival o probe s).guard = s.guard ∧ (handArrival o probe s).pending = s.pending := by
  unfold handArrival
  repeat' split
  all_goals simp

@[simp] theorem arriveOne_frame (o : Outstanding) (rest : List Outstanding) (probe : Probe) (s : State) :
    (arriveOne o rest probe s).straps = s.straps ∧ (arriveOne o rest probe s).inputs = s.inputs ∧
    (arriveOne o rest probe s).now = s.now ∧ (arriveOne o rest probe s).seed = s.seed ∧
    (arriveOne o rest probe s).selfTest = s.selfTest ∧ (arriveOne o rest probe s).roster = s.roster ∧
    (arriveOne o rest probe s).pacer = s.pacer ∧ (arriveOne o rest probe s).store = s.store ∧
    (arriveOne o rest probe s).pending = s.pending := by
  simp [arriveOne]

@[simp] theorem arriveTag_frame (tag : Byte) (probe : Probe) (s : State) :
    (arriveTag tag probe s).straps = s.straps ∧ (arriveTag tag probe s).inputs = s.inputs ∧
    (arriveTag tag probe s).now = s.now ∧ (arriveTag tag probe s).seed = s.seed ∧
    (arriveTag tag probe s).selfTest = s.selfTest ∧ (arriveTag tag probe s).roster = s.roster ∧
    (arriveTag tag probe s).pacer = s.pacer ∧ (arriveTag tag probe s).store = s.store ∧
    (arriveTag tag probe s).pending = s.pending := by
  unfold arriveTag
  repeat' split
  all_goals simp

@[simp] theorem releaseAbandoned_frame (s : State) :
    (releaseAbandoned s).straps = s.straps ∧ (releaseAbandoned s).inputs = s.inputs ∧
    (releaseAbandoned s).now = s.now ∧ (releaseAbandoned s).seed = s.seed ∧
    (releaseAbandoned s).selfTest = s.selfTest ∧ (releaseAbandoned s).bus = s.bus ∧
    (releaseAbandoned s).roster = s.roster ∧ (releaseAbandoned s).job = s.job ∧ (releaseAbandoned s).gen = s.gen ∧
    (releaseAbandoned s).pacer = s.pacer ∧ (releaseAbandoned s).store = s.store ∧ (releaseAbandoned s).map = s.map ∧
    (releaseAbandoned s).seq = s.seq ∧ (releaseAbandoned s).motion = s.motion ∧
    (releaseAbandoned s).guard = s.guard ∧ (releaseAbandoned s).cond = s.cond ∧
    (releaseAbandoned s).pending = s.pending := by
  unfold releaseAbandoned
  split <;> simp

@[simp] theorem senseLow_frame (s : State) :
    (senseLow s).straps = s.straps ∧ (senseLow s).now = s.now ∧ (senseLow s).seed = s.seed ∧
    (senseLow s).selfTest = s.selfTest ∧ (senseLow s).roster = s.roster ∧ (senseLow s).job = s.job ∧
    (senseLow s).gen = s.gen ∧ (senseLow s).pacer = s.pacer ∧ (senseLow s).store = s.store ∧ (senseLow s).pq = s.pq ∧
    (senseLow s).map = s.map ∧ (senseLow s).seq = s.seq ∧ (senseLow s).motion = s.motion ∧
    (senseLow s).guard = s.guard ∧ (senseLow s).pending = s.pending := by
  simp [senseLow]


@[simp] theorem stopDrives_frame (s : State) :
    (stopDrives s).straps = s.straps ∧ (stopDrives s).inputs = s.inputs ∧ (stopDrives s).now = s.now ∧
    (stopDrives s).seed = s.seed ∧ (stopDrives s).selfTest = s.selfTest ∧ (stopDrives s).bus = s.bus ∧
    (stopDrives s).roster = s.roster ∧ (stopDrives s).job = s.job ∧ (stopDrives s).gen = s.gen ∧
    (stopDrives s).pacer = s.pacer ∧ (stopDrives s).store = s.store ∧ (stopDrives s).pq = s.pq ∧
    (stopDrives s).map = s.map ∧ (stopDrives s).seq = s.seq ∧ (stopDrives s).guard = s.guard ∧
    (stopDrives s).cond = s.cond ∧ (stopDrives s).pending = s.pending := by
  simp [stopDrives]

@[simp] theorem stopInPlace_frame (s : State) :
    (stopInPlace s).straps = s.straps ∧ (stopInPlace s).inputs = s.inputs ∧ (stopInPlace s).now = s.now ∧
    (stopInPlace s).seed = s.seed ∧ (stopInPlace s).selfTest = s.selfTest ∧ (stopInPlace s).roster = s.roster ∧
    (stopInPlace s).job = s.job ∧ (stopInPlace s).gen = s.gen ∧ (stopInPlace s).pacer = s.pacer ∧
    (stopInPlace s).store = s.store ∧ (stopInPlace s).pq = s.pq ∧ (stopInPlace s).map = s.map ∧
    (stopInPlace s).seq = s.seq ∧ (stopInPlace s).cond = s.cond ∧ (stopInPlace s).pending = s.pending := by
  simp [stopInPlace]

@[simp] theorem enterStopped_frame (s : State) :
    (enterStopped s).straps = s.straps ∧ (enterStopped s).inputs = s.inputs ∧ (enterStopped s).now = s.now ∧
    (enterStopped s).seed = s.seed ∧ (enterStopped s).selfTest = s.selfTest ∧ (enterStopped s).roster = s.roster ∧
    (enterStopped s).gen = s.gen ∧ (enterStopped s).pacer = s.pacer ∧ (enterStopped s).store = s.store ∧
    (enterStopped s).map = s.map ∧ (enterStopped s).cond = s.cond ∧ (enterStopped s).pending = s.pending := by
  simp [enterStopped]

@[simp] theorem stopPort_frame (s : State) :
    (stopPort s).straps = s.straps ∧ (stopPort s).inputs = s.inputs ∧ (stopPort s).now = s.now ∧
    (stopPort s).seed = s.seed ∧ (stopPort s).selfTest = s.selfTest ∧ (stopPort s).roster = s.roster ∧
    (stopPort s).gen = s.gen ∧ (stopPort s).pacer = s.pacer ∧ (stopPort s).store = s.store ∧
    (stopPort s).map = s.map ∧ (stopPort s).cond = s.cond ∧ (stopPort s).pending = s.pending := by
  unfold stopPort
  repeat' split
  all_goals simp


/-! ## The clock -/

@[simp] theorem countTick_frame (s : State) :
    (countTick s).straps = s.straps ∧ (countTick s).inputs = s.inputs.tick ∧ (countTick s).seed = s.seed ∧
    (countTick s).selfTest = s.selfTest ∧ (countTick s).roster = s.roster ∧ (countTick s).job = s.job ∧
    (countTick s).gen = s.gen ∧ (countTick s).store = s.store ∧ (countTick s).seq = s.seq ∧
    (countTick s).cond = s.cond ∧ (countTick s).pending = s.pending := by
  simp [countTick]

end Sys2Proof.Machine
end

