-- ==== Sys2Proof/Laws/BusFields.lean ====
section
/-! SUPPORT. Frame lemmas inside the Bus Controller: the fields of it that an operation leaves as they are. -/

namespace Sys2Proof.Machine

open Sys2Proof

@[simp] theorem Bus.fill_fields (b : Bus) (k : Kind) (dest : Byte) (payload : List Byte) :
    (b.fill k dest payload).sending = b.sending ∧ (b.fill k dest payload).rx = b.rx ∧
    (b.fill k dest payload).rxPhase = b.rxPhase ∧ (b.fill k dest payload).ack = b.ack ∧
    (b.fill k dest payload).resetDue = b.resetDue ∧ (b.fill k dest payload).failures = b.failures ∧
    (b.fill k dest payload).mute = b.mute ∧ (b.fill k dest payload).hold = b.hold ∧
    (b.fill k dest payload).drivePull = b.drivePull ∧ (b.fill k dest payload).breachPull = b.breachPull ∧
    (b.fill k dest payload).sensedLow = b.sensedLow ∧ (b.fill k dest payload).filter = b.filter := by
  simp [Bus.fill]

@[simp] theorem Bus.fillReport_fields (b : Bus) (k : Kind) (dest : Byte) :
    (b.fillReport k dest).sending = b.sending ∧ (b.fillReport k dest).rx = b.rx ∧
    (b.fillReport k dest).rxPhase = b.rxPhase ∧ (b.fillReport k dest).ack = b.ack ∧
    (b.fillReport k dest).resetDue = b.resetDue ∧ (b.fillReport k dest).failures = b.failures ∧
    (b.fillReport k dest).mute = b.mute ∧ (b.fillReport k dest).hold = b.hold ∧
    (b.fillReport k dest).drivePull = b.drivePull ∧ (b.fillReport k dest).breachPull = b.breachPull ∧
    (b.fillReport k dest).sensedLow = b.sensedLow ∧ (b.fillReport k dest).filter = b.filter := by
  unfold Bus.fillReport
  (repeat' split) <;> simp

@[simp] theorem Bus.offerReport_fields (b : Bus) (k : Kind) (dest : Byte) :
    (b.offerReport k dest).rx = b.rx ∧ (b.offerReport k dest).rxPhase = b.rxPhase ∧
    (b.offerReport k dest).ack = b.ack ∧ (b.offerReport k dest).resetDue = b.resetDue ∧
    (b.offerReport k dest).failures = b.failures ∧ (b.offerReport k dest).mute = b.mute ∧
    (b.offerReport k dest).hold = b.hold ∧ (b.offerReport k dest).drivePull = b.drivePull ∧
    (b.offerReport k dest).breachPull = b.breachPull ∧ (b.offerReport k dest).sensedLow = b.sensedLow ∧
    (b.offerReport k dest).filter = b.filter := by
  unfold Bus.offerReport
  (repeat' split) <;> simp

@[simp] theorem Bus.returnFrame_fields (b : Bus) :
    (b.returnFrame).offers = b.offers ∧ (b.returnFrame).rx = b.rx ∧ (b.returnFrame).rxPhase = b.rxPhase ∧
    (b.returnFrame).ack = b.ack ∧ (b.returnFrame).resetDue = b.resetDue ∧ (b.returnFrame).failures = b.failures ∧
    (b.returnFrame).mute = b.mute ∧ (b.returnFrame).hold = b.hold ∧ (b.returnFrame).drivePull = b.drivePull ∧
    (b.returnFrame).breachPull = b.breachPull ∧ (b.returnFrame).sensedLow = b.sensedLow ∧
    (b.returnFrame).filter = b.filter := by
  unfold Bus.returnFrame
  (repeat' split) <;> simp

@[simp] theorem Bus.dropFrame_fields (b : Bus) :
    (b.dropFrame).offers = b.offers ∧ (b.dropFrame).rx = b.rx ∧ (b.dropFrame).rxPhase = b.rxPhase ∧
    (b.dropFrame).ack = b.ack ∧ (b.dropFrame).resetDue = b.resetDue ∧ (b.dropFrame).failures = b.failures ∧
    (b.dropFrame).mute = b.mute ∧ (b.dropFrame).hold = b.hold ∧ (b.dropFrame).drivePull = b.drivePull ∧
    (b.dropFrame).breachPull = b.breachPull ∧ (b.dropFrame).sensedLow = b.sensedLow ∧ (b.dropFrame).filter = b.filter := by
  unfold Bus.dropFrame
  (repeat' split) <;> simp

@[simp] theorem Bus.withdrawTraces_fields (b : Bus) :
    (b.withdrawTraces).sending = b.sending ∧ (b.withdrawTraces).offers = b.offers ∧ (b.withdrawTraces).rx = b.rx ∧
    (b.withdrawTraces).rxPhase = b.rxPhase ∧ (b.withdrawTraces).ack = b.ack ∧
    (b.withdrawTraces).resetDue = b.resetDue ∧ (b.withdrawTraces).failures = b.failures ∧
    (b.withdrawTraces).mute = b.mute ∧ (b.withdrawTraces).hold = b.hold ∧
    (b.withdrawTraces).drivePull = b.drivePull ∧ (b.withdrawTraces).breachPull = b.breachPull ∧
    (b.withdrawTraces).sensedLow = b.sensedLow ∧ (b.withdrawTraces).filter = b.filter := by
  simp [Bus.withdrawTraces]

@[simp] theorem offerReport_bus (k : Kind) (dest : Byte) (s : State) :
    (offerReport k dest s).bus.rx = s.bus.rx ∧ (offerReport k dest s).bus.rxPhase = s.bus.rxPhase ∧
    (offerReport k dest s).bus.ack = s.bus.ack ∧ (offerReport k dest s).bus.resetDue = s.bus.resetDue ∧
    (offerReport k dest s).bus.failures = s.bus.failures ∧ (offerReport k dest s).bus.mute = s.bus.mute ∧
    (offerReport k dest s).bus.hold = s.bus.hold ∧ (offerReport k dest s).bus.drivePull = s.bus.drivePull ∧
    (offerReport k dest s).bus.breachPull = s.bus.breachPull ∧
    (offerReport k dest s).bus.sensedLow = s.bus.sensedLow ∧ (offerReport k dest s).bus.filter = s.bus.filter := by
  unfold offerReport
  (repeat' split) <;> simp

@[simp] theorem offerReach_bus (s : State) :
    (offerReach s).bus.rx = s.bus.rx ∧ (offerReach s).bus.rxPhase = s.bus.rxPhase ∧
    (offerReach s).bus.ack = s.bus.ack ∧ (offerReach s).bus.resetDue = s.bus.resetDue ∧
    (offerReach s).bus.failures = s.bus.failures ∧ (offerReach s).bus.mute = s.bus.mute ∧
    (offerReach s).bus.hold = s.bus.hold ∧ (offerReach s).bus.drivePull = s.bus.drivePull ∧
    (offerReach s).bus.breachPull = s.bus.breachPull ∧ (offerReach s).bus.sensedLow = s.bus.sensedLow ∧
    (offerReach s).bus.filter = s.bus.filter := by
  simp [offerReach]

@[simp] theorem alertRise_bus (c : Cond) (s : State) :
    (alertRise c s).bus.rx = s.bus.rx ∧ (alertRise c s).bus.rxPhase = s.bus.rxPhase ∧
    (alertRise c s).bus.ack = s.bus.ack ∧ (alertRise c s).bus.resetDue = s.bus.resetDue ∧
    (alertRise c s).bus.failures = s.bus.failures ∧ (alertRise c s).bus.mute = s.bus.mute ∧
    (alertRise c s).bus.hold = s.bus.hold ∧ (alertRise c s).bus.drivePull = s.bus.drivePull ∧
    (alertRise c s).bus.breachPull = s.bus.breachPull ∧ (alertRise c s).bus.sensedLow = s.bus.sensedLow ∧
    (alertRise c s).bus.filter = s.bus.filter := by
  unfold alertRise
  (repeat' split) <;> simp

@[simp] theorem raise_bus (c : Cond) (s : State) :
    (raise c s).bus.rx = s.bus.rx ∧ (raise c s).bus.rxPhase = s.bus.rxPhase ∧ (raise c s).bus.ack = s.bus.ack ∧
    (raise c s).bus.resetDue = s.bus.resetDue ∧ (raise c s).bus.failures = s.bus.failures ∧
    (raise c s).bus.mute = s.bus.mute ∧ (raise c s).bus.hold = s.bus.hold ∧
    (raise c s).bus.drivePull = s.bus.drivePull ∧ (raise c s).bus.breachPull = s.bus.breachPull ∧
    (raise c s).bus.sensedLow = s.bus.sensedLow ∧ (raise c s).bus.filter = s.bus.filter := by
  unfold raise
  (repeat' split) <;> simp

@[simp] theorem raiseIf_bus (p : Bool) (c : Cond) (s : State) :
    (raiseIf p c s).bus.rx = s.bus.rx ∧ (raiseIf p c s).bus.rxPhase = s.bus.rxPhase ∧
    (raiseIf p c s).bus.ack = s.bus.ack ∧ (raiseIf p c s).bus.resetDue = s.bus.resetDue ∧
    (raiseIf p c s).bus.failures = s.bus.failures ∧ (raiseIf p c s).bus.mute = s.bus.mute ∧
    (raiseIf p c s).bus.hold = s.bus.hold ∧ (raiseIf p c s).bus.drivePull = s.bus.drivePull ∧
    (raiseIf p c s).bus.breachPull = s.bus.breachPull ∧ (raiseIf p c s).bus.sensedLow = s.bus.sensedLow ∧
    (raiseIf p c s).bus.filter = s.bus.filter := by
  unfold raiseIf
  (repeat' split) <;> simp

@[simp] theorem offerCreditTo_bus (dest : Byte) (s : State) :
    (offerCreditTo dest s).bus.rx = s.bus.rx ∧ (offerCreditTo dest s).bus.rxPhase = s.bus.rxPhase ∧
    (offerCreditTo dest s).bus.ack = s.bus.ack ∧ (offerCreditTo dest s).bus.resetDue = s.bus.resetDue ∧
    (offerCreditTo dest s).bus.failures = s.bus.failures ∧ (offerCreditTo dest s).bus.mute = s.bus.mute ∧
    (offerCreditTo dest s).bus.hold = s.bus.hold ∧ (offerCreditTo dest s).bus.drivePull = s.bus.drivePull ∧
    (offerCreditTo dest s).bus.breachPull = s.bus.breachPull ∧
    (offerCreditTo dest s).bus.sensedLow = s.bus.sensedLow ∧ (offerCreditTo dest s).bus.filter = s.bus.filter := by
  simp [offerCreditTo]

@[simp] theorem offerCredit_bus (s : State) :
    (offerCredit s).bus.rx = s.bus.rx ∧ (offerCredit s).bus.rxPhase = s.bus.rxPhase ∧
    (offerCredit s).bus.ack = s.bus.ack ∧ (offerCredit s).bus.resetDue = s.bus.resetDue ∧
    (offerCredit s).bus.failures = s.bus.failures ∧ (offerCredit s).bus.mute = s.bus.mute ∧
    (offerCredit s).bus.hold = s.bus.hold ∧ (offerCredit s).bus.drivePull = s.bus.drivePull ∧
    (offerCredit s).bus.breachPull = s.bus.breachPull ∧ (offerCredit s).bus.sensedLow = s.bus.sensedLow ∧
    (offerCredit s).bus.filter = s.bus.filter := by
  unfold offerCredit
  (repeat' split) <;> simp

@[simp] theorem offerOnGrowth_bus (s : State) :
    (offerOnGrowth s).bus.rx = s.bus.rx ∧ (offerOnGrowth s).bus.rxPhase = s.bus.rxPhase ∧
    (offerOnGrowth s).bus.ack = s.bus.ack ∧ (offerOnGrowth s).bus.resetDue = s.bus.resetDue ∧
    (offerOnGrowth s).bus.failures = s.bus.failures ∧ (offerOnGrowth s).bus.mute = s.bus.mute ∧
    (offerOnGrowth s).bus.hold = s.bus.hold ∧ (offerOnGrowth s).bus.drivePull = s.bus.drivePull ∧
    (offerOnGrowth s).bus.breachPull = s.bus.breachPull ∧ (offerOnGrowth s).bus.sensedLow = s.bus.sensedLow ∧
    (offerOnGrowth s).bus.filter = s.bus.filter := by
  unfold offerOnGrowth
  (repeat' split) <;> simp

@[simp] theorem setClaim_bus (iv : Interval) (s : State) :
    (setClaim iv s).bus.rx = s.bus.rx ∧ (setClaim iv s).bus.rxPhase = s.bus.rxPhase ∧
    (setClaim iv s).bus.ack = s.bus.ack ∧ (setClaim iv s).bus.resetDue = s.bus.resetDue ∧
    (setClaim iv s).bus.failures = s.bus.failures ∧ (setClaim iv s).bus.mute = s.bus.mute ∧
    (setClaim iv s).bus.hold = s.bus.hold ∧ (setClaim iv s).bus.drivePull = s.bus.drivePull ∧
    (setClaim iv s).bus.breachPull = s.bus.breachPull ∧ (setClaim iv s).bus.sensedLow = s.bus.sensedLow ∧
    (setClaim iv s).bus.filter = s.bus.filter := by
  unfold setClaim
  (repeat' split) <;> simp

@[simp] theorem setAnnounce_bus (a : Option Interval) (s : State) :
    (setAnnounce a s).bus.rx = s.bus.rx ∧ (setAnnounce a s).bus.rxPhase = s.bus.rxPhase ∧
    (setAnnounce a s).bus.ack = s.bus.ack ∧ (setAnnounce a s).bus.resetDue = s.bus.resetDue ∧
    (setAnnounce a s).bus.failures = s.bus.failures ∧ (setAnnounce a s).bus.mute = s.bus.mute ∧
    (setAnnounce a s).bus.hold = s.bus.hold ∧ (setAnnounce a s).bus.drivePull = s.bus.drivePull ∧
    (setAnnounce a s).bus.breachPull = s.bus.breachPull ∧ (setAnnounce a s).bus.sensedLow = s.bus.sensedLow ∧
    (setAnnounce a s).bus.filter = s.bus.filter := by
  unfold setAnnounce
  (repeat' split) <;> simp

@[simp] theorem recomputeClaim_bus (s : State) :
    (recomputeClaim s).bus.rx = s.bus.rx ∧ (recomputeClaim s).bus.rxPhase = s.bus.rxPhase ∧
    (recomputeClaim s).bus.ack = s.bus.ack ∧ (recomputeClaim s).bus.resetDue = s.bus.resetDue ∧
    (recomputeClaim s).bus.failures = s.bus.failures ∧ (recomputeClaim s).bus.mute = s.bus.mute ∧
    (recomputeClaim s).bus.hold = s.bus.hold ∧ (recomputeClaim s).bus.drivePull = s.bus.drivePull ∧
    (recomputeClaim s).bus.breachPull = s.bus.breachPull ∧ (recomputeClaim s).bus.sensedLow = s.bus.sensedLow ∧
    (recomputeClaim s).bus.filter = s.bus.filter := by
  unfold recomputeClaim
  (repeat' split) <;> simp

@[simp] theorem followClaim_bus (s : State) :
    (followClaim s).bus.rx = s.bus.rx ∧ (followClaim s).bus.rxPhase = s.bus.rxPhase ∧
    (followClaim s).bus.ack = s.bus.ack ∧ (followClaim s).bus.resetDue = s.bus.resetDue ∧
    (followClaim s).bus.failures = s.bus.failures ∧ (followClaim s).bus.mute = s.bus.mute ∧
    (followClaim s).bus.hold = s.bus.hold ∧ (followClaim s).bus.drivePull = s.bus.drivePull ∧
    (followClaim s).bus.breachPull = s.bus.breachPull ∧ (followClaim s).bus.sensedLow = s.bus.sensedLow ∧
    (followClaim s).bus.filter = s.bus.filter := by
  unfold followClaim
  (repeat' split) <;> simp

@[simp] theorem enterWait_bus (side : Side) (s : State) :
    (enterWait side s).bus.rx = s.bus.rx ∧ (enterWait side s).bus.rxPhase = s.bus.rxPhase ∧
    (enterWait side s).bus.ack = s.bus.ack ∧ (enterWait side s).bus.resetDue = s.bus.resetDue ∧
    (enterWait side s).bus.failures = s.bus.failures ∧ (enterWait side s).bus.mute = s.bus.mute ∧
    (enterWait side s).bus.hold = s.bus.hold ∧ (enterWait side s).bus.drivePull = s.bus.drivePull ∧
    (enterWait side s).bus.breachPull = s.bus.breachPull ∧ (enterWait side s).bus.sensedLow = s.bus.sensedLow ∧
    (enterWait side s).bus.filter = s.bus.filter := by
  simp [enterWait]

@[simp] theorem announceOn_bus (side : Side) (n : Interval) (s : State) :
    (announceOn side n s).bus.rx = s.bus.rx ∧ (announceOn side n s).bus.rxPhase = s.bus.rxPhase ∧
    (announceOn side n s).bus.ack = s.bus.ack ∧ (announceOn side n s).bus.resetDue = s.bus.resetDue ∧
    (announceOn side n s).bus.failures = s.bus.failures ∧ (announceOn side n s).bus.mute = s.bus.mute ∧
    (announceOn side n s).bus.hold = s.bus.hold ∧ (announceOn side n s).bus.drivePull = s.bus.drivePull ∧
    (announceOn side n s).bus.breachPull = s.bus.breachPull ∧ (announceOn side n s).bus.sensedLow = s.bus.sensedLow ∧
    (announceOn side n s).bus.filter = s.bus.filter := by
  simp [announceOn]

@[simp] theorem checkBeyond_bus (side : Side) (n : Interval) (s : State) :
    (checkBeyond side n s).bus.rx = s.bus.rx ∧ (checkBeyond side n s).bus.rxPhase = s.bus.rxPhase ∧
    (checkBeyond side n s).bus.ack = s.bus.ack ∧ (checkBeyond side n s).bus.resetDue = s.bus.resetDue ∧
    (checkBeyond side n s).bus.failures = s.bus.failures ∧ (checkBeyond side n s).bus.mute = s.bus.mute ∧
    (checkBeyond side n s).bus.hold = s.bus.hold ∧ (checkBeyond side n s).bus.drivePull = s.bus.drivePull ∧
    (checkBeyond side n s).bus.breachPull = s.bus.breachPull ∧
    (checkBeyond side n s).bus.sensedLow = s.bus.sensedLow ∧ (checkBeyond side n s).bus.filter = s.bus.filter := by
  unfold checkBeyond
  (repeat' split) <;> simp

@[simp] theorem runCheck_bus (s : State) :
    (runCheck s).bus.rx = s.bus.rx ∧ (runCheck s).bus.rxPhase = s.bus.rxPhase ∧ (runCheck s).bus.ack = s.bus.ack ∧
    (runCheck s).bus.resetDue = s.bus.resetDue ∧ (runCheck s).bus.failures = s.bus.failures ∧
    (runCheck s).bus.mute = s.bus.mute ∧ (runCheck s).bus.hold = s.bus.hold ∧
    (runCheck s).bus.drivePull = s.bus.drivePull ∧ (runCheck s).bus.breachPull = s.bus.breachPull ∧
    (runCheck s).bus.sensedLow = s.bus.sensedLow ∧ (runCheck s).bus.filter = s.bus.filter := by
  unfold runCheck
  dsimp only
  (repeat' split) <;> simp

@[simp] theorem beginCheck_bus (sp : Setpoint) (s : State) :
    (beginCheck sp s).bus.rx = s.bus.rx ∧ (beginCheck sp s).bus.rxPhase = s.bus.rxPhase ∧
    (beginCheck sp s).bus.ack = s.bus.ack ∧ (beginCheck sp s).bus.resetDue = s.bus.resetDue ∧
    (beginCheck sp s).bus.failures = s.bus.failures ∧ (beginCheck sp s).bus.mute = s.bus.mute ∧
    (beginCheck sp s).bus.hold = s.bus.hold ∧ (beginCheck sp s).bus.drivePull = s.bus.drivePull ∧
    (beginCheck sp s).bus.breachPull = s.bus.breachPull ∧ (beginCheck sp s).bus.sensedLow = s.bus.sensedLow ∧
    (beginCheck sp s).bus.filter = s.bus.filter := by
  simp [beginCheck]

@[simp] theorem recheck_bus (s : State) :
    (recheck s).bus.rx = s.bus.rx ∧ (recheck s).bus.rxPhase = s.bus.rxPhase ∧ (recheck s).bus.ack = s.bus.ack ∧
    (recheck s).bus.resetDue = s.bus.resetDue ∧ (recheck s).bus.failures = s.bus.failures ∧
    (recheck s).bus.mute = s.bus.mute ∧ (recheck s).bus.hold = s.bus.hold ∧
    (recheck s).bus.drivePull = s.bus.drivePull ∧ (recheck s).bus.breachPull = s.bus.breachPull ∧
    (recheck s).bus.sensedLow = s.bus.sensedLow ∧ (recheck s).bus.filter = s.bus.filter := by
  unfold recheck
  (repeat' split) <;> simp

@[simp] theorem recheckIfMoved_bus (before : Interval) (s : State) :
    (recheckIfMoved before s).bus.rx = s.bus.rx ∧ (recheckIfMoved before s).bus.rxPhase = s.bus.rxPhase ∧
    (recheckIfMoved before s).bus.ack = s.bus.ack ∧ (recheckIfMoved before s).bus.resetDue = s.bus.resetDue ∧
    (recheckIfMoved before s).bus.failures = s.bus.failures ∧ (recheckIfMoved before s).bus.mute = s.bus.mute ∧
    (recheckIfMoved before s).bus.hold = s.bus.hold ∧ (recheckIfMoved before s).bus.drivePull = s.bus.drivePull ∧
    (recheckIfMoved before s).bus.breachPull = s.bus.breachPull ∧
    (recheckIfMoved before s).bus.sensedLow = s.bus.sensedLow ∧ (recheckIfMoved before s).bus.filter = s.bus.filter := by
  unfold recheckIfMoved
  (repeat' split) <;> simp

@[simp] theorem shrinkClaim_bus (s : State) :
    (shrinkClaim s).bus.rx = s.bus.rx ∧ (shrinkClaim s).bus.rxPhase = s.bus.rxPhase ∧
    (shrinkClaim s).bus.ack = s.bus.ack ∧ (shrinkClaim s).bus.resetDue = s.bus.resetDue ∧
    (shrinkClaim s).bus.failures = s.bus.failures ∧ (shrinkClaim s).bus.mute = s.bus.mute ∧
    (shrinkClaim s).bus.hold = s.bus.hold ∧ (shrinkClaim s).bus.drivePull = s.bus.drivePull ∧
    (shrinkClaim s).bus.breachPull = s.bus.breachPull ∧ (shrinkClaim s).bus.sensedLow = s.bus.sensedLow ∧
    (shrinkClaim s).bus.filter = s.bus.filter := by
  simp [shrinkClaim]

@[simp] theorem takeOnClearReply_bus (s : State) :
    (takeOnClearReply s).bus.rx = s.bus.rx ∧ (takeOnClearReply s).bus.rxPhase = s.bus.rxPhase ∧
    (takeOnClearReply s).bus.ack = s.bus.ack ∧ (takeOnClearReply s).bus.resetDue = s.bus.resetDue ∧
    (takeOnClearReply s).bus.failures = s.bus.failures ∧ (takeOnClearReply s).bus.mute = s.bus.mute ∧
    (takeOnClearReply s).bus.hold = s.bus.hold ∧ (takeOnClearReply s).bus.drivePull = s.bus.drivePull ∧
    (takeOnClearReply s).bus.breachPull = s.bus.breachPull ∧ (takeOnClearReply s).bus.sensedLow = s.bus.sensedLow ∧
    (takeOnClearReply s).bus.filter = s.bus.filter := by
  unfold takeOnClearReply
  (repeat' split) <;> simp

@[simp] theorem settleOnReach_bus (v : Seen) (s : State) :
    (settleOnReach v s).bus.rx = s.bus.rx ∧ (settleOnReach v s).bus.rxPhase = s.bus.rxPhase ∧
    (settleOnReach v s).bus.ack = s.bus.ack ∧ (settleOnReach v s).bus.resetDue = s.bus.resetDue ∧
    (settleOnReach v s).bus.failures = s.bus.failures ∧ (settleOnReach v s).bus.mute = s.bus.mute ∧
    (settleOnReach v s).bus.hold = s.bus.hold ∧ (settleOnReach v s).bus.drivePull = s.bus.drivePull ∧
    (settleOnReach v s).bus.breachPull = s.bus.breachPull ∧ (settleOnReach v s).bus.sensedLow = s.bus.sensedLow ∧
    (settleOnReach v s).bus.filter = s.bus.filter := by
  unfold settleOnReach
  dsimp only
  (repeat' split) <;> simp

@[simp] theorem abandonCheck_bus (s : State) :
    (abandonCheck s).bus.rx = s.bus.rx ∧ (abandonCheck s).bus.rxPhase = s.bus.rxPhase ∧
    (abandonCheck s).bus.ack = s.bus.ack ∧ (abandonCheck s).bus.resetDue = s.bus.resetDue ∧
    (abandonCheck s).bus.failures = s.bus.failures ∧ (abandonCheck s).bus.mute = s.bus.mute ∧
    (abandonCheck s).bus.hold = s.bus.hold ∧ (abandonCheck s).bus.drivePull = s.bus.drivePull ∧
    (abandonCheck s).bus.breachPull = s.bus.breachPull ∧ (abandonCheck s).bus.sensedLow = s.bus.sensedLow ∧
    (abandonCheck s).bus.filter = s.bus.filter := by
  unfold abandonCheck
  split <;> simp

@[simp] theorem testBreach_bus (side : Side) (s : State) :
    (testBreach side s).bus.rx = s.bus.rx ∧ (testBreach side s).bus.rxPhase = s.bus.rxPhase ∧
    (testBreach side s).bus.ack = s.bus.ack ∧ (testBreach side s).bus.resetDue = s.bus.resetDue ∧
    (testBreach side s).bus.failures = s.bus.failures ∧ (testBreach side s).bus.mute = s.bus.mute ∧
    (testBreach side s).bus.hold = s.bus.hold ∧ (testBreach side s).bus.drivePull = s.bus.drivePull ∧
    (testBreach side s).bus.sensedLow = s.bus.sensedLow ∧ (testBreach side s).bus.filter = s.bus.filter := by
  unfold testBreach
  (repeat' split) <;> simp

@[simp] theorem joinNoticeOn_bus (side : Side) (joined : Nat) (s : State) :
    (joinNoticeOn side joined s).bus.rx = s.bus.rx ∧ (joinNoticeOn side joined s).bus.rxPhase = s.bus.rxPhase ∧
    (joinNoticeOn side joined s).bus.ack = s.bus.ack ∧ (joinNoticeOn side joined s).bus.resetDue = s.bus.resetDue ∧
    (joinNoticeOn side joined s).bus.failures = s.bus.failures ∧ (joinNoticeOn side joined s).bus.mute = s.bus.mute ∧
    (joinNoticeOn side joined s).bus.hold = s.bus.hold ∧
    (joinNoticeOn side joined s).bus.drivePull = s.bus.drivePull ∧
    (joinNoticeOn side joined s).bus.breachPull = s.bus.breachPull ∧
    (joinNoticeOn side joined s).bus.sensedLow = s.bus.sensedLow ∧
    (joinNoticeOn side joined s).bus.filter = s.bus.filter := by
  unfold joinNoticeOn
  dsimp only
  (repeat' split) <;> simp

@[simp] theorem joinNotice_bus (joined : Nat) (s : State) :
    (joinNotice joined s).bus.rx = s.bus.rx ∧ (joinNotice joined s).bus.rxPhase = s.bus.rxPhase ∧
    (joinNotice joined s).bus.ack = s.bus.ack ∧ (joinNotice joined s).bus.resetDue = s.bus.resetDue ∧
    (joinNotice joined s).bus.failures = s.bus.failures ∧ (joinNotice joined s).bus.mute = s.bus.mute ∧
    (joinNotice joined s).bus.hold = s.bus.hold ∧ (joinNotice joined s).bus.drivePull = s.bus.drivePull ∧
    (joinNotice joined s).bus.breachPull = s.bus.breachPull ∧ (joinNotice joined s).bus.sensedLow = s.bus.sensedLow ∧
    (joinNotice joined s).bus.filter = s.bus.filter := by
  simp [joinNotice]

@[simp] theorem countMarks_bus (m : Marks) (s : State) :
    (countMarks m s).bus.rx = s.bus.rx ∧ (countMarks m s).bus.rxPhase = s.bus.rxPhase ∧
    (countMarks m s).bus.ack = s.bus.ack ∧ (countMarks m s).bus.resetDue = s.bus.resetDue ∧
    (countMarks m s).bus.failures = s.bus.failures ∧ (countMarks m s).bus.mute = s.bus.mute ∧
    (countMarks m s).bus.hold = s.bus.hold ∧ (countMarks m s).bus.drivePull = s.bus.drivePull ∧
    (countMarks m s).bus.breachPull = s.bus.breachPull ∧ (countMarks m s).bus.sensedLow = s.bus.sensedLow ∧
    (countMarks m s).bus.filter = s.bus.filter := by
  simp [countMarks]

@[simp] theorem issueEntry_bus (tag : Byte) (sp : Setpoint) (s : State) :
    (issueEntry tag sp s).bus.rx = s.bus.rx ∧ (issueEntry tag sp s).bus.rxPhase = s.bus.rxPhase ∧
    (issueEntry tag sp s).bus.ack = s.bus.ack ∧ (issueEntry tag sp s).bus.resetDue = s.bus.resetDue ∧
    (issueEntry tag sp s).bus.failures = s.bus.failures ∧ (issueEntry tag sp s).bus.mute = s.bus.mute ∧
    (issueEntry tag sp s).bus.hold = s.bus.hold ∧ (issueEntry tag sp s).bus.drivePull = s.bus.drivePull ∧
    (issueEntry tag sp s).bus.breachPull = s.bus.breachPull ∧ (issueEntry tag sp s).bus.sensedLow = s.bus.sensedLow ∧
    (issueEntry tag sp s).bus.filter = s.bus.filter := by
  unfold issueEntry
  (repeat' split) <;> simp

@[simp] theorem issue_bus (sp : Setpoint) (s : State) :
    (issue sp s).bus.rx = s.bus.rx ∧ (issue sp s).bus.rxPhase = s.bus.rxPhase ∧ (issue sp s).bus.ack = s.bus.ack ∧
    (issue sp s).bus.resetDue = s.bus.resetDue ∧ (issue sp s).bus.failures = s.bus.failures ∧
    (issue sp s).bus.mute = s.bus.mute ∧ (issue sp s).bus.hold = s.bus.hold ∧
    (issue sp s).bus.drivePull = s.bus.drivePull ∧ (issue sp s).bus.breachPull = s.bus.breachPull ∧
    (issue sp s).bus.sensedLow = s.bus.sensedLow ∧ (issue sp s).bus.filter = s.bus.filter := by
  unfold issue
  (repeat' split) <;> simp

@[simp] theorem issuePassed_bus (s : State) :
    (issuePassed s).bus.rx = s.bus.rx ∧ (issuePassed s).bus.rxPhase = s.bus.rxPhase ∧
    (issuePassed s).bus.ack = s.bus.ack ∧ (issuePassed s).bus.resetDue = s.bus.resetDue ∧
    (issuePassed s).bus.failures = s.bus.failures ∧ (issuePassed s).bus.mute = s.bus.mute ∧
    (issuePassed s).bus.hold = s.bus.hold ∧ (issuePassed s).bus.drivePull = s.bus.drivePull ∧
    (issuePassed s).bus.breachPull = s.bus.breachPull ∧ (issuePassed s).bus.sensedLow = s.bus.sensedLow ∧
    (issuePassed s).bus.filter = s.bus.filter := by
  unfold issuePassed
  (repeat' split) <;> simp

@[simp] theorem checkAndIssue_bus (sp : Setpoint) (s : State) :
    (checkAndIssue sp s).bus.rx = s.bus.rx ∧ (checkAndIssue sp s).bus.rxPhase = s.bus.rxPhase ∧
    (checkAndIssue sp s).bus.ack = s.bus.ack ∧ (checkAndIssue sp s).bus.resetDue = s.bus.resetDue ∧
    (checkAndIssue sp s).bus.failures = s.bus.failures ∧ (checkAndIssue sp s).bus.mute = s.bus.mute ∧
    (checkAndIssue sp s).bus.hold = s.bus.hold ∧ (checkAndIssue sp s).bus.drivePull = s.bus.drivePull ∧
    (checkAndIssue sp s).bus.breachPull = s.bus.breachPull ∧ (checkAndIssue sp s).bus.sensedLow = s.bus.sensedLow ∧
    (checkAndIssue sp s).bus.filter = s.bus.filter := by
  simp [checkAndIssue]

@[simp] theorem endDrain_bus (s : State) :
    (endDrain s).bus.rx = s.bus.rx ∧ (endDrain s).bus.rxPhase = s.bus.rxPhase ∧ (endDrain s).bus.ack = s.bus.ack ∧
    (endDrain s).bus.resetDue = s.bus.resetDue ∧ (endDrain s).bus.failures = s.bus.failures ∧
    (endDrain s).bus.mute = s.bus.mute ∧ (endDrain s).bus.hold = s.bus.hold ∧
    (endDrain s).bus.drivePull = s.bus.drivePull ∧ (endDrain s).bus.breachPull = s.bus.breachPull ∧
    (endDrain s).bus.sensedLow = s.bus.sensedLow ∧ (endDrain s).bus.filter = s.bus.filter := by
  unfold endDrain
  (repeat' split) <;> simp

@[simp] theorem closingDone_bus (c : ClosingLift) (s : State) :
    (closingDone c s).bus.rx = s.bus.rx ∧ (closingDone c s).bus.rxPhase = s.bus.rxPhase ∧
    (closingDone c s).bus.ack = s.bus.ack ∧ (closingDone c s).bus.resetDue = s.bus.resetDue ∧
    (closingDone c s).bus.failures = s.bus.failures ∧ (closingDone c s).bus.mute = s.bus.mute ∧
    (closingDone c s).bus.hold = s.bus.hold ∧ (closingDone c s).bus.drivePull = s.bus.drivePull ∧
    (closingDone c s).bus.breachPull = s.bus.breachPull ∧ (closingDone c s).bus.sensedLow = s.bus.sensedLow ∧
    (closingDone c s).bus.filter = s.bus.filter := by
  unfold closingDone
  (repeat' split) <;> simp

@[simp] theorem pumpClosing_bus (s : State) :
    (pumpClosing s).bus.rx = s.bus.rx ∧ (pumpClosing s).bus.rxPhase = s.bus.rxPhase ∧
    (pumpClosing s).bus.ack = s.bus.ack ∧ (pumpClosing s).bus.resetDue = s.bus.resetDue ∧
    (pumpClosing s).bus.failures = s.bus.failures ∧ (pumpClosing s).bus.mute = s.bus.mute ∧
    (pumpClosing s).bus.hold = s.bus.hold ∧ (pumpClosing s).bus.drivePull = s.bus.drivePull ∧
    (pumpClosing s).bus.breachPull = s.bus.breachPull ∧ (pumpClosing s).bus.sensedLow = s.bus.sensedLow ∧
    (pumpClosing s).bus.filter = s.bus.filter := by
  unfold pumpClosing
  (repeat' split) <;> simp

@[simp] theorem pumpPortLift_bus (s : State) :
    (pumpPortLift s).bus.rx = s.bus.rx ∧ (pumpPortLift s).bus.rxPhase = s.bus.rxPhase ∧
    (pumpPortLift s).bus.ack = s.bus.ack ∧ (pumpPortLift s).bus.resetDue = s.bus.resetDue ∧
    (pumpPortLift s).bus.failures = s.bus.failures ∧ (pumpPortLift s).bus.mute = s.bus.mute ∧
    (pumpPortLift s).bus.hold = s.bus.hold ∧ (pumpPortLift s).bus.drivePull = s.bus.drivePull ∧
    (pumpPortLift s).bus.breachPull = s.bus.breachPull ∧ (pumpPortLift s).bus.sensedLow = s.bus.sensedLow ∧
    (pumpPortLift s).bus.filter = s.bus.filter := by
  unfold pumpPortLift
  (repeat' split) <;> simp

@[simp] theorem pumpLifts_bus (s : State) :
    (pumpLifts s).bus.rx = s.bus.rx ∧ (pumpLifts s).bus.rxPhase = s.bus.rxPhase ∧ (pumpLifts s).bus.ack = s.bus.ack ∧
    (pumpLifts s).bus.resetDue = s.bus.resetDue ∧ (pumpLifts s).bus.failures = s.bus.failures ∧
    (pumpLifts s).bus.mute = s.bus.mute ∧ (pumpLifts s).bus.hold = s.bus.hold ∧
    (pumpLifts s).bus.drivePull = s.bus.drivePull ∧ (pumpLifts s).bus.breachPull = s.bus.breachPull ∧
    (pumpLifts s).bus.sensedLow = s.bus.sensedLow ∧ (pumpLifts s).bus.filter = s.bus.filter := by
  simp [pumpLifts]

@[simp] theorem pumpMoves_bus (s : State) :
    (pumpMoves s).bus.rx = s.bus.rx ∧ (pumpMoves s).bus.rxPhase = s.bus.rxPhase ∧ (pumpMoves s).bus.ack = s.bus.ack ∧
    (pumpMoves s).bus.resetDue = s.bus.resetDue ∧ (pumpMoves s).bus.failures = s.bus.failures ∧
    (pumpMoves s).bus.mute = s.bus.mute ∧ (pumpMoves s).bus.hold = s.bus.hold ∧
    (pumpMoves s).bus.drivePull = s.bus.drivePull ∧ (pumpMoves s).bus.breachPull = s.bus.breachPull ∧
    (pumpMoves s).bus.sensedLow = s.bus.sensedLow ∧ (pumpMoves s).bus.filter = s.bus.filter := by
  unfold pumpMoves
  (repeat' split) <;> simp

@[simp] theorem commandMove_bus (sp : Setpoint) (s : State) :
    (commandMove sp s).bus.rx = s.bus.rx ∧ (commandMove sp s).bus.rxPhase = s.bus.rxPhase ∧
    (commandMove sp s).bus.ack = s.bus.ack ∧ (commandMove sp s).bus.resetDue = s.bus.resetDue ∧
    (commandMove sp s).bus.failures = s.bus.failures ∧ (commandMove sp s).bus.mute = s.bus.mute ∧
    (commandMove sp s).bus.hold = s.bus.hold ∧ (commandMove sp s).bus.drivePull = s.bus.drivePull ∧
    (commandMove sp s).bus.breachPull = s.bus.breachPull ∧ (commandMove sp s).bus.sensedLow = s.bus.sensedLow ∧
    (commandMove sp s).bus.filter = s.bus.filter := by
  simp [commandMove]

@[simp] theorem pumpPort_bus (s : State) :
    (pumpPort s).bus.rx = s.bus.rx ∧ (pumpPort s).bus.rxPhase = s.bus.rxPhase ∧ (pumpPort s).bus.ack = s.bus.ack ∧
    (pumpPort s).bus.resetDue = s.bus.resetDue ∧ (pumpPort s).bus.failures = s.bus.failures ∧
    (pumpPort s).bus.mute = s.bus.mute ∧ (pumpPort s).bus.hold = s.bus.hold ∧
    (pumpPort s).bus.drivePull = s.bus.drivePull ∧ (pumpPort s).bus.breachPull = s.bus.breachPull ∧
    (pumpPort s).bus.sensedLow = s.bus.sensedLow ∧ (pumpPort s).bus.filter = s.bus.filter := by
  simp [pumpPort]

@[simp] theorem driveFault_bus (code : Byte) (s : State) :
    (driveFault code s).bus.rx = s.bus.rx ∧ (driveFault code s).bus.rxPhase = s.bus.rxPhase ∧
    (driveFault code s).bus.ack = s.bus.ack ∧ (driveFault code s).bus.resetDue = s.bus.resetDue ∧
    (driveFault code s).bus.failures = s.bus.failures ∧ (driveFault code s).bus.mute = s.bus.mute ∧
    (driveFault code s).bus.hold = s.bus.hold ∧ (driveFault code s).bus.breachPull = s.bus.breachPull ∧
    (driveFault code s).bus.sensedLow = s.bus.sensedLow ∧ (driveFault code s).bus.filter = s.bus.filter := by
  unfold driveFault
  dsimp only
  (repeat' split) <;> simp

@[simp] theorem noteGap_bus (d : Nat) (s : State) :
    (noteGap d s).bus.rx = s.bus.rx ∧ (noteGap d s).bus.rxPhase = s.bus.rxPhase ∧ (noteGap d s).bus.ack = s.bus.ack ∧
    (noteGap d s).bus.resetDue = s.bus.resetDue ∧ (noteGap d s).bus.failures = s.bus.failures ∧
    (noteGap d s).bus.mute = s.bus.mute ∧ (noteGap d s).bus.hold = s.bus.hold ∧
    (noteGap d s).bus.drivePull = s.bus.drivePull ∧ (noteGap d s).bus.breachPull = s.bus.breachPull ∧
    (noteGap d s).bus.sensedLow = s.bus.sensedLow ∧ (noteGap d s).bus.filter = s.bus.filter := by
  unfold noteGap
  (repeat' split) <;> simp

@[simp] theorem overrun_bus (s : State) :
    (overrun s).bus.rx = s.bus.rx ∧ (overrun s).bus.rxPhase = s.bus.rxPhase ∧ (overrun s).bus.ack = s.bus.ack ∧
    (overrun s).bus.resetDue = s.bus.resetDue ∧ (overrun s).bus.failures = s.bus.failures ∧
    (overrun s).bus.mute = s.bus.mute ∧ (overrun s).bus.hold = s.bus.hold ∧
    (overrun s).bus.drivePull = s.bus.drivePull ∧ (overrun s).bus.breachPull = s.bus.breachPull ∧
    (overrun s).bus.sensedLow = s.bus.sensedLow ∧ (overrun s).bus.filter = s.bus.filter := by
  simp [overrun]

@[simp] theorem intakeAt_bus (r : TraceRecord) (d : Nat) (s : State) :
    (intakeAt r d s).bus.rx = s.bus.rx ∧ (intakeAt r d s).bus.rxPhase = s.bus.rxPhase ∧
    (intakeAt r d s).bus.ack = s.bus.ack ∧ (intakeAt r d s).bus.resetDue = s.bus.resetDue ∧
    (intakeAt r d s).bus.failures = s.bus.failures ∧ (intakeAt r d s).bus.mute = s.bus.mute ∧
    (intakeAt r d s).bus.hold = s.bus.hold ∧ (intakeAt r d s).bus.drivePull = s.bus.drivePull ∧
    (intakeAt r d s).bus.breachPull = s.bus.breachPull ∧ (intakeAt r d s).bus.sensedLow = s.bus.sensedLow ∧
    (intakeAt r d s).bus.filter = s.bus.filter := by
  unfold intakeAt
  dsimp only
  (repeat' split) <;> simp

@[simp] theorem intake_bus (r : TraceRecord) (s : State) :
    (intake r s).bus.rx = s.bus.rx ∧ (intake r s).bus.rxPhase = s.bus.rxPhase ∧ (intake r s).bus.ack = s.bus.ack ∧
    (intake r s).bus.resetDue = s.bus.resetDue ∧ (intake r s).bus.failures = s.bus.failures ∧
    (intake r s).bus.mute = s.bus.mute ∧ (intake r s).bus.hold = s.bus.hold ∧
    (intake r s).bus.drivePull = s.bus.drivePull ∧ (intake r s).bus.breachPull = s.bus.breachPull ∧
    (intake r s).bus.sensedLow = s.bus.sensedLow ∧ (intake r s).bus.filter = s.bus.filter := by
  unfold intake
  dsimp only
  (repeat' split) <;> simp

@[simp] theorem completeHead_bus (s : State) :
    (completeHead s).bus.rx = s.bus.rx ∧ (completeHead s).bus.rxPhase = s.bus.rxPhase ∧
    (completeHead s).bus.ack = s.bus.ack ∧ (completeHead s).bus.resetDue = s.bus.resetDue ∧
    (completeHead s).bus.failures = s.bus.failures ∧ (completeHead s).bus.mute = s.bus.mute ∧
    (completeHead s).bus.hold = s.bus.hold ∧ (completeHead s).bus.drivePull = s.bus.drivePull ∧
    (completeHead s).bus.breachPull = s.bus.breachPull ∧ (completeHead s).bus.sensedLow = s.bus.sensedLow ∧
    (completeHead s).bus.filter = s.bus.filter := by
  unfold completeHead
  (repeat' split) <;> simp

@[simp] theorem completeMarker_bus (e : Entry) (s : State) :
    (completeMarker e s).bus.rx = s.bus.rx ∧ (completeMarker e s).bus.rxPhase = s.bus.rxPhase ∧
    (completeMarker e s).bus.ack = s.bus.ack ∧ (completeMarker e s).bus.resetDue = s.bus.resetDue ∧
    (completeMarker e s).bus.failures = s.bus.failures ∧ (completeMarker e s).bus.mute = s.bus.mute ∧
    (completeMarker e s).bus.hold = s.bus.hold ∧ (completeMarker e s).bus.drivePull = s.bus.drivePull ∧
    (completeMarker e s).bus.breachPull = s.bus.breachPull ∧ (completeMarker e s).bus.sensedLow = s.bus.sensedLow ∧
    (completeMarker e s).bus.filter = s.bus.filter := by
  simp [completeMarker]

@[simp] theorem openPass_bus (e : Entry) (s : State) :
    (openPass e s).bus.rx = s.bus.rx ∧ (openPass e s).bus.rxPhase = s.bus.rxPhase ∧
    (openPass e s).bus.ack = s.bus.ack ∧ (openPass e s).bus.resetDue = s.bus.resetDue ∧
    (openPass e s).bus.failures = s.bus.failures ∧ (openPass e s).bus.mute = s.bus.mute ∧
    (openPass e s).bus.hold = s.bus.hold ∧ (openPass e s).bus.drivePull = s.bus.drivePull ∧
    (openPass e s).bus.breachPull = s.bus.breachPull ∧ (openPass e s).bus.sensedLow = s.bus.sensedLow ∧
    (openPass e s).bus.filter = s.bus.filter := by
  unfold openPass
  (repeat' split) <;> simp

@[simp] theorem completeResting_bus (e : Entry) (s : State) :
    (completeResting e s).bus.rx = s.bus.rx ∧ (completeResting e s).bus.rxPhase = s.bus.rxPhase ∧
    (completeResting e s).bus.ack = s.bus.ack ∧ (completeResting e s).bus.resetDue = s.bus.resetDue ∧
    (completeResting e s).bus.failures = s.bus.failures ∧ (completeResting e s).bus.mute = s.bus.mute ∧
    (completeResting e s).bus.hold = s.bus.hold ∧ (completeResting e s).bus.drivePull = s.bus.drivePull ∧
    (completeResting e s).bus.breachPull = s.bus.breachPull ∧ (completeResting e s).bus.sensedLow = s.bus.sensedLow ∧
    (completeResting e s).bus.filter = s.bus.filter := by
  unfold completeResting
  (repeat' split) <;> simp

@[simp] theorem handSetpoint_bus (e : Entry) (s : State) :
    (handSetpoint e s).bus.rx = s.bus.rx ∧ (handSetpoint e s).bus.rxPhase = s.bus.rxPhase ∧
    (handSetpoint e s).bus.ack = s.bus.ack ∧ (handSetpoint e s).bus.resetDue = s.bus.resetDue ∧
    (handSetpoint e s).bus.failures = s.bus.failures ∧ (handSetpoint e s).bus.mute = s.bus.mute ∧
    (handSetpoint e s).bus.hold = s.bus.hold ∧ (handSetpoint e s).bus.drivePull = s.bus.drivePull ∧
    (handSetpoint e s).bus.breachPull = s.bus.breachPull ∧ (handSetpoint e s).bus.sensedLow = s.bus.sensedLow ∧
    (handSetpoint e s).bus.filter = s.bus.filter := by
  unfold handSetpoint
  (repeat' split) <;> simp

@[simp] theorem handHead_bus (e : Entry) (s : State) :
    (handHead e s).bus.rx = s.bus.rx ∧ (handHead e s).bus.rxPhase = s.bus.rxPhase ∧
    (handHead e s).bus.ack = s.bus.ack ∧ (handHead e s).bus.resetDue = s.bus.resetDue ∧
    (handHead e s).bus.failures = s.bus.failures ∧ (handHead e s).bus.mute = s.bus.mute ∧
    (handHead e s).bus.hold = s.bus.hold ∧ (handHead e s).bus.drivePull = s.bus.drivePull ∧
    (handHead e s).bus.breachPull = s.bus.breachPull ∧ (handHead e s).bus.sensedLow = s.bus.sensedLow ∧
    (handHead e s).bus.filter = s.bus.filter := by
  unfold handHead
  (repeat' split) <;> simp

@[simp] theorem completeIssued_bus (i : Issued) (rest : List Issued) (s : State) :
    (completeIssued i rest s).bus.rx = s.bus.rx ∧ (completeIssued i rest s).bus.rxPhase = s.bus.rxPhase ∧
    (completeIssued i rest s).bus.ack = s.bus.ack ∧ (completeIssued i rest s).bus.resetDue = s.bus.resetDue ∧
    (completeIssued i rest s).bus.failures = s.bus.failures ∧ (completeIssued i rest s).bus.mute = s.bus.mute ∧
    (completeIssued i rest s).bus.hold = s.bus.hold ∧ (completeIssued i rest s).bus.drivePull = s.bus.drivePull ∧
    (completeIssued i rest s).bus.breachPull = s.bus.breachPull ∧
    (completeIssued i rest s).bus.sensedLow = s.bus.sensedLow ∧ (completeIssued i rest s).bus.filter = s.bus.filter := by
  simp [completeIssued]

@[simp] theorem arriveEntry_bus (tag : Byte) (s : State) :
    (arriveEntry tag s).bus.rx = s.bus.rx ∧ (arriveEntry tag s).bus.rxPhase = s.bus.rxPhase ∧
    (arriveEntry tag s).bus.ack = s.bus.ack ∧ (arriveEntry tag s).bus.resetDue = s.bus.resetDue ∧
    (arriveEntry tag s).bus.failures = s.bus.failures ∧ (arriveEntry tag s).bus.mute = s.bus.mute ∧
    (arriveEntry tag s).bus.hold = s.bus.hold ∧ (arriveEntry tag s).bus.drivePull = s.bus.drivePull ∧
    (arriveEntry tag s).bus.breachPull = s.bus.breachPull ∧ (arriveEntry tag s).bus.sensedLow = s.bus.sensedLow ∧
    (arriveEntry tag s).bus.filter = s.bus.filter := by
  unfold arriveEntry
  (repeat' split) <;> simp

@[simp] theorem takeSample_bus (r : JobRecord) (t : TracerJob) (probe : Option Probe) (s : State) :
    (takeSample r t probe s).bus.rx = s.bus.rx ∧ (takeSample r t probe s).bus.rxPhase = s.bus.rxPhase ∧
    (takeSample r t probe s).bus.ack = s.bus.ack ∧ (takeSample r t probe s).bus.resetDue = s.bus.resetDue ∧
    (takeSample r t probe s).bus.failures = s.bus.failures ∧ (takeSample r t probe s).bus.mute = s.bus.mute ∧
    (takeSample r t probe s).bus.hold = s.bus.hold ∧ (takeSample r t probe s).bus.drivePull = s.bus.drivePull ∧
    (takeSample r t probe s).bus.breachPull = s.bus.breachPull ∧
    (takeSample r t probe s).bus.sensedLow = s.bus.sensedLow ∧ (takeSample r t probe s).bus.filter = s.bus.filter := by
  unfold takeSample
  dsimp only
  (repeat' split) <;> simp

@[simp] theorem nextPoint_bus (r : JobRecord) (t : TracerJob) (s : State) :
    (nextPoint r t s).bus.rx = s.bus.rx ∧ (nextPoint r t s).bus.rxPhase = s.bus.rxPhase ∧
    (nextPoint r t s).bus.ack = s.bus.ack ∧ (nextPoint r t s).bus.resetDue = s.bus.resetDue ∧
    (nextPoint r t s).bus.failures = s.bus.failures ∧ (nextPoint r t s).bus.mute = s.bus.mute ∧
    (nextPoint r t s).bus.hold = s.bus.hold ∧ (nextPoint r t s).bus.drivePull = s.bus.drivePull ∧
    (nextPoint r t s).bus.breachPull = s.bus.breachPull ∧ (nextPoint r t s).bus.sensedLow = s.bus.sensedLow ∧
    (nextPoint r t s).bus.filter = s.bus.filter := by
  unfold nextPoint
  dsimp only
  (repeat' split) <;> simp

@[simp] theorem holdLift_bus (t : TracerJob) (s : State) :
    (holdLift t s).bus.rx = s.bus.rx ∧ (holdLift t s).bus.rxPhase = s.bus.rxPhase ∧
    (holdLift t s).bus.ack = s.bus.ack ∧ (holdLift t s).bus.resetDue = s.bus.resetDue ∧
    (holdLift t s).bus.failures = s.bus.failures ∧ (holdLift t s).bus.mute = s.bus.mute ∧
    (holdLift t s).bus.hold = s.bus.hold ∧ (holdLift t s).bus.drivePull = s.bus.drivePull ∧
    (holdLift t s).bus.breachPull = s.bus.breachPull ∧ (holdLift t s).bus.sensedLow = s.bus.sensedLow ∧
    (holdLift t s).bus.filter = s.bus.filter := by
  unfold holdLift
  dsimp only
  (repeat' split) <;> simp

@[simp] theorem endHold_bus (s : State) :
    (endHold s).bus.rx = s.bus.rx ∧ (endHold s).bus.rxPhase = s.bus.rxPhase ∧ (endHold s).bus.ack = s.bus.ack ∧
    (endHold s).bus.resetDue = s.bus.resetDue ∧ (endHold s).bus.failures = s.bus.failures ∧
    (endHold s).bus.mute = s.bus.mute ∧ (endHold s).bus.hold = s.bus.hold ∧
    (endHold s).bus.drivePull = s.bus.drivePull ∧ (endHold s).bus.breachPull = s.bus.breachPull ∧
    (endHold s).bus.sensedLow = s.bus.sensedLow ∧ (endHold s).bus.filter = s.bus.filter := by
  unfold endHold
  dsimp only
  (repeat' split) <;> simp

@[simp] theorem beginLive_bus (r : JobRecord) (t : TracerJob) (p c : Nat) (s : State) :
    (beginLive r t p c s).bus.rx = s.bus.rx ∧ (beginLive r t p c s).bus.rxPhase = s.bus.rxPhase ∧
    (beginLive r t p c s).bus.ack = s.bus.ack ∧ (beginLive r t p c s).bus.resetDue = s.bus.resetDue ∧
    (beginLive r t p c s).bus.failures = s.bus.failures ∧ (beginLive r t p c s).bus.mute = s.bus.mute ∧
    (beginLive r t p c s).bus.hold = s.bus.hold ∧ (beginLive r t p c s).bus.drivePull = s.bus.drivePull ∧
    (beginLive r t p c s).bus.breachPull = s.bus.breachPull ∧ (beginLive r t p c s).bus.sensedLow = s.bus.sensedLow ∧
    (beginLive r t p c s).bus.filter = s.bus.filter := by
  unfold beginLive
  (repeat' split) <;> simp

@[simp] theorem orderPass_bus (p c : Nat) (s : State) :
    (orderPass p c s).bus.rx = s.bus.rx ∧ (orderPass p c s).bus.rxPhase = s.bus.rxPhase ∧
    (orderPass p c s).bus.ack = s.bus.ack ∧ (orderPass p c s).bus.resetDue = s.bus.resetDue ∧
    (orderPass p c s).bus.failures = s.bus.failures ∧ (orderPass p c s).bus.mute = s.bus.mute ∧
    (orderPass p c s).bus.hold = s.bus.hold ∧ (orderPass p c s).bus.drivePull = s.bus.drivePull ∧
    (orderPass p c s).bus.breachPull = s.bus.breachPull ∧ (orderPass p c s).bus.sensedLow = s.bus.sensedLow ∧
    (orderPass p c s).bus.filter = s.bus.filter := by
  unfold orderPass
  dsimp only
  (repeat' split) <;> simp

@[simp] theorem recordEmitted_bus (t : TracerJob) (r : TraceRecord) (s : State) :
    (recordEmitted t r s).bus.rx = s.bus.rx ∧ (recordEmitted t r s).bus.rxPhase = s.bus.rxPhase ∧
    (recordEmitted t r s).bus.ack = s.bus.ack ∧ (recordEmitted t r s).bus.resetDue = s.bus.resetDue ∧
    (recordEmitted t r s).bus.failures = s.bus.failures ∧ (recordEmitted t r s).bus.mute = s.bus.mute ∧
    (recordEmitted t r s).bus.hold = s.bus.hold ∧ (recordEmitted t r s).bus.drivePull = s.bus.drivePull ∧
    (recordEmitted t r s).bus.breachPull = s.bus.breachPull ∧ (recordEmitted t r s).bus.sensedLow = s.bus.sensedLow ∧
    (recordEmitted t r s).bus.filter = s.bus.filter := by
  unfold recordEmitted
  (repeat' split) <;> simp

@[simp] theorem offerFinish_bus (s : State) :
    (offerFinish s).bus.sending = s.bus.sending ∧ (offerFinish s).bus.rx = s.bus.rx ∧
    (offerFinish s).bus.rxPhase = s.bus.rxPhase ∧ (offerFinish s).bus.ack = s.bus.ack ∧
    (offerFinish s).bus.resetDue = s.bus.resetDue ∧ (offerFinish s).bus.failures = s.bus.failures ∧
    (offerFinish s).bus.mute = s.bus.mute ∧ (offerFinish s).bus.hold = s.bus.hold ∧
    (offerFinish s).bus.drivePull = s.bus.drivePull ∧ (offerFinish s).bus.breachPull = s.bus.breachPull ∧
    (offerFinish s).bus.sensedLow = s.bus.sensedLow ∧ (offerFinish s).bus.filter = s.bus.filter := by
  unfold offerFinish
  (repeat' split) <;> simp

@[simp] theorem decidePass_bus (p : Nat) (s : State) :
    (decidePass p s).bus.rx = s.bus.rx ∧ (decidePass p s).bus.rxPhase = s.bus.rxPhase ∧
    (decidePass p s).bus.ack = s.bus.ack ∧ (decidePass p s).bus.resetDue = s.bus.resetDue ∧
    (decidePass p s).bus.failures = s.bus.failures ∧ (decidePass p s).bus.mute = s.bus.mute ∧
    (decidePass p s).bus.hold = s.bus.hold ∧ (decidePass p s).bus.drivePull = s.bus.drivePull ∧
    (decidePass p s).bus.breachPull = s.bus.breachPull ∧ (decidePass p s).bus.sensedLow = s.bus.sensedLow ∧
    (decidePass p s).bus.filter = s.bus.filter := by
  unfold decidePass
  (repeat' split) <;> simp

@[simp] theorem testCollection_bus (s : State) :
    (testCollection s).bus.rx = s.bus.rx ∧ (testCollection s).bus.rxPhase = s.bus.rxPhase ∧
    (testCollection s).bus.ack = s.bus.ack ∧ (testCollection s).bus.resetDue = s.bus.resetDue ∧
    (testCollection s).bus.failures = s.bus.failures ∧ (testCollection s).bus.mute = s.bus.mute ∧
    (testCollection s).bus.hold = s.bus.hold ∧ (testCollection s).bus.drivePull = s.bus.drivePull ∧
    (testCollection s).bus.breachPull = s.bus.breachPull ∧ (testCollection s).bus.sensedLow = s.bus.sensedLow ∧
    (testCollection s).bus.filter = s.bus.filter := by
  unfold testCollection
  (repeat' split) <;> simp

@[simp] theorem enterCollecting_bus (r : JobRecord) (t : TracerJob) (s : State) :
    (enterCollecting r t s).bus.rx = s.bus.rx ∧ (enterCollecting r t s).bus.rxPhase = s.bus.rxPhase ∧
    (enterCollecting r t s).bus.ack = s.bus.ack ∧ (enterCollecting r t s).bus.resetDue = s.bus.resetDue ∧
    (enterCollecting r t s).bus.failures = s.bus.failures ∧ (enterCollecting r t s).bus.mute = s.bus.mute ∧
    (enterCollecting r t s).bus.hold = s.bus.hold ∧ (enterCollecting r t s).bus.drivePull = s.bus.drivePull ∧
    (enterCollecting r t s).bus.breachPull = s.bus.breachPull ∧
    (enterCollecting r t s).bus.sensedLow = s.bus.sensedLow ∧ (enterCollecting r t s).bus.filter = s.bus.filter := by
  unfold enterCollecting
  (repeat' split) <;> simp

@[simp] theorem enrolmentResult_bus (s : State) :
    (enrolmentResult s).bus.rx = s.bus.rx ∧ (enrolmentResult s).bus.rxPhase = s.bus.rxPhase ∧
    (enrolmentResult s).bus.ack = s.bus.ack ∧ (enrolmentResult s).bus.resetDue = s.bus.resetDue ∧
    (enrolmentResult s).bus.failures = s.bus.failures ∧ (enrolmentResult s).bus.mute = s.bus.mute ∧
    (enrolmentResult s).bus.hold = s.bus.hold ∧ (enrolmentResult s).bus.drivePull = s.bus.drivePull ∧
    (enrolmentResult s).bus.breachPull = s.bus.breachPull ∧ (enrolmentResult s).bus.sensedLow = s.bus.sensedLow ∧
    (enrolmentResult s).bus.filter = s.bus.filter := by
  unfold enrolmentResult
  dsimp only
  (repeat' split) <;> simp

@[simp] theorem endEnrolment_bus (s : State) :
    (endEnrolment s).bus.rx = s.bus.rx ∧ (endEnrolment s).bus.rxPhase = s.bus.rxPhase ∧
    (endEnrolment s).bus.ack = s.bus.ack ∧ (endEnrolment s).bus.resetDue = s.bus.resetDue ∧
    (endEnrolment s).bus.failures = s.bus.failures ∧ (endEnrolment s).bus.mute = s.bus.mute ∧
    (endEnrolment s).bus.hold = s.bus.hold ∧ (endEnrolment s).bus.drivePull = s.bus.drivePull ∧
    (endEnrolment s).bus.breachPull = s.bus.breachPull ∧ (endEnrolment s).bus.sensedLow = s.bus.sensedLow ∧
    (endEnrolment s).bus.filter = s.bus.filter := by
  unfold endEnrolment
  (repeat' split) <;> simp

@[simp] theorem testEnrolment_bus (s : State) :
    (testEnrolment s).bus.rx = s.bus.rx ∧ (testEnrolment s).bus.rxPhase = s.bus.rxPhase ∧
    (testEnrolment s).bus.ack = s.bus.ack ∧ (testEnrolment s).bus.resetDue = s.bus.resetDue ∧
    (testEnrolment s).bus.failures = s.bus.failures ∧ (testEnrolment s).bus.mute = s.bus.mute ∧
    (testEnrolment s).bus.hold = s.bus.hold ∧ (testEnrolment s).bus.drivePull = s.bus.drivePull ∧
    (testEnrolment s).bus.breachPull = s.bus.breachPull ∧ (testEnrolment s).bus.sensedLow = s.bus.sensedLow ∧
    (testEnrolment s).bus.filter = s.bus.filter := by
  unfold testEnrolment
  (repeat' split) <;> simp

@[simp] theorem afterLive_bus (j : JobRecord) (t : TracerJob) (r : TraceRecord) (s : State) :
    (afterLive j t r s).bus.rx = s.bus.rx ∧ (afterLive j t r s).bus.rxPhase = s.bus.rxPhase ∧
    (afterLive j t r s).bus.ack = s.bus.ack ∧ (afterLive j t r s).bus.resetDue = s.bus.resetDue ∧
    (afterLive j t r s).bus.failures = s.bus.failures ∧ (afterLive j t r s).bus.mute = s.bus.mute ∧
    (afterLive j t r s).bus.hold = s.bus.hold ∧ (afterLive j t r s).bus.drivePull = s.bus.drivePull ∧
    (afterLive j t r s).bus.breachPull = s.bus.breachPull ∧ (afterLive j t r s).bus.sensedLow = s.bus.sensedLow ∧
    (afterLive j t r s).bus.filter = s.bus.filter := by
  unfold afterLive
  (repeat' split) <;> simp

@[simp] theorem afterReplay_bus (j : JobRecord) (t : TracerJob) (c : Cursor) (s : State) :
    (afterReplay j t c s).bus.rx = s.bus.rx ∧ (afterReplay j t c s).bus.rxPhase = s.bus.rxPhase ∧
    (afterReplay j t c s).bus.ack = s.bus.ack ∧ (afterReplay j t c s).bus.resetDue = s.bus.resetDue ∧
    (afterReplay j t c s).bus.failures = s.bus.failures ∧ (afterReplay j t c s).bus.mute = s.bus.mute ∧
    (afterReplay j t c s).bus.hold = s.bus.hold ∧ (afterReplay j t c s).bus.drivePull = s.bus.drivePull ∧
    (afterReplay j t c s).bus.breachPull = s.bus.breachPull ∧ (afterReplay j t c s).bus.sensedLow = s.bus.sensedLow ∧
    (afterReplay j t c s).bus.filter = s.bus.filter := by
  unfold afterReplay
  (repeat' split) <;> simp

@[simp] theorem emitHead_bus (s : State) :
    (emitHead s).bus.rx = s.bus.rx ∧ (emitHead s).bus.rxPhase = s.bus.rxPhase ∧ (emitHead s).bus.ack = s.bus.ack ∧
    (emitHead s).bus.resetDue = s.bus.resetDue ∧ (emitHead s).bus.failures = s.bus.failures ∧
    (emitHead s).bus.mute = s.bus.mute ∧ (emitHead s).bus.hold = s.bus.hold ∧
    (emitHead s).bus.drivePull = s.bus.drivePull ∧ (emitHead s).bus.breachPull = s.bus.breachPull ∧
    (emitHead s).bus.sensedLow = s.bus.sensedLow ∧ (emitHead s).bus.filter = s.bus.filter := by
  unfold emitHead
  dsimp only
  (repeat' split) <;> simp

@[simp] theorem dropEntry_bus (k : Nat) (e : LagEntry) (s : State) :
    (dropEntry k e s).bus.rx = s.bus.rx ∧ (dropEntry k e s).bus.rxPhase = s.bus.rxPhase ∧
    (dropEntry k e s).bus.ack = s.bus.ack ∧ (dropEntry k e s).bus.resetDue = s.bus.resetDue ∧
    (dropEntry k e s).bus.failures = s.bus.failures ∧ (dropEntry k e s).bus.mute = s.bus.mute ∧
    (dropEntry k e s).bus.hold = s.bus.hold ∧ (dropEntry k e s).bus.drivePull = s.bus.drivePull ∧
    (dropEntry k e s).bus.breachPull = s.bus.breachPull ∧ (dropEntry k e s).bus.sensedLow = s.bus.sensedLow ∧
    (dropEntry k e s).bus.filter = s.bus.filter := by
  simp [dropEntry]

@[simp] theorem creditUpdate_bus (e : LagEntry) (c : CreditReport) (s : State) :
    (creditUpdate e c s).bus.rx = s.bus.rx ∧ (creditUpdate e c s).bus.rxPhase = s.bus.rxPhase ∧
    (creditUpdate e c s).bus.ack = s.bus.ack ∧ (creditUpdate e c s).bus.resetDue = s.bus.resetDue ∧
    (creditUpdate e c s).bus.failures = s.bus.failures ∧ (creditUpdate e c s).bus.mute = s.bus.mute ∧
    (creditUpdate e c s).bus.hold = s.bus.hold ∧ (creditUpdate e c s).bus.drivePull = s.bus.drivePull ∧
    (creditUpdate e c s).bus.breachPull = s.bus.breachPull ∧ (creditUpdate e c s).bus.sensedLow = s.bus.sensedLow ∧
    (creditUpdate e c s).bus.filter = s.bus.filter := by
  simp [creditUpdate]

@[simp] theorem creditFromEntry_bus (e : LagEntry) (c : CreditReport) (s : State) :
    (creditFromEntry e c s).bus.rx = s.bus.rx ∧ (creditFromEntry e c s).bus.rxPhase = s.bus.rxPhase ∧
    (creditFromEntry e c s).bus.ack = s.bus.ack ∧ (creditFromEntry e c s).bus.resetDue = s.bus.resetDue ∧
    (creditFromEntry e c s).bus.failures = s.bus.failures ∧ (creditFromEntry e c s).bus.mute = s.bus.mute ∧
    (creditFromEntry e c s).bus.hold = s.bus.hold ∧ (creditFromEntry e c s).bus.drivePull = s.bus.drivePull ∧
    (creditFromEntry e c s).bus.breachPull = s.bus.breachPull ∧
    (creditFromEntry e c s).bus.sensedLow = s.bus.sensedLow ∧ (creditFromEntry e c s).bus.filter = s.bus.filter := by
  unfold creditFromEntry
  (repeat' split) <;> simp

@[simp] theorem admitCarver_bus (c : CreditReport) (s : State) :
    (admitCarver c s).bus.rx = s.bus.rx ∧ (admitCarver c s).bus.rxPhase = s.bus.rxPhase ∧
    (admitCarver c s).bus.ack = s.bus.ack ∧ (admitCarver c s).bus.resetDue = s.bus.resetDue ∧
    (admitCarver c s).bus.failures = s.bus.failures ∧ (admitCarver c s).bus.mute = s.bus.mute ∧
    (admitCarver c s).bus.hold = s.bus.hold ∧ (admitCarver c s).bus.drivePull = s.bus.drivePull ∧
    (admitCarver c s).bus.breachPull = s.bus.breachPull ∧ (admitCarver c s).bus.sensedLow = s.bus.sensedLow ∧
    (admitCarver c s).bus.filter = s.bus.filter := by
  simp [admitCarver]

@[simp] theorem takeCredit_bus (c : CreditReport) (s : State) :
    (takeCredit c s).bus.rx = s.bus.rx ∧ (takeCredit c s).bus.rxPhase = s.bus.rxPhase ∧
    (takeCredit c s).bus.ack = s.bus.ack ∧ (takeCredit c s).bus.resetDue = s.bus.resetDue ∧
    (takeCredit c s).bus.failures = s.bus.failures ∧ (takeCredit c s).bus.mute = s.bus.mute ∧
    (takeCredit c s).bus.hold = s.bus.hold ∧ (takeCredit c s).bus.drivePull = s.bus.drivePull ∧
    (takeCredit c s).bus.breachPull = s.bus.breachPull ∧ (takeCredit c s).bus.sensedLow = s.bus.sensedLow ∧
    (takeCredit c s).bus.filter = s.bus.filter := by
  unfold takeCredit
  (repeat' split) <;> simp

@[simp] theorem removeCarver_bus (k : Nat) (s : State) :
    (removeCarver k s).bus.rx = s.bus.rx ∧ (removeCarver k s).bus.rxPhase = s.bus.rxPhase ∧
    (removeCarver k s).bus.ack = s.bus.ack ∧ (removeCarver k s).bus.resetDue = s.bus.resetDue ∧
    (removeCarver k s).bus.failures = s.bus.failures ∧ (removeCarver k s).bus.mute = s.bus.mute ∧
    (removeCarver k s).bus.hold = s.bus.hold ∧ (removeCarver k s).bus.drivePull = s.bus.drivePull ∧
    (removeCarver k s).bus.breachPull = s.bus.breachPull ∧ (removeCarver k s).bus.sensedLow = s.bus.sensedLow ∧
    (removeCarver k s).bus.filter = s.bus.filter := by
  simp [removeCarver]

@[simp] theorem rejoinNotice_bus (k : Nat) (s : State) :
    (rejoinNotice k s).bus.rx = s.bus.rx ∧ (rejoinNotice k s).bus.rxPhase = s.bus.rxPhase ∧
    (rejoinNotice k s).bus.ack = s.bus.ack ∧ (rejoinNotice k s).bus.resetDue = s.bus.resetDue ∧
    (rejoinNotice k s).bus.failures = s.bus.failures ∧ (rejoinNotice k s).bus.mute = s.bus.mute ∧
    (rejoinNotice k s).bus.hold = s.bus.hold ∧ (rejoinNotice k s).bus.drivePull = s.bus.drivePull ∧
    (rejoinNotice k s).bus.breachPull = s.bus.breachPull ∧ (rejoinNotice k s).bus.sensedLow = s.bus.sensedLow ∧
    (rejoinNotice k s).bus.filter = s.bus.filter := by
  unfold rejoinNotice
  (repeat' split) <;> simp

@[simp] theorem offerJoin_bus (answer : Bool) (s : State) :
    (offerJoin answer s).bus.sending = s.bus.sending ∧ (offerJoin answer s).bus.rx = s.bus.rx ∧
    (offerJoin answer s).bus.rxPhase = s.bus.rxPhase ∧ (offerJoin answer s).bus.ack = s.bus.ack ∧
    (offerJoin answer s).bus.resetDue = s.bus.resetDue ∧ (offerJoin answer s).bus.failures = s.bus.failures ∧
    (offerJoin answer s).bus.mute = s.bus.mute ∧ (offerJoin answer s).bus.hold = s.bus.hold ∧
    (offerJoin answer s).bus.drivePull = s.bus.drivePull ∧ (offerJoin answer s).bus.breachPull = s.bus.breachPull ∧
    (offerJoin answer s).bus.sensedLow = s.bus.sensedLow ∧ (offerJoin answer s).bus.filter = s.bus.filter := by
  unfold offerJoin
  (repeat' split) <;> simp

@[simp] theorem placeFreed_bus (s : State) :
    (placeFreed s).bus.rx = s.bus.rx ∧ (placeFreed s).bus.rxPhase = s.bus.rxPhase ∧
    (placeFreed s).bus.ack = s.bus.ack ∧ (placeFreed s).bus.resetDue = s.bus.resetDue ∧
    (placeFreed s).bus.failures = s.bus.failures ∧ (placeFreed s).bus.mute = s.bus.mute ∧
    (placeFreed s).bus.hold = s.bus.hold ∧ (placeFreed s).bus.drivePull = s.bus.drivePull ∧
    (placeFreed s).bus.breachPull = s.bus.breachPull ∧ (placeFreed s).bus.sensedLow = s.bus.sensedLow ∧
    (placeFreed s).bus.filter = s.bus.filter := by
  unfold placeFreed
  (repeat' split) <;> simp

@[simp] theorem startAttempt_bus (f : TxFrame) (rest : List TxFrame) (s : State) :
    (startAttempt f rest s).bus.offers = s.bus.offers ∧ (startAttempt f rest s).bus.rx = s.bus.rx ∧
    (startAttempt f rest s).bus.ack = s.bus.ack ∧ (startAttempt f rest s).bus.resetDue = s.bus.resetDue ∧
    (startAttempt f rest s).bus.failures = s.bus.failures ∧ (startAttempt f rest s).bus.mute = s.bus.mute ∧
    (startAttempt f rest s).bus.hold = s.bus.hold ∧ (startAttempt f rest s).bus.drivePull = s.bus.drivePull ∧
    (startAttempt f rest s).bus.breachPull = s.bus.breachPull ∧
    (startAttempt f rest s).bus.sensedLow = s.bus.sensedLow ∧ (startAttempt f rest s).bus.filter = s.bus.filter := by
  simp [startAttempt]

@[simp] theorem contend_bus (s : State) :
    (contend s).bus.offers = s.bus.offers ∧ (contend s).bus.rx = s.bus.rx ∧ (contend s).bus.ack = s.bus.ack ∧
    (contend s).bus.resetDue = s.bus.resetDue ∧ (contend s).bus.failures = s.bus.failures ∧
    (contend s).bus.mute = s.bus.mute ∧ (contend s).bus.hold = s.bus.hold ∧
    (contend s).bus.drivePull = s.bus.drivePull ∧ (contend s).bus.breachPull = s.bus.breachPull ∧
    (contend s).bus.sensedLow = s.bus.sensedLow ∧ (contend s).bus.filter = s.bus.filter := by
  unfold contend
  (repeat' split) <;> simp

@[simp] theorem offerReply_bus (dest : Nat) (payload : List Byte) (s : State) :
    (offerReply dest payload s).bus.sending = s.bus.sending ∧ (offerReply dest payload s).bus.rx = s.bus.rx ∧
    (offerReply dest payload s).bus.rxPhase = s.bus.rxPhase ∧ (offerReply dest payload s).bus.ack = s.bus.ack ∧
    (offerReply dest payload s).bus.resetDue = s.bus.resetDue ∧
    (offerReply dest payload s).bus.failures = s.bus.failures ∧ (offerReply dest payload s).bus.mute = s.bus.mute ∧
    (offerReply dest payload s).bus.hold = s.bus.hold ∧ (offerReply dest payload s).bus.drivePull = s.bus.drivePull ∧
    (offerReply dest payload s).bus.breachPull = s.bus.breachPull ∧
    (offerReply dest payload s).bus.sensedLow = s.bus.sensedLow ∧
    (offerReply dest payload s).bus.filter = s.bus.filter := by
  unfold offerReply
  (repeat' split) <;> simp

@[simp] theorem answerQuery_bus (src : Nat) (query : List Byte) (s : State) :
    (answerQuery src query s).bus.sending = s.bus.sending ∧ (answerQuery src query s).bus.rx = s.bus.rx ∧
    (answerQuery src query s).bus.rxPhase = s.bus.rxPhase ∧ (answerQuery src query s).bus.ack = s.bus.ack ∧
    (answerQuery src query s).bus.resetDue = s.bus.resetDue ∧
    (answerQuery src query s).bus.failures = s.bus.failures ∧ (answerQuery src query s).bus.mute = s.bus.mute ∧
    (answerQuery src query s).bus.hold = s.bus.hold ∧ (answerQuery src query s).bus.drivePull = s.bus.drivePull ∧
    (answerQuery src query s).bus.breachPull = s.bus.breachPull ∧
    (answerQuery src query s).bus.sensedLow = s.bus.sensedLow ∧ (answerQuery src query s).bus.filter = s.bus.filter := by
  simp [answerQuery]

@[simp] theorem offerPendingAlert_bus (s : State) :
    (offerPendingAlert s).bus.rx = s.bus.rx ∧ (offerPendingAlert s).bus.rxPhase = s.bus.rxPhase ∧
    (offerPendingAlert s).bus.ack = s.bus.ack ∧ (offerPendingAlert s).bus.resetDue = s.bus.resetDue ∧
    (offerPendingAlert s).bus.failures = s.bus.failures ∧ (offerPendingAlert s).bus.mute = s.bus.mute ∧
    (offerPendingAlert s).bus.hold = s.bus.hold ∧ (offerPendingAlert s).bus.drivePull = s.bus.drivePull ∧
    (offerPendingAlert s).bus.breachPull = s.bus.breachPull ∧ (offerPendingAlert s).bus.sensedLow = s.bus.sensedLow ∧
    (offerPendingAlert s).bus.filter = s.bus.filter := by
  unfold offerPendingAlert
  (repeat' split) <;> simp

@[simp] theorem readStandingFault_bus (s : State) :
    (readStandingFault s).bus.rx = s.bus.rx ∧ (readStandingFault s).bus.rxPhase = s.bus.rxPhase ∧
    (readStandingFault s).bus.ack = s.bus.ack ∧ (readStandingFault s).bus.resetDue = s.bus.resetDue ∧
    (readStandingFault s).bus.failures = s.bus.failures ∧ (readStandingFault s).bus.mute = s.bus.mute ∧
    (readStandingFault s).bus.hold = s.bus.hold ∧ (readStandingFault s).bus.breachPull = s.bus.breachPull ∧
    (readStandingFault s).bus.sensedLow = s.bus.sensedLow ∧ (readStandingFault s).bus.filter = s.bus.filter := by
  unfold readStandingFault
  (repeat' split) <;> simp

@[simp] theorem endStarting_bus (result : Nat) (s : State) :
    (endStarting result s).bus.rx = s.bus.rx ∧ (endStarting result s).bus.ack = s.bus.ack ∧
    (endStarting result s).bus.resetDue = s.bus.resetDue ∧ (endStarting result s).bus.failures = s.bus.failures ∧
    (endStarting result s).bus.mute = s.bus.mute ∧ (endStarting result s).bus.hold = s.bus.hold ∧
    (endStarting result s).bus.breachPull = s.bus.breachPull ∧
    (endStarting result s).bus.sensedLow = s.bus.sensedLow ∧ (endStarting result s).bus.filter = s.bus.filter := by
  simp [endStarting]

@[simp] theorem leaveReset_bus (straps : Straps) (s : State) :
    (leaveReset straps s).bus.rx = s.bus.rx ∧ (leaveReset straps s).bus.ack = s.bus.ack ∧
    (leaveReset straps s).bus.resetDue = s.bus.resetDue ∧ (leaveReset straps s).bus.failures = s.bus.failures ∧
    (leaveReset straps s).bus.mute = s.bus.mute ∧ (leaveReset straps s).bus.hold = s.bus.hold ∧
    (leaveReset straps s).bus.breachPull = s.bus.breachPull ∧ (leaveReset straps s).bus.sensedLow = s.bus.sensedLow ∧
    (leaveReset straps s).bus.filter = s.bus.filter := by
  unfold leaveReset
  (repeat' split) <;> simp

@[simp] theorem memoryTested_bus (code : Nat) (passed : Bool) (s : State) :
    (memoryTested code passed s).bus.rx = s.bus.rx ∧ (memoryTested code passed s).bus.ack = s.bus.ack ∧
    (memoryTested code passed s).bus.resetDue = s.bus.resetDue ∧
    (memoryTested code passed s).bus.failures = s.bus.failures ∧ (memoryTested code passed s).bus.mute = s.bus.mute ∧
    (memoryTested code passed s).bus.hold = s.bus.hold ∧
    (memoryTested code passed s).bus.breachPull = s.bus.breachPull ∧
    (memoryTested code passed s).bus.sensedLow = s.bus.sensedLow ∧
    (memoryTested code passed s).bus.filter = s.bus.filter := by
  unfold memoryTested
  (repeat' split) <;> simp

@[simp] theorem setPhase_bus (p : RxPhase) (s : State) :
    (setPhase p s).bus.queue = s.bus.queue ∧ (setPhase p s).bus.sending = s.bus.sending ∧
    (setPhase p s).bus.offers = s.bus.offers ∧ (setPhase p s).bus.rx = s.bus.rx ∧
    (setPhase p s).bus.ack = s.bus.ack ∧ (setPhase p s).bus.resetDue = s.bus.resetDue ∧
    (setPhase p s).bus.failures = s.bus.failures ∧ (setPhase p s).bus.mute = s.bus.mute ∧
    (setPhase p s).bus.hold = s.bus.hold ∧ (setPhase p s).bus.drivePull = s.bus.drivePull ∧
    (setPhase p s).bus.breachPull = s.bus.breachPull ∧ (setPhase p s).bus.sensedLow = s.bus.sensedLow ∧
    (setPhase p s).bus.filter = s.bus.filter := by
  simp [setPhase]

@[simp] theorem setHold_bus (b : Bool) (s : State) :
    (setHold b s).bus.queue = s.bus.queue ∧ (setHold b s).bus.sending = s.bus.sending ∧
    (setHold b s).bus.offers = s.bus.offers ∧ (setHold b s).bus.rx = s.bus.rx ∧
    (setHold b s).bus.rxPhase = s.bus.rxPhase ∧ (setHold b s).bus.ack = s.bus.ack ∧
    (setHold b s).bus.resetDue = s.bus.resetDue ∧ (setHold b s).bus.failures = s.bus.failures ∧
    (setHold b s).bus.mute = s.bus.mute ∧ (setHold b s).bus.drivePull = s.bus.drivePull ∧
    (setHold b s).bus.breachPull = s.bus.breachPull ∧ (setHold b s).bus.sensedLow = s.bus.sensedLow ∧
    (setHold b s).bus.filter = s.bus.filter := by
  simp [setHold]

@[simp] theorem startHold_bus (s : State) :
    (startHold s).bus.queue = s.bus.queue ∧ (startHold s).bus.sending = s.bus.sending ∧
    (startHold s).bus.offers = s.bus.offers ∧ (startHold s).bus.rx = s.bus.rx ∧
    (startHold s).bus.rxPhase = s.bus.rxPhase ∧ (startHold s).bus.ack = s.bus.ack ∧
    (startHold s).bus.resetDue = s.bus.resetDue ∧ (startHold s).bus.failures = s.bus.failures ∧
    (startHold s).bus.mute = s.bus.mute ∧ (startHold s).bus.drivePull = s.bus.drivePull ∧
    (startHold s).bus.breachPull = s.bus.breachPull ∧ (startHold s).bus.sensedLow = s.bus.sensedLow ∧
    (startHold s).bus.filter = s.bus.filter := by
  simp [startHold]

@[simp] theorem endHoldAtStart_bus (s : State) :
    (endHoldAtStart s).bus.queue = s.bus.queue ∧ (endHoldAtStart s).bus.sending = s.bus.sending ∧
    (endHoldAtStart s).bus.offers = s.bus.offers ∧ (endHoldAtStart s).bus.rx = s.bus.rx ∧
    (endHoldAtStart s).bus.rxPhase = s.bus.rxPhase ∧ (endHoldAtStart s).bus.ack = s.bus.ack ∧
    (endHoldAtStart s).bus.resetDue = s.bus.resetDue ∧ (endHoldAtStart s).bus.failures = s.bus.failures ∧
    (endHoldAtStart s).bus.mute = s.bus.mute ∧ (endHoldAtStart s).bus.drivePull = s.bus.drivePull ∧
    (endHoldAtStart s).bus.breachPull = s.bus.breachPull ∧ (endHoldAtStart s).bus.sensedLow = s.bus.sensedLow ∧
    (endHoldAtStart s).bus.filter = s.bus.filter := by
  unfold endHoldAtStart
  (repeat' split) <;> simp

@[simp] theorem loseAttempt_bus (t : Sending) (s : State) :
    (loseAttempt t s).bus.offers = s.bus.offers ∧ (loseAttempt t s).bus.rx = s.bus.rx ∧
    (loseAttempt t s).bus.rxPhase = s.bus.rxPhase ∧ (loseAttempt t s).bus.ack = s.bus.ack ∧
    (loseAttempt t s).bus.resetDue = s.bus.resetDue ∧ (loseAttempt t s).bus.failures = s.bus.failures ∧
    (loseAttempt t s).bus.mute = s.bus.mute ∧ (loseAttempt t s).bus.hold = s.bus.hold ∧
    (loseAttempt t s).bus.drivePull = s.bus.drivePull ∧ (loseAttempt t s).bus.breachPull = s.bus.breachPull ∧
    (loseAttempt t s).bus.sensedLow = s.bus.sensedLow ∧ (loseAttempt t s).bus.filter = s.bus.filter := by
  simp [loseAttempt]

@[simp] theorem enterMute_bus (s : State) :
    (enterMute s).bus.rx = s.bus.rx ∧ (enterMute s).bus.rxPhase = s.bus.rxPhase ∧ (enterMute s).bus.ack = s.bus.ack ∧
    (enterMute s).bus.resetDue = s.bus.resetDue ∧ (enterMute s).bus.failures = s.bus.failures ∧
    (enterMute s).bus.hold = s.bus.hold ∧ (enterMute s).bus.drivePull = s.bus.drivePull ∧
    (enterMute s).bus.breachPull = s.bus.breachPull ∧ (enterMute s).bus.sensedLow = s.bus.sensedLow ∧
    (enterMute s).bus.filter = s.bus.filter := by
  simp [enterMute]

@[simp] theorem failTransmit_bus (t : Sending) (s : State) :
    (failTransmit t s).bus.rx = s.bus.rx ∧ (failTransmit t s).bus.rxPhase = s.bus.rxPhase ∧
    (failTransmit t s).bus.ack = s.bus.ack ∧ (failTransmit t s).bus.resetDue = s.bus.resetDue ∧
    (failTransmit t s).bus.drivePull = s.bus.drivePull ∧ (failTransmit t s).bus.breachPull = s.bus.breachPull ∧
    (failTransmit t s).bus.sensedLow = s.bus.sensedLow ∧ (failTransmit t s).bus.filter = s.bus.filter := by
  unfold failTransmit
  dsimp only
  (repeat' split) <;> simp

@[simp] theorem echoMismatch_bus (t : Sending) (s : State) :
    (echoMismatch t s).bus.rx = s.bus.rx ∧ (echoMismatch t s).bus.ack = s.bus.ack ∧
    (echoMismatch t s).bus.resetDue = s.bus.resetDue ∧ (echoMismatch t s).bus.drivePull = s.bus.drivePull ∧
    (echoMismatch t s).bus.breachPull = s.bus.breachPull ∧ (echoMismatch t s).bus.sensedLow = s.bus.sensedLow ∧
    (echoMismatch t s).bus.filter = s.bus.filter := by
  simp [echoMismatch]

@[simp] theorem frameLeft_bus (t : Sending) (heard : Bool) (s : State) :
    (frameLeft t heard s).bus.rx = s.bus.rx ∧ (frameLeft t heard s).bus.rxPhase = s.bus.rxPhase ∧
    (frameLeft t heard s).bus.ack = s.bus.ack ∧ (frameLeft t heard s).bus.resetDue = s.bus.resetDue ∧
    (frameLeft t heard s).bus.failures = s.bus.failures ∧ (frameLeft t heard s).bus.mute = s.bus.mute ∧
    (frameLeft t heard s).bus.hold = s.bus.hold ∧ (frameLeft t heard s).bus.drivePull = s.bus.drivePull ∧
    (frameLeft t heard s).bus.breachPull = s.bus.breachPull ∧ (frameLeft t heard s).bus.sensedLow = s.bus.sensedLow ∧
    (frameLeft t heard s).bus.filter = s.bus.filter := by
  unfold frameLeft
  (repeat' split) <;> simp

@[simp] theorem endTransmit_bus (t : Sending) (heard : Bool) (s : State) :
    (endTransmit t heard s).bus.rx = s.bus.rx ∧ (endTransmit t heard s).bus.ack = s.bus.ack ∧
    (endTransmit t heard s).bus.resetDue = s.bus.resetDue ∧ (endTransmit t heard s).bus.mute = s.bus.mute ∧
    (endTransmit t heard s).bus.drivePull = s.bus.drivePull ∧
    (endTransmit t heard s).bus.breachPull = s.bus.breachPull ∧
    (endTransmit t heard s).bus.sensedLow = s.bus.sensedLow ∧ (endTransmit t heard s).bus.filter = s.bus.filter := by
  simp [endTransmit]

@[simp] theorem accept_bus (f : Frame) (s : State) :
    (accept f s).bus.queue = s.bus.queue ∧ (accept f s).bus.sending = s.bus.sending ∧
    (accept f s).bus.offers = s.bus.offers ∧ (accept f s).bus.rxPhase = s.bus.rxPhase ∧
    (accept f s).bus.failures = s.bus.failures ∧ (accept f s).bus.mute = s.bus.mute ∧
    (accept f s).bus.hold = s.bus.hold ∧ (accept f s).bus.drivePull = s.bus.drivePull ∧
    (accept f s).bus.breachPull = s.bus.breachPull ∧ (accept f s).bus.sensedLow = s.bus.sensedLow ∧
    (accept f s).bus.filter = s.bus.filter := by
  unfold accept
  dsimp only
  (repeat' split) <;> simp

@[simp] theorem settle_bus (bytes : List Byte) (s : State) :
    (settle bytes s).bus.queue = s.bus.queue ∧ (settle bytes s).bus.sending = s.bus.sending ∧
    (settle bytes s).bus.offers = s.bus.offers ∧ (settle bytes s).bus.rxPhase = s.bus.rxPhase ∧
    (settle bytes s).bus.failures = s.bus.failures ∧ (settle bytes s).bus.mute = s.bus.mute ∧
    (settle bytes s).bus.hold = s.bus.hold ∧ (settle bytes s).bus.drivePull = s.bus.drivePull ∧
    (settle bytes s).bus.breachPull = s.bus.breachPull ∧ (settle bytes s).bus.sensedLow = s.bus.sensedLow ∧
    (settle bytes s).bus.filter = s.bus.filter := by
  unfold settle
  (repeat' split) <;> simp

@[simp] theorem clearAck_bus (s : State) :
    (clearAck s).bus.queue = s.bus.queue ∧ (clearAck s).bus.sending = s.bus.sending ∧
    (clearAck s).bus.offers = s.bus.offers ∧ (clearAck s).bus.rx = s.bus.rx ∧
    (clearAck s).bus.rxPhase = s.bus.rxPhase ∧ (clearAck s).bus.resetDue = s.bus.resetDue ∧
    (clearAck s).bus.failures = s.bus.failures ∧ (clearAck s).bus.mute = s.bus.mute ∧
    (clearAck s).bus.hold = s.bus.hold ∧ (clearAck s).bus.drivePull = s.bus.drivePull ∧
    (clearAck s).bus.breachPull = s.bus.breachPull ∧ (clearAck s).bus.sensedLow = s.bus.sensedLow ∧
    (clearAck s).bus.filter = s.bus.filter := by
  simp [clearAck]

@[simp] theorem readBack_bus (t : Sending) (bytes : List Byte) (s : State) :
    (readBack t bytes s).bus.drivePull = s.bus.drivePull ∧ (readBack t bytes s).bus.breachPull = s.bus.breachPull ∧
    (readBack t bytes s).bus.sensedLow = s.bus.sensedLow ∧ (readBack t bytes s).bus.filter = s.bus.filter := by
  unfold readBack
  (repeat' split) <;> simp

@[simp] theorem receive_bus (bytes : List Byte) (s : State) :
    (receive bytes s).bus.drivePull = s.bus.drivePull ∧ (receive bytes s).bus.breachPull = s.bus.breachPull ∧
    (receive bytes s).bus.sensedLow = s.bus.sensedLow ∧ (receive bytes s).bus.filter = s.bus.filter := by
  unfold receive
  dsimp only
  (repeat' split) <;> simp

@[simp] theorem arm_bus (r : JobRecord) (s : State) :
    (arm r s).bus.rx = s.bus.rx ∧ (arm r s).bus.rxPhase = s.bus.rxPhase ∧ (arm r s).bus.ack = s.bus.ack ∧
    (arm r s).bus.resetDue = s.bus.resetDue ∧ (arm r s).bus.failures = s.bus.failures ∧
    (arm r s).bus.mute = s.bus.mute ∧ (arm r s).bus.hold = s.bus.hold ∧ (arm r s).bus.drivePull = s.bus.drivePull ∧
    (arm r s).bus.breachPull = s.bus.breachPull ∧ (arm r s).bus.sensedLow = s.bus.sensedLow ∧
    (arm r s).bus.filter = s.bus.filter := by
  unfold arm
  (repeat' split) <;> simp

@[simp] theorem refuse_bus (id : Nat) (code : JobCode) (index : Nat) (s : State) :
    (refuse id code index s).bus.rx = s.bus.rx ∧ (refuse id code index s).bus.rxPhase = s.bus.rxPhase ∧
    (refuse id code index s).bus.ack = s.bus.ack ∧ (refuse id code index s).bus.resetDue = s.bus.resetDue ∧
    (refuse id code index s).bus.failures = s.bus.failures ∧ (refuse id code index s).bus.mute = s.bus.mute ∧
    (refuse id code index s).bus.hold = s.bus.hold ∧ (refuse id code index s).bus.drivePull = s.bus.drivePull ∧
    (refuse id code index s).bus.breachPull = s.bus.breachPull ∧
    (refuse id code index s).bus.sensedLow = s.bus.sensedLow ∧ (refuse id code index s).bus.filter = s.bus.filter := by
  simp [refuse]

@[simp] theorem endAssembly_bus (a : Assembly) (s : State) :
    (endAssembly a s).bus.rx = s.bus.rx ∧ (endAssembly a s).bus.rxPhase = s.bus.rxPhase ∧
    (endAssembly a s).bus.ack = s.bus.ack ∧ (endAssembly a s).bus.resetDue = s.bus.resetDue ∧
    (endAssembly a s).bus.failures = s.bus.failures ∧ (endAssembly a s).bus.mute = s.bus.mute ∧
    (endAssembly a s).bus.hold = s.bus.hold ∧ (endAssembly a s).bus.drivePull = s.bus.drivePull ∧
    (endAssembly a s).bus.breachPull = s.bus.breachPull ∧ (endAssembly a s).bus.sensedLow = s.bus.sensedLow ∧
    (endAssembly a s).bus.filter = s.bus.filter := by
  unfold endAssembly
  (repeat' split) <;> simp

@[simp] theorem keepAssembly_bus (a : Assembly) (more : Bool) (s : State) :
    (keepAssembly a more s).bus.rx = s.bus.rx ∧ (keepAssembly a more s).bus.rxPhase = s.bus.rxPhase ∧
    (keepAssembly a more s).bus.ack = s.bus.ack ∧ (keepAssembly a more s).bus.resetDue = s.bus.resetDue ∧
    (keepAssembly a more s).bus.failures = s.bus.failures ∧ (keepAssembly a more s).bus.mute = s.bus.mute ∧
    (keepAssembly a more s).bus.hold = s.bus.hold ∧ (keepAssembly a more s).bus.drivePull = s.bus.drivePull ∧
    (keepAssembly a more s).bus.breachPull = s.bus.breachPull ∧
    (keepAssembly a more s).bus.sensedLow = s.bus.sensedLow ∧ (keepAssembly a more s).bus.filter = s.bus.filter := by
  unfold keepAssembly
  (repeat' split) <;> simp

@[simp] theorem startAssembly_bus (g : Segment) (s : State) :
    (startAssembly g s).bus.rx = s.bus.rx ∧ (startAssembly g s).bus.rxPhase = s.bus.rxPhase ∧
    (startAssembly g s).bus.ack = s.bus.ack ∧ (startAssembly g s).bus.resetDue = s.bus.resetDue ∧
    (startAssembly g s).bus.failures = s.bus.failures ∧ (startAssembly g s).bus.mute = s.bus.mute ∧
    (startAssembly g s).bus.hold = s.bus.hold ∧ (startAssembly g s).bus.drivePull = s.bus.drivePull ∧
    (startAssembly g s).bus.breachPull = s.bus.breachPull ∧ (startAssembly g s).bus.sensedLow = s.bus.sensedLow ∧
    (startAssembly g s).bus.filter = s.bus.filter := by
  unfold startAssembly
  (repeat' split) <;> simp

@[simp] theorem continueAssembly_bus (a : Assembly) (g : Segment) (s : State) :
    (continueAssembly a g s).bus.rx = s.bus.rx ∧ (continueAssembly a g s).bus.rxPhase = s.bus.rxPhase ∧
    (continueAssembly a g s).bus.ack = s.bus.ack ∧ (continueAssembly a g s).bus.resetDue = s.bus.resetDue ∧
    (continueAssembly a g s).bus.failures = s.bus.failures ∧ (continueAssembly a g s).bus.mute = s.bus.mute ∧
    (continueAssembly a g s).bus.hold = s.bus.hold ∧ (continueAssembly a g s).bus.drivePull = s.bus.drivePull ∧
    (continueAssembly a g s).bus.breachPull = s.bus.breachPull ∧
    (continueAssembly a g s).bus.sensedLow = s.bus.sensedLow ∧ (continueAssembly a g s).bus.filter = s.bus.filter := by
  unfold continueAssembly
  (repeat' split) <;> simp

@[simp] theorem takeSegment_bus (g : Segment) (s : State) :
    (takeSegment g s).bus.rx = s.bus.rx ∧ (takeSegment g s).bus.rxPhase = s.bus.rxPhase ∧
    (takeSegment g s).bus.ack = s.bus.ack ∧ (takeSegment g s).bus.resetDue = s.bus.resetDue ∧
    (takeSegment g s).bus.failures = s.bus.failures ∧ (takeSegment g s).bus.mute = s.bus.mute ∧
    (takeSegment g s).bus.hold = s.bus.hold ∧ (takeSegment g s).bus.drivePull = s.bus.drivePull ∧
    (takeSegment g s).bus.breachPull = s.bus.breachPull ∧ (takeSegment g s).bus.sensedLow = s.bus.sensedLow ∧
    (takeSegment g s).bus.filter = s.bus.filter := by
  unfold takeSegment
  (repeat' split) <;> simp

@[simp] theorem takeJob_bus (f : Frame) (s : State) :
    (takeJob f s).bus.rx = s.bus.rx ∧ (takeJob f s).bus.rxPhase = s.bus.rxPhase ∧ (takeJob f s).bus.ack = s.bus.ack ∧
    (takeJob f s).bus.resetDue = s.bus.resetDue ∧ (takeJob f s).bus.failures = s.bus.failures ∧
    (takeJob f s).bus.mute = s.bus.mute ∧ (takeJob f s).bus.hold = s.bus.hold ∧
    (takeJob f s).bus.drivePull = s.bus.drivePull ∧ (takeJob f s).bus.breachPull = s.bus.breachPull ∧
    (takeJob f s).bus.sensedLow = s.bus.sensedLow ∧ (takeJob f s).bus.filter = s.bus.filter := by
  unfold takeJob
  (repeat' split) <;> simp

@[simp] theorem answerJoin_bus (s : State) :
    (answerJoin s).bus.sending = s.bus.sending ∧ (answerJoin s).bus.rx = s.bus.rx ∧
    (answerJoin s).bus.rxPhase = s.bus.rxPhase ∧ (answerJoin s).bus.ack = s.bus.ack ∧
    (answerJoin s).bus.resetDue = s.bus.resetDue ∧ (answerJoin s).bus.failures = s.bus.failures ∧
    (answerJoin s).bus.mute = s.bus.mute ∧ (answerJoin s).bus.hold = s.bus.hold ∧
    (answerJoin s).bus.drivePull = s.bus.drivePull ∧ (answerJoin s).bus.breachPull = s.bus.breachPull ∧
    (answerJoin s).bus.sensedLow = s.bus.sensedLow ∧ (answerJoin s).bus.filter = s.bus.filter := by
  unfold answerJoin
  (repeat' split) <;> simp

@[simp] theorem acceptJoin_bus (k : Nat) (p : Peer) (answer : Bool) (s : State) :
    (acceptJoin k p answer s).bus.rx = s.bus.rx ∧ (acceptJoin k p answer s).bus.rxPhase = s.bus.rxPhase ∧
    (acceptJoin k p answer s).bus.ack = s.bus.ack ∧ (acceptJoin k p answer s).bus.resetDue = s.bus.resetDue ∧
    (acceptJoin k p answer s).bus.failures = s.bus.failures ∧ (acceptJoin k p answer s).bus.mute = s.bus.mute ∧
    (acceptJoin k p answer s).bus.hold = s.bus.hold ∧ (acceptJoin k p answer s).bus.drivePull = s.bus.drivePull ∧
    (acceptJoin k p answer s).bus.breachPull = s.bus.breachPull ∧
    (acceptJoin k p answer s).bus.sensedLow = s.bus.sensedLow ∧ (acceptJoin k p answer s).bus.filter = s.bus.filter := by
  unfold acceptJoin
  dsimp only
  (repeat' split) <;> simp

@[simp] theorem takeJoin_bus (f : Frame) (s : State) :
    (takeJoin f s).bus.rx = s.bus.rx ∧ (takeJoin f s).bus.rxPhase = s.bus.rxPhase ∧
    (takeJoin f s).bus.ack = s.bus.ack ∧ (takeJoin f s).bus.resetDue = s.bus.resetDue ∧
    (takeJoin f s).bus.failures = s.bus.failures ∧ (takeJoin f s).bus.mute = s.bus.mute ∧
    (takeJoin f s).bus.hold = s.bus.hold ∧ (takeJoin f s).bus.drivePull = s.bus.drivePull ∧
    (takeJoin f s).bus.breachPull = s.bus.breachPull ∧ (takeJoin f s).bus.sensedLow = s.bus.sensedLow ∧
    (takeJoin f s).bus.filter = s.bus.filter := by
  unfold takeJoin
  (repeat' split) <;> simp

@[simp] theorem startJob_bus (s : State) :
    (startJob s).bus.rx = s.bus.rx ∧ (startJob s).bus.rxPhase = s.bus.rxPhase ∧ (startJob s).bus.ack = s.bus.ack ∧
    (startJob s).bus.resetDue = s.bus.resetDue ∧ (startJob s).bus.failures = s.bus.failures ∧
    (startJob s).bus.mute = s.bus.mute ∧ (startJob s).bus.hold = s.bus.hold ∧
    (startJob s).bus.drivePull = s.bus.drivePull ∧ (startJob s).bus.breachPull = s.bus.breachPull ∧
    (startJob s).bus.sensedLow = s.bus.sensedLow ∧ (startJob s).bus.filter = s.bus.filter := by
  unfold startJob
  dsimp only
  (repeat' split) <;> simp

@[simp] theorem takeStart_bus (f : Frame) (s : State) :
    (takeStart f s).bus.rx = s.bus.rx ∧ (takeStart f s).bus.rxPhase = s.bus.rxPhase ∧
    (takeStart f s).bus.ack = s.bus.ack ∧ (takeStart f s).bus.resetDue = s.bus.resetDue ∧
    (takeStart f s).bus.failures = s.bus.failures ∧ (takeStart f s).bus.mute = s.bus.mute ∧
    (takeStart f s).bus.hold = s.bus.hold ∧ (takeStart f s).bus.drivePull = s.bus.drivePull ∧
    (takeStart f s).bus.breachPull = s.bus.breachPull ∧ (takeStart f s).bus.sensedLow = s.bus.sensedLow ∧
    (takeStart f s).bus.filter = s.bus.filter := by
  unfold takeStart
  (repeat' split) <;> simp

@[simp] theorem endWork_bus (s : State) :
    (endWork s).bus.rx = s.bus.rx ∧ (endWork s).bus.rxPhase = s.bus.rxPhase ∧ (endWork s).bus.ack = s.bus.ack ∧
    (endWork s).bus.resetDue = s.bus.resetDue ∧ (endWork s).bus.failures = s.bus.failures ∧
    (endWork s).bus.mute = s.bus.mute ∧ (endWork s).bus.hold = s.bus.hold ∧
    (endWork s).bus.drivePull = s.bus.drivePull ∧ (endWork s).bus.breachPull = s.bus.breachPull ∧
    (endWork s).bus.sensedLow = s.bus.sensedLow ∧ (endWork s).bus.filter = s.bus.filter := by
  simp [endWork]

@[simp] theorem endStream_bus (s : State) :
    (endStream s).bus.rx = s.bus.rx ∧ (endStream s).bus.rxPhase = s.bus.rxPhase ∧
    (endStream s).bus.ack = s.bus.ack ∧ (endStream s).bus.resetDue = s.bus.resetDue ∧
    (endStream s).bus.failures = s.bus.failures ∧ (endStream s).bus.mute = s.bus.mute ∧
    (endStream s).bus.hold = s.bus.hold ∧ (endStream s).bus.drivePull = s.bus.drivePull ∧
    (endStream s).bus.breachPull = s.bus.breachPull ∧ (endStream s).bus.sensedLow = s.bus.sensedLow ∧
    (endStream s).bus.filter = s.bus.filter := by
  simp [endStream]

@[simp] theorem endTracing_bus (s : State) :
    (endTracing s).bus.rx = s.bus.rx ∧ (endTracing s).bus.rxPhase = s.bus.rxPhase ∧
    (endTracing s).bus.ack = s.bus.ack ∧ (endTracing s).bus.resetDue = s.bus.resetDue ∧
    (endTracing s).bus.failures = s.bus.failures ∧ (endTracing s).bus.mute = s.bus.mute ∧
    (endTracing s).bus.hold = s.bus.hold ∧ (endTracing s).bus.drivePull = s.bus.drivePull ∧
    (endTracing s).bus.breachPull = s.bus.breachPull ∧ (endTracing s).bus.sensedLow = s.bus.sensedLow ∧
    (endTracing s).bus.filter = s.bus.filter := by
  simp [endTracing]

@[simp] theorem abortCarver_bus (c : CarverJob) (s : State) :
    (abortCarver c s).bus.rx = s.bus.rx ∧ (abortCarver c s).bus.rxPhase = s.bus.rxPhase ∧
    (abortCarver c s).bus.ack = s.bus.ack ∧ (abortCarver c s).bus.resetDue = s.bus.resetDue ∧
    (abortCarver c s).bus.failures = s.bus.failures ∧ (abortCarver c s).bus.mute = s.bus.mute ∧
    (abortCarver c s).bus.hold = s.bus.hold ∧ (abortCarver c s).bus.drivePull = s.bus.drivePull ∧
    (abortCarver c s).bus.breachPull = s.bus.breachPull ∧ (abortCarver c s).bus.sensedLow = s.bus.sensedLow ∧
    (abortCarver c s).bus.filter = s.bus.filter := by
  unfold abortCarver
  dsimp only
  (repeat' split) <;> simp

@[simp] theorem abortTracer_bus (s : State) :
    (abortTracer s).bus.rx = s.bus.rx ∧ (abortTracer s).bus.rxPhase = s.bus.rxPhase ∧
    (abortTracer s).bus.ack = s.bus.ack ∧ (abortTracer s).bus.resetDue = s.bus.resetDue ∧
    (abortTracer s).bus.failures = s.bus.failures ∧ (abortTracer s).bus.mute = s.bus.mute ∧
    (abortTracer s).bus.hold = s.bus.hold ∧ (abortTracer s).bus.drivePull = s.bus.drivePull ∧
    (abortTracer s).bus.breachPull = s.bus.breachPull ∧ (abortTracer s).bus.sensedLow = s.bus.sensedLow ∧
    (abortTracer s).bus.filter = s.bus.filter := by
  unfold abortTracer
  dsimp only
  (repeat' split) <;> simp

@[simp] theorem abortLoading_bus (s : State) :
    (abortLoading s).bus.rx = s.bus.rx ∧ (abortLoading s).bus.rxPhase = s.bus.rxPhase ∧
    (abortLoading s).bus.ack = s.bus.ack ∧ (abortLoading s).bus.resetDue = s.bus.resetDue ∧
    (abortLoading s).bus.failures = s.bus.failures ∧ (abortLoading s).bus.mute = s.bus.mute ∧
    (abortLoading s).bus.hold = s.bus.hold ∧ (abortLoading s).bus.drivePull = s.bus.drivePull ∧
    (abortLoading s).bus.breachPull = s.bus.breachPull ∧ (abortLoading s).bus.sensedLow = s.bus.sensedLow ∧
    (abortLoading s).bus.filter = s.bus.filter := by
  unfold abortLoading
  dsimp only
  split <;> simp

@[simp] theorem abortJob_bus (s : State) :
    (abortJob s).bus.rx = s.bus.rx ∧ (abortJob s).bus.rxPhase = s.bus.rxPhase ∧ (abortJob s).bus.ack = s.bus.ack ∧
    (abortJob s).bus.resetDue = s.bus.resetDue ∧ (abortJob s).bus.failures = s.bus.failures ∧
    (abortJob s).bus.mute = s.bus.mute ∧ (abortJob s).bus.hold = s.bus.hold ∧
    (abortJob s).bus.drivePull = s.bus.drivePull ∧ (abortJob s).bus.breachPull = s.bus.breachPull ∧
    (abortJob s).bus.sensedLow = s.bus.sensedLow ∧ (abortJob s).bus.filter = s.bus.filter := by
  unfold abortJob
  (repeat' split) <;> simp

@[simp] theorem takeAbort_bus (f : Frame) (s : State) :
    (takeAbort f s).bus.rx = s.bus.rx ∧ (takeAbort f s).bus.rxPhase = s.bus.rxPhase ∧
    (takeAbort f s).bus.ack = s.bus.ack ∧ (takeAbort f s).bus.resetDue = s.bus.resetDue ∧
    (takeAbort f s).bus.failures = s.bus.failures ∧ (takeAbort f s).bus.mute = s.bus.mute ∧
    (takeAbort f s).bus.hold = s.bus.hold ∧ (takeAbort f s).bus.drivePull = s.bus.drivePull ∧
    (takeAbort f s).bus.breachPull = s.bus.breachPull ∧ (takeAbort f s).bus.sensedLow = s.bus.sensedLow ∧
    (takeAbort f s).bus.filter = s.bus.filter := by
  unfold takeAbort
  (repeat' split) <;> simp

@[simp] theorem excuseCarver_bus (k : Nat) (r : JobRecord) (t : TracerJob) (s : State) :
    (excuseCarver k r t s).bus.rx = s.bus.rx ∧ (excuseCarver k r t s).bus.rxPhase = s.bus.rxPhase ∧
    (excuseCarver k r t s).bus.ack = s.bus.ack ∧ (excuseCarver k r t s).bus.resetDue = s.bus.resetDue ∧
    (excuseCarver k r t s).bus.failures = s.bus.failures ∧ (excuseCarver k r t s).bus.mute = s.bus.mute ∧
    (excuseCarver k r t s).bus.hold = s.bus.hold ∧ (excuseCarver k r t s).bus.drivePull = s.bus.drivePull ∧
    (excuseCarver k r t s).bus.breachPull = s.bus.breachPull ∧
    (excuseCarver k r t s).bus.sensedLow = s.bus.sensedLow ∧ (excuseCarver k r t s).bus.filter = s.bus.filter := by
  unfold excuseCarver
  dsimp only
  (repeat' split) <;> simp

@[simp] theorem tracerExcuse_bus (f : Frame) (s : State) :
    (tracerExcuse f s).bus.rx = s.bus.rx ∧ (tracerExcuse f s).bus.rxPhase = s.bus.rxPhase ∧
    (tracerExcuse f s).bus.ack = s.bus.ack ∧ (tracerExcuse f s).bus.resetDue = s.bus.resetDue ∧
    (tracerExcuse f s).bus.failures = s.bus.failures ∧ (tracerExcuse f s).bus.mute = s.bus.mute ∧
    (tracerExcuse f s).bus.hold = s.bus.hold ∧ (tracerExcuse f s).bus.drivePull = s.bus.drivePull ∧
    (tracerExcuse f s).bus.breachPull = s.bus.breachPull ∧ (tracerExcuse f s).bus.sensedLow = s.bus.sensedLow ∧
    (tracerExcuse f s).bus.filter = s.bus.filter := by
  unfold tracerExcuse
  (repeat' split) <;> simp

@[simp] theorem becomeExcused_bus (s : State) :
    (becomeExcused s).bus.rx = s.bus.rx ∧ (becomeExcused s).bus.rxPhase = s.bus.rxPhase ∧
    (becomeExcused s).bus.ack = s.bus.ack ∧ (becomeExcused s).bus.resetDue = s.bus.resetDue ∧
    (becomeExcused s).bus.failures = s.bus.failures ∧ (becomeExcused s).bus.mute = s.bus.mute ∧
    (becomeExcused s).bus.hold = s.bus.hold ∧ (becomeExcused s).bus.drivePull = s.bus.drivePull ∧
    (becomeExcused s).bus.breachPull = s.bus.breachPull ∧ (becomeExcused s).bus.sensedLow = s.bus.sensedLow ∧
    (becomeExcused s).bus.filter = s.bus.filter := by
  unfold becomeExcused
  dsimp only
  (repeat' split) <;> simp

@[simp] theorem carverExcuse_bus (f : Frame) (s : State) :
    (carverExcuse f s).bus.rx = s.bus.rx ∧ (carverExcuse f s).bus.rxPhase = s.bus.rxPhase ∧
    (carverExcuse f s).bus.ack = s.bus.ack ∧ (carverExcuse f s).bus.resetDue = s.bus.resetDue ∧
    (carverExcuse f s).bus.failures = s.bus.failures ∧ (carverExcuse f s).bus.mute = s.bus.mute ∧
    (carverExcuse f s).bus.hold = s.bus.hold ∧ (carverExcuse f s).bus.drivePull = s.bus.drivePull ∧
    (carverExcuse f s).bus.breachPull = s.bus.breachPull ∧ (carverExcuse f s).bus.sensedLow = s.bus.sensedLow ∧
    (carverExcuse f s).bus.filter = s.bus.filter := by
  unfold carverExcuse
  (repeat' split) <;> simp

@[simp] theorem takeExcuse_bus (f : Frame) (s : State) :
    (takeExcuse f s).bus.rx = s.bus.rx ∧ (takeExcuse f s).bus.rxPhase = s.bus.rxPhase ∧
    (takeExcuse f s).bus.ack = s.bus.ack ∧ (takeExcuse f s).bus.resetDue = s.bus.resetDue ∧
    (takeExcuse f s).bus.failures = s.bus.failures ∧ (takeExcuse f s).bus.mute = s.bus.mute ∧
    (takeExcuse f s).bus.hold = s.bus.hold ∧ (takeExcuse f s).bus.drivePull = s.bus.drivePull ∧
    (takeExcuse f s).bus.breachPull = s.bus.breachPull ∧ (takeExcuse f s).bus.sensedLow = s.bus.sensedLow ∧
    (takeExcuse f s).bus.filter = s.bus.filter := by
  unfold takeExcuse
  (repeat' split) <;> simp

@[simp] theorem resumeCarver_bus (s : State) :
    (resumeCarver s).bus.rx = s.bus.rx ∧ (resumeCarver s).bus.rxPhase = s.bus.rxPhase ∧
    (resumeCarver s).bus.ack = s.bus.ack ∧ (resumeCarver s).bus.resetDue = s.bus.resetDue ∧
    (resumeCarver s).bus.failures = s.bus.failures ∧ (resumeCarver s).bus.mute = s.bus.mute ∧
    (resumeCarver s).bus.hold = s.bus.hold ∧ (resumeCarver s).bus.drivePull = s.bus.drivePull ∧
    (resumeCarver s).bus.breachPull = s.bus.breachPull ∧ (resumeCarver s).bus.sensedLow = s.bus.sensedLow ∧
    (resumeCarver s).bus.filter = s.bus.filter := by
  simp [resumeCarver]

@[simp] theorem reachHeld_bus (s : State) :
    (reachHeld s).bus.rx = s.bus.rx ∧ (reachHeld s).bus.rxPhase = s.bus.rxPhase ∧ (reachHeld s).bus.ack = s.bus.ack ∧
    (reachHeld s).bus.resetDue = s.bus.resetDue ∧ (reachHeld s).bus.failures = s.bus.failures ∧
    (reachHeld s).bus.mute = s.bus.mute ∧ (reachHeld s).bus.hold = s.bus.hold ∧
    (reachHeld s).bus.drivePull = s.bus.drivePull ∧ (reachHeld s).bus.breachPull = s.bus.breachPull ∧
    (reachHeld s).bus.sensedLow = s.bus.sensedLow ∧ (reachHeld s).bus.filter = s.bus.filter := by
  unfold reachHeld
  (repeat' split) <;> simp

@[simp] theorem offerHeldFinish_bus (s : State) :
    (offerHeldFinish s).bus.sending = s.bus.sending ∧ (offerHeldFinish s).bus.rx = s.bus.rx ∧
    (offerHeldFinish s).bus.rxPhase = s.bus.rxPhase ∧ (offerHeldFinish s).bus.ack = s.bus.ack ∧
    (offerHeldFinish s).bus.resetDue = s.bus.resetDue ∧ (offerHeldFinish s).bus.failures = s.bus.failures ∧
    (offerHeldFinish s).bus.mute = s.bus.mute ∧ (offerHeldFinish s).bus.hold = s.bus.hold ∧
    (offerHeldFinish s).bus.drivePull = s.bus.drivePull ∧ (offerHeldFinish s).bus.breachPull = s.bus.breachPull ∧
    (offerHeldFinish s).bus.sensedLow = s.bus.sensedLow ∧ (offerHeldFinish s).bus.filter = s.bus.filter := by
  unfold offerHeldFinish
  (repeat' split) <;> simp

@[simp] theorem resumeTracer_bus (s : State) :
    (resumeTracer s).bus.rx = s.bus.rx ∧ (resumeTracer s).bus.rxPhase = s.bus.rxPhase ∧
    (resumeTracer s).bus.ack = s.bus.ack ∧ (resumeTracer s).bus.resetDue = s.bus.resetDue ∧
    (resumeTracer s).bus.failures = s.bus.failures ∧ (resumeTracer s).bus.mute = s.bus.mute ∧
    (resumeTracer s).bus.hold = s.bus.hold ∧ (resumeTracer s).bus.drivePull = s.bus.drivePull ∧
    (resumeTracer s).bus.breachPull = s.bus.breachPull ∧ (resumeTracer s).bus.sensedLow = s.bus.sensedLow ∧
    (resumeTracer s).bus.filter = s.bus.filter := by
  simp [resumeTracer]

@[simp] theorem resumeJob_bus (s : State) :
    (resumeJob s).bus.rx = s.bus.rx ∧ (resumeJob s).bus.rxPhase = s.bus.rxPhase ∧ (resumeJob s).bus.ack = s.bus.ack ∧
    (resumeJob s).bus.resetDue = s.bus.resetDue ∧ (resumeJob s).bus.failures = s.bus.failures ∧
    (resumeJob s).bus.mute = s.bus.mute ∧ (resumeJob s).bus.hold = s.bus.hold ∧
    (resumeJob s).bus.drivePull = s.bus.drivePull ∧ (resumeJob s).bus.breachPull = s.bus.breachPull ∧
    (resumeJob s).bus.sensedLow = s.bus.sensedLow ∧ (resumeJob s).bus.filter = s.bus.filter := by
  unfold resumeJob
  dsimp only
  (repeat' split) <;> simp

@[simp] theorem takeResume_bus (f : Frame) (s : State) :
    (takeResume f s).bus.rx = s.bus.rx ∧ (takeResume f s).bus.rxPhase = s.bus.rxPhase ∧
    (takeResume f s).bus.ack = s.bus.ack ∧ (takeResume f s).bus.resetDue = s.bus.resetDue ∧
    (takeResume f s).bus.failures = s.bus.failures ∧ (takeResume f s).bus.mute = s.bus.mute ∧
    (takeResume f s).bus.hold = s.bus.hold ∧ (takeResume f s).bus.drivePull = s.bus.drivePull ∧
    (takeResume f s).bus.breachPull = s.bus.breachPull ∧ (takeResume f s).bus.sensedLow = s.bus.sensedLow ∧
    (takeResume f s).bus.filter = s.bus.filter := by
  unfold takeResume
  (repeat' split) <;> simp

@[simp] theorem clearAll_bus (l : List Cond) (s : State) :
    (clearAll l s).bus.queue = s.bus.queue ∧ (clearAll l s).bus.sending = s.bus.sending ∧
    (clearAll l s).bus.offers = s.bus.offers ∧ (clearAll l s).bus.rx = s.bus.rx ∧
    (clearAll l s).bus.rxPhase = s.bus.rxPhase ∧ (clearAll l s).bus.ack = s.bus.ack ∧
    (clearAll l s).bus.resetDue = s.bus.resetDue ∧ (clearAll l s).bus.failures = s.bus.failures ∧
    (clearAll l s).bus.mute = s.bus.mute ∧ (clearAll l s).bus.hold = s.bus.hold ∧
    (clearAll l s).bus.sensedLow = s.bus.sensedLow ∧ (clearAll l s).bus.filter = s.bus.filter := by
  simp [clearAll]

@[simp] theorem takeClear_bus (f : Frame) (s : State) :
    (takeClear f s).bus.queue = s.bus.queue ∧ (takeClear f s).bus.sending = s.bus.sending ∧
    (takeClear f s).bus.offers = s.bus.offers ∧ (takeClear f s).bus.rx = s.bus.rx ∧
    (takeClear f s).bus.rxPhase = s.bus.rxPhase ∧ (takeClear f s).bus.ack = s.bus.ack ∧
    (takeClear f s).bus.resetDue = s.bus.resetDue ∧ (takeClear f s).bus.failures = s.bus.failures ∧
    (takeClear f s).bus.mute = s.bus.mute ∧ (takeClear f s).bus.hold = s.bus.hold ∧
    (takeClear f s).bus.sensedLow = s.bus.sensedLow ∧ (takeClear f s).bus.filter = s.bus.filter := by
  unfold takeClear
  (repeat' split) <;> simp

@[simp] theorem beginDrain_bus (s : State) :
    (beginDrain s).bus.rx = s.bus.rx ∧ (beginDrain s).bus.rxPhase = s.bus.rxPhase ∧
    (beginDrain s).bus.ack = s.bus.ack ∧ (beginDrain s).bus.resetDue = s.bus.resetDue ∧
    (beginDrain s).bus.failures = s.bus.failures ∧ (beginDrain s).bus.mute = s.bus.mute ∧
    (beginDrain s).bus.hold = s.bus.hold ∧ (beginDrain s).bus.drivePull = s.bus.drivePull ∧
    (beginDrain s).bus.breachPull = s.bus.breachPull ∧ (beginDrain s).bus.sensedLow = s.bus.sensedLow ∧
    (beginDrain s).bus.filter = s.bus.filter := by
  unfold beginDrain
  (repeat' split) <;> simp

@[simp] theorem takeFinish_bus (f : Frame) (s : State) :
    (takeFinish f s).bus.rx = s.bus.rx ∧ (takeFinish f s).bus.rxPhase = s.bus.rxPhase ∧
    (takeFinish f s).bus.ack = s.bus.ack ∧ (takeFinish f s).bus.resetDue = s.bus.resetDue ∧
    (takeFinish f s).bus.failures = s.bus.failures ∧ (takeFinish f s).bus.mute = s.bus.mute ∧
    (takeFinish f s).bus.hold = s.bus.hold ∧ (takeFinish f s).bus.drivePull = s.bus.drivePull ∧
    (takeFinish f s).bus.breachPull = s.bus.breachPull ∧ (takeFinish f s).bus.sensedLow = s.bus.sensedLow ∧
    (takeFinish f s).bus.filter = s.bus.filter := by
  unfold takeFinish
  (repeat' split) <;> simp

@[simp] theorem creditFrame_bus (f : Frame) (s : State) :
    (creditFrame f s).bus.rx = s.bus.rx ∧ (creditFrame f s).bus.rxPhase = s.bus.rxPhase ∧
    (creditFrame f s).bus.ack = s.bus.ack ∧ (creditFrame f s).bus.resetDue = s.bus.resetDue ∧
    (creditFrame f s).bus.failures = s.bus.failures ∧ (creditFrame f s).bus.mute = s.bus.mute ∧
    (creditFrame f s).bus.hold = s.bus.hold ∧ (creditFrame f s).bus.drivePull = s.bus.drivePull ∧
    (creditFrame f s).bus.breachPull = s.bus.breachPull ∧ (creditFrame f s).bus.sensedLow = s.bus.sensedLow ∧
    (creditFrame f s).bus.filter = s.bus.filter := by
  unfold creditFrame
  (repeat' split) <;> simp

@[simp] theorem traceFrame_bus (f : Frame) (s : State) :
    (traceFrame f s).bus.rx = s.bus.rx ∧ (traceFrame f s).bus.rxPhase = s.bus.rxPhase ∧
    (traceFrame f s).bus.ack = s.bus.ack ∧ (traceFrame f s).bus.resetDue = s.bus.resetDue ∧
    (traceFrame f s).bus.failures = s.bus.failures ∧ (traceFrame f s).bus.mute = s.bus.mute ∧
    (traceFrame f s).bus.hold = s.bus.hold ∧ (traceFrame f s).bus.drivePull = s.bus.drivePull ∧
    (traceFrame f s).bus.breachPull = s.bus.breachPull ∧ (traceFrame f s).bus.sensedLow = s.bus.sensedLow ∧
    (traceFrame f s).bus.filter = s.bus.filter := by
  unfold traceFrame
  (repeat' split) <;> simp

@[simp] theorem reachFrom_bus (side : Side) (v : Seen) (s : State) :
    (reachFrom side v s).bus.rx = s.bus.rx ∧ (reachFrom side v s).bus.rxPhase = s.bus.rxPhase ∧
    (reachFrom side v s).bus.ack = s.bus.ack ∧ (reachFrom side v s).bus.resetDue = s.bus.resetDue ∧
    (reachFrom side v s).bus.failures = s.bus.failures ∧ (reachFrom side v s).bus.mute = s.bus.mute ∧
    (reachFrom side v s).bus.hold = s.bus.hold ∧ (reachFrom side v s).bus.drivePull = s.bus.drivePull ∧
    (reachFrom side v s).bus.sensedLow = s.bus.sensedLow ∧ (reachFrom side v s).bus.filter = s.bus.filter := by
  unfold reachFrom
  dsimp only
  (repeat' split) <;> simp

@[simp] theorem takeReach_bus (f : Frame) (s : State) :
    (takeReach f s).bus.rx = s.bus.rx ∧ (takeReach f s).bus.rxPhase = s.bus.rxPhase ∧
    (takeReach f s).bus.ack = s.bus.ack ∧ (takeReach f s).bus.resetDue = s.bus.resetDue ∧
    (takeReach f s).bus.failures = s.bus.failures ∧ (takeReach f s).bus.mute = s.bus.mute ∧
    (takeReach f s).bus.hold = s.bus.hold ∧ (takeReach f s).bus.drivePull = s.bus.drivePull ∧
    (takeReach f s).bus.sensedLow = s.bus.sensedLow ∧ (takeReach f s).bus.filter = s.bus.filter := by
  unfold takeReach
  (repeat' split) <;> simp

@[simp] theorem takeQuery_bus (f : Frame) (s : State) :
    (takeQuery f s).bus.sending = s.bus.sending ∧ (takeQuery f s).bus.rx = s.bus.rx ∧
    (takeQuery f s).bus.rxPhase = s.bus.rxPhase ∧ (takeQuery f s).bus.ack = s.bus.ack ∧
    (takeQuery f s).bus.resetDue = s.bus.resetDue ∧ (takeQuery f s).bus.failures = s.bus.failures ∧
    (takeQuery f s).bus.mute = s.bus.mute ∧ (takeQuery f s).bus.hold = s.bus.hold ∧
    (takeQuery f s).bus.drivePull = s.bus.drivePull ∧ (takeQuery f s).bus.breachPull = s.bus.breachPull ∧
    (takeQuery f s).bus.sensedLow = s.bus.sensedLow ∧ (takeQuery f s).bus.filter = s.bus.filter := by
  unfold takeQuery
  (repeat' split) <;> simp

@[simp] theorem viewStale_bus (side : Side) (station : Option Nat) (h : Heard) (s : State) :
    (viewStale side station h s).bus.rx = s.bus.rx ∧ (viewStale side station h s).bus.rxPhase = s.bus.rxPhase ∧
    (viewStale side station h s).bus.ack = s.bus.ack ∧ (viewStale side station h s).bus.resetDue = s.bus.resetDue ∧
    (viewStale side station h s).bus.failures = s.bus.failures ∧ (viewStale side station h s).bus.mute = s.bus.mute ∧
    (viewStale side station h s).bus.hold = s.bus.hold ∧
    (viewStale side station h s).bus.drivePull = s.bus.drivePull ∧
    (viewStale side station h s).bus.breachPull = s.bus.breachPull ∧
    (viewStale side station h s).bus.sensedLow = s.bus.sensedLow ∧
    (viewStale side station h s).bus.filter = s.bus.filter := by
  unfold viewStale
  dsimp only
  (repeat' split) <;> simp

@[simp] theorem fallSilent_bus (k : Nat) (e : LagEntry) (s : State) :
    (fallSilent k e s).bus.rx = s.bus.rx ∧ (fallSilent k e s).bus.rxPhase = s.bus.rxPhase ∧
    (fallSilent k e s).bus.ack = s.bus.ack ∧ (fallSilent k e s).bus.resetDue = s.bus.resetDue ∧
    (fallSilent k e s).bus.failures = s.bus.failures ∧ (fallSilent k e s).bus.mute = s.bus.mute ∧
    (fallSilent k e s).bus.hold = s.bus.hold ∧ (fallSilent k e s).bus.drivePull = s.bus.drivePull ∧
    (fallSilent k e s).bus.breachPull = s.bus.breachPull ∧ (fallSilent k e s).bus.sensedLow = s.bus.sensedLow ∧
    (fallSilent k e s).bus.filter = s.bus.filter := by
  simp [fallSilent]

@[simp] theorem relieve_bus (o : Override) (s : State) :
    (relieve o s).bus.rx = s.bus.rx ∧ (relieve o s).bus.rxPhase = s.bus.rxPhase ∧ (relieve o s).bus.ack = s.bus.ack ∧
    (relieve o s).bus.resetDue = s.bus.resetDue ∧ (relieve o s).bus.failures = s.bus.failures ∧
    (relieve o s).bus.mute = s.bus.mute ∧ (relieve o s).bus.hold = s.bus.hold ∧
    (relieve o s).bus.drivePull = s.bus.drivePull ∧ (relieve o s).bus.breachPull = s.bus.breachPull ∧
    (relieve o s).bus.sensedLow = s.bus.sensedLow ∧ (relieve o s).bus.filter = s.bus.filter := by
  simp [relieve]

@[simp] theorem stallCarver_bus (s : State) :
    (stallCarver s).bus.rx = s.bus.rx ∧ (stallCarver s).bus.rxPhase = s.bus.rxPhase ∧
    (stallCarver s).bus.ack = s.bus.ack ∧ (stallCarver s).bus.resetDue = s.bus.resetDue ∧
    (stallCarver s).bus.failures = s.bus.failures ∧ (stallCarver s).bus.mute = s.bus.mute ∧
    (stallCarver s).bus.hold = s.bus.hold ∧ (stallCarver s).bus.drivePull = s.bus.drivePull ∧
    (stallCarver s).bus.breachPull = s.bus.breachPull ∧ (stallCarver s).bus.sensedLow = s.bus.sensedLow ∧
    (stallCarver s).bus.filter = s.bus.filter := by
  simp [stallCarver]

@[simp] theorem passReport_bus (t : TracerJob) (r : ProbeReport) (s : State) :
    (passReport t r s).bus.rx = s.bus.rx ∧ (passReport t r s).bus.rxPhase = s.bus.rxPhase ∧
    (passReport t r s).bus.ack = s.bus.ack ∧ (passReport t r s).bus.resetDue = s.bus.resetDue ∧
    (passReport t r s).bus.failures = s.bus.failures ∧ (passReport t r s).bus.mute = s.bus.mute ∧
    (passReport t r s).bus.hold = s.bus.hold ∧ (passReport t r s).bus.drivePull = s.bus.drivePull ∧
    (passReport t r s).bus.breachPull = s.bus.breachPull ∧ (passReport t r s).bus.sensedLow = s.bus.sensedLow ∧
    (passReport t r s).bus.filter = s.bus.filter := by
  unfold passReport
  dsimp only
  (repeat' split) <;> simp

@[simp] theorem closeSweep_bus (e : Entry) (s : State) :
    (closeSweep e s).bus.rx = s.bus.rx ∧ (closeSweep e s).bus.rxPhase = s.bus.rxPhase ∧
    (closeSweep e s).bus.ack = s.bus.ack ∧ (closeSweep e s).bus.resetDue = s.bus.resetDue ∧
    (closeSweep e s).bus.failures = s.bus.failures ∧ (closeSweep e s).bus.mute = s.bus.mute ∧
    (closeSweep e s).bus.hold = s.bus.hold ∧ (closeSweep e s).bus.drivePull = s.bus.drivePull ∧
    (closeSweep e s).bus.breachPull = s.bus.breachPull ∧ (closeSweep e s).bus.sensedLow = s.bus.sensedLow ∧
    (closeSweep e s).bus.filter = s.bus.filter := by
  simp [closeSweep]

@[simp] theorem moveArrived_bus (m : Move) (probe : Probe) (s : State) :
    (moveArrived m probe s).bus.rx = s.bus.rx ∧ (moveArrived m probe s).bus.rxPhase = s.bus.rxPhase ∧
    (moveArrived m probe s).bus.ack = s.bus.ack ∧ (moveArrived m probe s).bus.resetDue = s.bus.resetDue ∧
    (moveArrived m probe s).bus.failures = s.bus.failures ∧ (moveArrived m probe s).bus.mute = s.bus.mute ∧
    (moveArrived m probe s).bus.hold = s.bus.hold ∧ (moveArrived m probe s).bus.drivePull = s.bus.drivePull ∧
    (moveArrived m probe s).bus.breachPull = s.bus.breachPull ∧
    (moveArrived m probe s).bus.sensedLow = s.bus.sensedLow ∧ (moveArrived m probe s).bus.filter = s.bus.filter := by
  unfold moveArrived
  (repeat' split) <;> simp

@[simp] theorem handArrival_bus (o : Outstanding) (probe : Probe) (s : State) :
    (handArrival o probe s).bus.rx = s.bus.rx ∧ (handArrival o probe s).bus.rxPhase = s.bus.rxPhase ∧
    (handArrival o probe s).bus.ack = s.bus.ack ∧ (handArrival o probe s).bus.resetDue = s.bus.resetDue ∧
    (handArrival o probe s).bus.failures = s.bus.failures ∧ (handArrival o probe s).bus.mute = s.bus.mute ∧
    (handArrival o probe s).bus.hold = s.bus.hold ∧ (handArrival o probe s).bus.drivePull = s.bus.drivePull ∧
    (handArrival o probe s).bus.breachPull = s.bus.breachPull ∧
    (handArrival o probe s).bus.sensedLow = s.bus.sensedLow ∧ (handArrival o probe s).bus.filter = s.bus.filter := by
  unfold handArrival
  (repeat' split) <;> simp

@[simp] theorem arriveOne_bus (o : Outstanding) (rest : List Outstanding) (probe : Probe) (s : State) :
    (arriveOne o rest probe s).bus.rx = s.bus.rx ∧ (arriveOne o rest probe s).bus.rxPhase = s.bus.rxPhase ∧
    (arriveOne o rest probe s).bus.ack = s.bus.ack ∧ (arriveOne o rest probe s).bus.resetDue = s.bus.resetDue ∧
    (arriveOne o rest probe s).bus.failures = s.bus.failures ∧ (arriveOne o rest probe s).bus.mute = s.bus.mute ∧
    (arriveOne o rest probe s).bus.hold = s.bus.hold ∧ (arriveOne o rest probe s).bus.drivePull = s.bus.drivePull ∧
    (arriveOne o rest probe s).bus.breachPull = s.bus.breachPull ∧
    (arriveOne o rest probe s).bus.sensedLow = s.bus.sensedLow ∧ (arriveOne o rest probe s).bus.filter = s.bus.filter := by
  simp [arriveOne]

@[simp] theorem arriveTag_bus (tag : Byte) (probe : Probe) (s : State) :
    (arriveTag tag probe s).bus.rx = s.bus.rx ∧ (arriveTag tag probe s).bus.rxPhase = s.bus.rxPhase ∧
    (arriveTag tag probe s).bus.ack = s.bus.ack ∧ (arriveTag tag probe s).bus.resetDue = s.bus.resetDue ∧
    (arriveTag tag probe s).bus.failures = s.bus.failures ∧ (arriveTag tag probe s).bus.mute = s.bus.mute ∧
    (arriveTag tag probe s).bus.hold = s.bus.hold ∧ (arriveTag tag probe s).bus.drivePull = s.bus.drivePull ∧
    (arriveTag tag probe s).bus.breachPull = s.bus.breachPull ∧
    (arriveTag tag probe s).bus.sensedLow = s.bus.sensedLow ∧ (arriveTag tag probe s).bus.filter = s.bus.filter := by
  unfold arriveTag
  (repeat' split) <;> simp

@[simp] theorem senseLow_bus (s : State) :
    (senseLow s).bus.rx = s.bus.rx ∧ (senseLow s).bus.rxPhase = s.bus.rxPhase ∧ (senseLow s).bus.ack = s.bus.ack ∧
    (senseLow s).bus.resetDue = s.bus.resetDue ∧ (senseLow s).bus.failures = s.bus.failures ∧
    (senseLow s).bus.mute = s.bus.mute ∧ (senseLow s).bus.hold = s.bus.hold ∧
    (senseLow s).bus.drivePull = s.bus.drivePull ∧ (senseLow s).bus.breachPull = s.bus.breachPull := by
  simp [senseLow]


@[simp] theorem senseLow_level (s : State) :
    (senseLow s).bus.sensedLow = true ∧ (senseLow s).bus.filter = 0 := by
  simp [senseLow]

@[simp] theorem stopInPlace_bus (s : State) :
    (stopInPlace s).bus.rx = s.bus.rx ∧ (stopInPlace s).bus.rxPhase = s.bus.rxPhase ∧
    (stopInPlace s).bus.ack = s.bus.ack ∧ (stopInPlace s).bus.resetDue = s.bus.resetDue ∧
    (stopInPlace s).bus.failures = s.bus.failures ∧ (stopInPlace s).bus.mute = s.bus.mute ∧
    (stopInPlace s).bus.hold = s.bus.hold ∧ (stopInPlace s).bus.drivePull = s.bus.drivePull ∧
    (stopInPlace s).bus.breachPull = s.bus.breachPull ∧ (stopInPlace s).bus.sensedLow = s.bus.sensedLow ∧
    (stopInPlace s).bus.filter = s.bus.filter := by
  simp [stopInPlace]

@[simp] theorem enterStopped_bus (s : State) :
    (enterStopped s).bus.rx = s.bus.rx ∧ (enterStopped s).bus.rxPhase = s.bus.rxPhase ∧
    (enterStopped s).bus.ack = s.bus.ack ∧ (enterStopped s).bus.resetDue = s.bus.resetDue ∧
    (enterStopped s).bus.failures = s.bus.failures ∧ (enterStopped s).bus.mute = s.bus.mute ∧
    (enterStopped s).bus.hold = s.bus.hold ∧ (enterStopped s).bus.drivePull = s.bus.drivePull ∧
    (enterStopped s).bus.breachPull = s.bus.breachPull ∧ (enterStopped s).bus.sensedLow = s.bus.sensedLow ∧
    (enterStopped s).bus.filter = s.bus.filter := by
  simp [enterStopped]

@[simp] theorem stopPort_bus (s : State) :
    (stopPort s).bus.rx = s.bus.rx ∧ (stopPort s).bus.rxPhase = s.bus.rxPhase ∧ (stopPort s).bus.ack = s.bus.ack ∧
    (stopPort s).bus.resetDue = s.bus.resetDue ∧ (stopPort s).bus.failures = s.bus.failures ∧
    (stopPort s).bus.mute = s.bus.mute ∧ (stopPort s).bus.hold = s.bus.hold ∧
    (stopPort s).bus.drivePull = s.bus.drivePull ∧ (stopPort s).bus.breachPull = s.bus.breachPull ∧
    (stopPort s).bus.sensedLow = s.bus.sensedLow ∧ (stopPort s).bus.filter = s.bus.filter := by
  unfold stopPort
  (repeat' split) <;> simp


end Sys2Proof.Machine
end

