-- ==== Sys2Proof/Laws/CondFields.lean ====
section
/-! SUPPORT. Frame lemmas inside the Condition Unit: the fields of it that an operation leaves as they are. -/

namespace Sys2Proof.Machine

open Sys2Proof

@[simp] theorem ConditionUnit.countUp_fields (b : ConditionUnit) (c : Counter) (n : Nat) :
    (b.countUp c n).set = b.set ∧ (b.countUp c n).risen = b.risen ∧ (b.countUp c n).inflight = b.inflight := by
  simp [ConditionUnit.countUp]

@[simp] theorem count_cond (c : Counter) (n : Nat) (s : State) :
    (count c n s).cond.set = s.cond.set ∧ (count c n s).cond.risen = s.cond.risen ∧
    (count c n s).cond.inflight = s.cond.inflight := by
  simp [count]

@[simp] theorem countIf_cond (p : Bool) (c : Counter) (s : State) :
    (countIf p c s).cond.set = s.cond.set ∧ (countIf p c s).cond.risen = s.cond.risen ∧
    (countIf p c s).cond.inflight = s.cond.inflight := by
  unfold countIf
  (repeat' split) <;> simp

@[simp] theorem alertRise_cond (c : Cond) (s : State) :
    (alertRise c s).cond.set = s.cond.set ∧ (alertRise c s).cond.inflight = s.cond.inflight ∧
    (alertRise c s).cond.counters = s.cond.counters := by
  unfold alertRise
  (repeat' split) <;> simp

@[simp] theorem raise_cond (c : Cond) (s : State) :
    (raise c s).cond.inflight = s.cond.inflight ∧ (raise c s).cond.counters = s.cond.counters := by
  unfold raise
  (repeat' split) <;> simp

@[simp] theorem raiseIf_cond (p : Bool) (c : Cond) (s : State) :
    (raiseIf p c s).cond.inflight = s.cond.inflight ∧ (raiseIf p c s).cond.counters = s.cond.counters := by
  unfold raiseIf
  (repeat' split) <;> simp

@[simp] theorem strayControl_cond (s : State) :
    (strayControl s).cond.set = s.cond.set ∧ (strayControl s).cond.risen = s.cond.risen ∧
    (strayControl s).cond.inflight = s.cond.inflight := by
  simp [strayControl]

@[simp] theorem testBreach_cond (side : Side) (s : State) :
    (testBreach side s).cond.inflight = s.cond.inflight ∧ (testBreach side s).cond.counters = s.cond.counters := by
  unfold testBreach
  (repeat' split) <;> simp

@[simp] theorem countMarks_cond (m : Marks) (s : State) :
    (countMarks m s).cond.inflight = s.cond.inflight := by
  simp [countMarks]

@[simp] theorem issueEntry_cond (tag : Byte) (sp : Setpoint) (s : State) :
    (issueEntry tag sp s).cond.inflight = s.cond.inflight := by
  unfold issueEntry
  (repeat' split) <;> simp

@[simp] theorem issue_cond (sp : Setpoint) (s : State) :
    (issue sp s).cond.inflight = s.cond.inflight := by
  unfold issue
  (repeat' split) <;> simp

@[simp] theorem issuePassed_cond (s : State) :
    (issuePassed s).cond.inflight = s.cond.inflight := by
  unfold issuePassed
  (repeat' split) <;> simp

@[simp] theorem checkAndIssue_cond (sp : Setpoint) (s : State) :
    (checkAndIssue sp s).cond.inflight = s.cond.inflight := by
  simp [checkAndIssue]

@[simp] theorem pumpClosing_cond (s : State) :
    (pumpClosing s).cond.inflight = s.cond.inflight := by
  unfold pumpClosing
  (repeat' split) <;> simp

@[simp] theorem pumpPortLift_cond (s : State) :
    (pumpPortLift s).cond.inflight = s.cond.inflight := by
  unfold pumpPortLift
  (repeat' split) <;> simp

@[simp] theorem pumpLifts_cond (s : State) :
    (pumpLifts s).cond.inflight = s.cond.inflight := by
  simp [pumpLifts]

@[simp] theorem pumpPort_cond (s : State) :
    (pumpPort s).cond.inflight = s.cond.inflight := by
  simp [pumpPort]

@[simp] theorem driveFault_cond (code : Byte) (s : State) :
    (driveFault code s).cond.inflight = s.cond.inflight ∧ (driveFault code s).cond.counters = s.cond.counters := by
  unfold driveFault
  dsimp only
  (repeat' split) <;> simp

@[simp] theorem noteGap_cond (d : Nat) (s : State) :
    (noteGap d s).cond.inflight = s.cond.inflight := by
  unfold noteGap
  (repeat' split) <;> simp

@[simp] theorem overrun_cond (s : State) :
    (overrun s).cond.inflight = s.cond.inflight := by
  simp [overrun]

@[simp] theorem intakeAt_cond (r : TraceRecord) (d : Nat) (s : State) :
    (intakeAt r d s).cond.inflight = s.cond.inflight := by
  unfold intakeAt
  dsimp only
  (repeat' split) <;> simp

@[simp] theorem intake_cond (r : TraceRecord) (s : State) :
    (intake r s).cond.inflight = s.cond.inflight := by
  unfold intake
  dsimp only
  (repeat' split) <;> simp

@[simp] theorem takeSample_cond (r : JobRecord) (t : TracerJob) (probe : Option Probe) (s : State) :
    (takeSample r t probe s).cond.inflight = s.cond.inflight ∧
    (takeSample r t probe s).cond.counters = s.cond.counters := by
  unfold takeSample
  dsimp only
  (repeat' split) <;> simp

@[simp] theorem nextPoint_cond (r : JobRecord) (t : TracerJob) (s : State) :
    (nextPoint r t s).cond.inflight = s.cond.inflight ∧ (nextPoint r t s).cond.counters = s.cond.counters := by
  unfold nextPoint
  dsimp only
  (repeat' split) <;> simp

@[simp] theorem holdLift_cond (t : TracerJob) (s : State) :
    (holdLift t s).cond.inflight = s.cond.inflight ∧ (holdLift t s).cond.counters = s.cond.counters := by
  unfold holdLift
  dsimp only
  (repeat' split) <;> simp

@[simp] theorem endHold_cond (s : State) :
    (endHold s).cond.inflight = s.cond.inflight ∧ (endHold s).cond.counters = s.cond.counters := by
  unfold endHold
  dsimp only
  (repeat' split) <;> simp

@[simp] theorem recordEmitted_cond (t : TracerJob) (r : TraceRecord) (s : State) :
    (recordEmitted t r s).cond.inflight = s.cond.inflight ∧ (recordEmitted t r s).cond.counters = s.cond.counters := by
  unfold recordEmitted
  (repeat' split) <;> simp

@[simp] theorem decidePass_cond (p : Nat) (s : State) :
    (decidePass p s).cond.inflight = s.cond.inflight ∧ (decidePass p s).cond.counters = s.cond.counters := by
  unfold decidePass
  (repeat' split) <;> simp

@[simp] theorem testCollection_cond (s : State) :
    (testCollection s).cond.inflight = s.cond.inflight ∧ (testCollection s).cond.counters = s.cond.counters := by
  unfold testCollection
  (repeat' split) <;> simp

@[simp] theorem enterCollecting_cond (r : JobRecord) (t : TracerJob) (s : State) :
    (enterCollecting r t s).cond.inflight = s.cond.inflight ∧ (enterCollecting r t s).cond.counters = s.cond.counters := by
  unfold enterCollecting
  (repeat' split) <;> simp

@[simp] theorem enrolmentResult_cond (s : State) :
    (enrolmentResult s).cond.inflight = s.cond.inflight ∧ (enrolmentResult s).cond.counters = s.cond.counters := by
  unfold enrolmentResult
  dsimp only
  (repeat' split) <;> simp

@[simp] theorem endEnrolment_cond (s : State) :
    (endEnrolment s).cond.inflight = s.cond.inflight ∧ (endEnrolment s).cond.counters = s.cond.counters := by
  unfold endEnrolment
  (repeat' split) <;> simp

@[simp] theorem testEnrolment_cond (s : State) :
    (testEnrolment s).cond.inflight = s.cond.inflight ∧ (testEnrolment s).cond.counters = s.cond.counters := by
  unfold testEnrolment
  (repeat' split) <;> simp

@[simp] theorem afterLive_cond (j : JobRecord) (t : TracerJob) (r : TraceRecord) (s : State) :
    (afterLive j t r s).cond.inflight = s.cond.inflight ∧ (afterLive j t r s).cond.counters = s.cond.counters := by
  unfold afterLive
  (repeat' split) <;> simp

@[simp] theorem afterReplay_cond (j : JobRecord) (t : TracerJob) (c : Cursor) (s : State) :
    (afterReplay j t c s).cond.inflight = s.cond.inflight ∧ (afterReplay j t c s).cond.counters = s.cond.counters := by
  unfold afterReplay
  (repeat' split) <;> simp

@[simp] theorem emitHead_cond (s : State) :
    (emitHead s).cond.inflight = s.cond.inflight ∧ (emitHead s).cond.counters = s.cond.counters := by
  unfold emitHead
  dsimp only
  (repeat' split) <;> simp

@[simp] theorem dropEntry_cond (k : Nat) (e : LagEntry) (s : State) :
    (dropEntry k e s).cond.inflight = s.cond.inflight ∧ (dropEntry k e s).cond.counters = s.cond.counters := by
  simp [dropEntry]

@[simp] theorem creditUpdate_cond (e : LagEntry) (c : CreditReport) (s : State) :
    (creditUpdate e c s).cond.inflight = s.cond.inflight ∧ (creditUpdate e c s).cond.counters = s.cond.counters := by
  simp [creditUpdate]

@[simp] theorem creditFromEntry_cond (e : LagEntry) (c : CreditReport) (s : State) :
    (creditFromEntry e c s).cond.inflight = s.cond.inflight ∧ (creditFromEntry e c s).cond.counters = s.cond.counters := by
  unfold creditFromEntry
  (repeat' split) <;> simp

@[simp] theorem admitCarver_cond (c : CreditReport) (s : State) :
    (admitCarver c s).cond.inflight = s.cond.inflight ∧ (admitCarver c s).cond.counters = s.cond.counters := by
  simp [admitCarver]

@[simp] theorem takeCredit_cond (c : CreditReport) (s : State) :
    (takeCredit c s).cond.inflight = s.cond.inflight ∧ (takeCredit c s).cond.counters = s.cond.counters := by
  unfold takeCredit
  (repeat' split) <;> simp

@[simp] theorem removeCarver_cond (k : Nat) (s : State) :
    (removeCarver k s).cond.inflight = s.cond.inflight ∧ (removeCarver k s).cond.counters = s.cond.counters := by
  simp [removeCarver]

@[simp] theorem rejoinNotice_cond (k : Nat) (s : State) :
    (rejoinNotice k s).cond.inflight = s.cond.inflight ∧ (rejoinNotice k s).cond.counters = s.cond.counters := by
  unfold rejoinNotice
  (repeat' split) <;> simp

@[simp] theorem placeFreed_cond (s : State) :
    (placeFreed s).cond.inflight = s.cond.inflight ∧ (placeFreed s).cond.counters = s.cond.counters := by
  unfold placeFreed
  (repeat' split) <;> simp

@[simp] theorem noteAttempt_cond (k : Kind) (s : State) :
    (noteAttempt k s).cond.set = s.cond.set ∧ (noteAttempt k s).cond.counters = s.cond.counters := by
  unfold noteAttempt
  (repeat' split) <;> simp

@[simp] theorem startAttempt_cond (f : TxFrame) (rest : List TxFrame) (s : State) :
    (startAttempt f rest s).cond.set = s.cond.set ∧ (startAttempt f rest s).cond.counters = s.cond.counters := by
  simp [startAttempt]

@[simp] theorem contend_cond (s : State) :
    (contend s).cond.set = s.cond.set ∧ (contend s).cond.counters = s.cond.counters := by
  unfold contend
  (repeat' split) <;> simp

@[simp] theorem offerReply_cond (dest : Nat) (payload : List Byte) (s : State) :
    (offerReply dest payload s).cond.set = s.cond.set ∧ (offerReply dest payload s).cond.risen = s.cond.risen ∧
    (offerReply dest payload s).cond.inflight = s.cond.inflight := by
  unfold offerReply
  (repeat' split) <;> simp

@[simp] theorem answerQuery_cond (src : Nat) (query : List Byte) (s : State) :
    (answerQuery src query s).cond.set = s.cond.set ∧ (answerQuery src query s).cond.risen = s.cond.risen ∧
    (answerQuery src query s).cond.inflight = s.cond.inflight := by
  simp [answerQuery]

@[simp] theorem readStandingFault_cond (s : State) :
    (readStandingFault s).cond.inflight = s.cond.inflight ∧ (readStandingFault s).cond.counters = s.cond.counters := by
  unfold readStandingFault
  (repeat' split) <;> simp

@[simp] theorem endStarting_cond (result : Nat) (s : State) :
    (endStarting result s).cond.inflight = s.cond.inflight ∧ (endStarting result s).cond.counters = s.cond.counters := by
  simp [endStarting]

@[simp] theorem leaveReset_cond (straps : Straps) (s : State) :
    (leaveReset straps s).cond.inflight = s.cond.inflight ∧ (leaveReset straps s).cond.counters = s.cond.counters := by
  unfold leaveReset
  (repeat' split) <;> simp

@[simp] theorem memoryTested_cond (code : Nat) (passed : Bool) (s : State) :
    (memoryTested code passed s).cond.inflight = s.cond.inflight ∧
    (memoryTested code passed s).cond.counters = s.cond.counters := by
  unfold memoryTested
  (repeat' split) <;> simp

@[simp] theorem countBadFrame_cond (s : State) :
    (countBadFrame s).cond.set = s.cond.set ∧ (countBadFrame s).cond.risen = s.cond.risen ∧
    (countBadFrame s).cond.inflight = s.cond.inflight := by
  simp [countBadFrame]

@[simp] theorem attemptLost_cond (k : Kind) (s : State) :
    (attemptLost k s).cond.set = s.cond.set ∧ (attemptLost k s).cond.counters = s.cond.counters := by
  unfold attemptLost
  (repeat' split) <;> simp

@[simp] theorem loseAttempt_cond (t : Sending) (s : State) :
    (loseAttempt t s).cond.set = s.cond.set ∧ (loseAttempt t s).cond.counters = s.cond.counters := by
  simp [loseAttempt]

@[simp] theorem enterMute_cond (s : State) :
    (enterMute s).cond.inflight = s.cond.inflight ∧ (enterMute s).cond.counters = s.cond.counters := by
  simp [enterMute]

@[simp] theorem frameLeft_cond (t : Sending) (heard : Bool) (s : State) :
    (frameLeft t heard s).cond.counters = s.cond.counters := by
  unfold frameLeft
  (repeat' split) <;> simp

@[simp] theorem settle_cond (bytes : List Byte) (s : State) :
    (settle bytes s).cond.set = s.cond.set ∧ (settle bytes s).cond.risen = s.cond.risen ∧
    (settle bytes s).cond.inflight = s.cond.inflight := by
  unfold settle
  (repeat' split) <;> simp

@[simp] theorem refuse_cond (id : Nat) (code : JobCode) (index : Nat) (s : State) :
    (refuse id code index s).cond.inflight = s.cond.inflight ∧
    (refuse id code index s).cond.counters = s.cond.counters := by
  simp [refuse]

@[simp] theorem endAssembly_cond (a : Assembly) (s : State) :
    (endAssembly a s).cond.inflight = s.cond.inflight ∧ (endAssembly a s).cond.counters = s.cond.counters := by
  unfold endAssembly
  (repeat' split) <;> simp

@[simp] theorem keepAssembly_cond (a : Assembly) (more : Bool) (s : State) :
    (keepAssembly a more s).cond.inflight = s.cond.inflight ∧ (keepAssembly a more s).cond.counters = s.cond.counters := by
  unfold keepAssembly
  (repeat' split) <;> simp

@[simp] theorem startAssembly_cond (g : Segment) (s : State) :
    (startAssembly g s).cond.inflight = s.cond.inflight ∧ (startAssembly g s).cond.counters = s.cond.counters := by
  unfold startAssembly
  (repeat' split) <;> simp

@[simp] theorem continueAssembly_cond (a : Assembly) (g : Segment) (s : State) :
    (continueAssembly a g s).cond.inflight = s.cond.inflight ∧
    (continueAssembly a g s).cond.counters = s.cond.counters := by
  unfold continueAssembly
  (repeat' split) <;> simp

@[simp] theorem takeSegment_cond (g : Segment) (s : State) :
    (takeSegment g s).cond.inflight = s.cond.inflight ∧ (takeSegment g s).cond.counters = s.cond.counters := by
  unfold takeSegment
  (repeat' split) <;> simp

@[simp] theorem takeJob_cond (f : Frame) (s : State) :
    (takeJob f s).cond.inflight = s.cond.inflight ∧ (takeJob f s).cond.counters = s.cond.counters := by
  unfold takeJob
  (repeat' split) <;> simp

@[simp] theorem acceptJoin_cond (k : Nat) (p : Peer) (answer : Bool) (s : State) :
    (acceptJoin k p answer s).cond.inflight = s.cond.inflight ∧
    (acceptJoin k p answer s).cond.counters = s.cond.counters := by
  unfold acceptJoin
  dsimp only
  (repeat' split) <;> simp

@[simp] theorem takeJoin_cond (f : Frame) (s : State) :
    (takeJoin f s).cond.inflight = s.cond.inflight ∧ (takeJoin f s).cond.counters = s.cond.counters := by
  unfold takeJoin
  (repeat' split) <;> simp

@[simp] theorem startJob_cond (s : State) :
    (startJob s).cond.inflight = s.cond.inflight := by
  unfold startJob
  dsimp only
  (repeat' split) <;> simp

@[simp] theorem takeStart_cond (f : Frame) (s : State) :
    (takeStart f s).cond.inflight = s.cond.inflight := by
  unfold takeStart
  (repeat' split) <;> simp

@[simp] theorem abortCarver_cond (c : CarverJob) (s : State) :
    (abortCarver c s).cond.inflight = s.cond.inflight := by
  unfold abortCarver
  dsimp only
  (repeat' split) <;> simp

@[simp] theorem abortTracer_cond (s : State) :
    (abortTracer s).cond.inflight = s.cond.inflight := by
  unfold abortTracer
  dsimp only
  (repeat' split) <;> simp

@[simp] theorem abortLoading_cond (s : State) :
    (abortLoading s).cond.inflight = s.cond.inflight := by
  unfold abortLoading
  dsimp only
  split <;> simp

@[simp] theorem abortJob_cond (s : State) :
    (abortJob s).cond.inflight = s.cond.inflight := by
  unfold abortJob
  (repeat' split) <;> simp

@[simp] theorem takeAbort_cond (f : Frame) (s : State) :
    (takeAbort f s).cond.inflight = s.cond.inflight := by
  unfold takeAbort
  (repeat' split) <;> simp

@[simp] theorem excuseCarver_cond (k : Nat) (r : JobRecord) (t : TracerJob) (s : State) :
    (excuseCarver k r t s).cond.inflight = s.cond.inflight ∧ (excuseCarver k r t s).cond.counters = s.cond.counters := by
  unfold excuseCarver
  dsimp only
  (repeat' split) <;> simp

@[simp] theorem tracerExcuse_cond (f : Frame) (s : State) :
    (tracerExcuse f s).cond.inflight = s.cond.inflight := by
  unfold tracerExcuse
  (repeat' split) <;> simp

@[simp] theorem becomeExcused_cond (s : State) :
    (becomeExcused s).cond.inflight = s.cond.inflight := by
  unfold becomeExcused
  dsimp only
  (repeat' split) <;> simp

@[simp] theorem carverExcuse_cond (f : Frame) (s : State) :
    (carverExcuse f s).cond.inflight = s.cond.inflight := by
  unfold carverExcuse
  (repeat' split) <;> simp

@[simp] theorem takeExcuse_cond (f : Frame) (s : State) :
    (takeExcuse f s).cond.inflight = s.cond.inflight := by
  unfold takeExcuse
  (repeat' split) <;> simp

@[simp] theorem resumeCarver_cond (s : State) :
    (resumeCarver s).cond.inflight = s.cond.inflight := by
  simp [resumeCarver]

@[simp] theorem reachHeld_cond (s : State) :
    (reachHeld s).cond.inflight = s.cond.inflight ∧ (reachHeld s).cond.counters = s.cond.counters := by
  unfold reachHeld
  (repeat' split) <;> simp

@[simp] theorem resumeTracer_cond (s : State) :
    (resumeTracer s).cond.inflight = s.cond.inflight := by
  simp [resumeTracer]

@[simp] theorem resumeJob_cond (s : State) :
    (resumeJob s).cond.inflight = s.cond.inflight := by
  unfold resumeJob
  dsimp only
  (repeat' split) <;> simp

@[simp] theorem takeResume_cond (f : Frame) (s : State) :
    (takeResume f s).cond.inflight = s.cond.inflight := by
  unfold takeResume
  (repeat' split) <;> simp

@[simp] theorem clearAll_cond (l : List Cond) (s : State) :
    (clearAll l s).cond.risen = s.cond.risen ∧ (clearAll l s).cond.inflight = s.cond.inflight ∧
    (clearAll l s).cond.counters = s.cond.counters := by
  simp [clearAll]

@[simp] theorem takeClear_cond (f : Frame) (s : State) :
    (takeClear f s).cond.risen = s.cond.risen ∧ (takeClear f s).cond.inflight = s.cond.inflight := by
  unfold takeClear
  (repeat' split) <;> simp

@[simp] theorem beginDrain_cond (s : State) :
    (beginDrain s).cond.inflight = s.cond.inflight := by
  unfold beginDrain
  (repeat' split) <;> simp

@[simp] theorem takeFinish_cond (f : Frame) (s : State) :
    (takeFinish f s).cond.inflight = s.cond.inflight := by
  unfold takeFinish
  (repeat' split) <;> simp

@[simp] theorem creditFrame_cond (f : Frame) (s : State) :
    (creditFrame f s).cond.inflight = s.cond.inflight ∧ (creditFrame f s).cond.counters = s.cond.counters := by
  unfold creditFrame
  (repeat' split) <;> simp

@[simp] theorem traceFrame_cond (f : Frame) (s : State) :
    (traceFrame f s).cond.inflight = s.cond.inflight := by
  unfold traceFrame
  (repeat' split) <;> simp

@[simp] theorem reachFrom_cond (side : Side) (v : Seen) (s : State) :
    (reachFrom side v s).cond.inflight = s.cond.inflight ∧ (reachFrom side v s).cond.counters = s.cond.counters := by
  unfold reachFrom
  dsimp only
  (repeat' split) <;> simp

@[simp] theorem takeReach_cond (f : Frame) (s : State) :
    (takeReach f s).cond.inflight = s.cond.inflight ∧ (takeReach f s).cond.counters = s.cond.counters := by
  unfold takeReach
  (repeat' split) <;> simp

@[simp] theorem takeQuery_cond (f : Frame) (s : State) :
    (takeQuery f s).cond.set = s.cond.set ∧ (takeQuery f s).cond.risen = s.cond.risen ∧
    (takeQuery f s).cond.inflight = s.cond.inflight := by
  unfold takeQuery
  (repeat' split) <;> simp

@[simp] theorem viewStale_cond (side : Side) (station : Option Nat) (h : Heard) (s : State) :
    (viewStale side station h s).cond.inflight = s.cond.inflight ∧
    (viewStale side station h s).cond.counters = s.cond.counters := by
  unfold viewStale
  dsimp only
  (repeat' split) <;> simp

@[simp] theorem fallSilent_cond (k : Nat) (e : LagEntry) (s : State) :
    (fallSilent k e s).cond.inflight = s.cond.inflight ∧ (fallSilent k e s).cond.counters = s.cond.counters := by
  simp [fallSilent]

@[simp] theorem relieve_cond (o : Override) (s : State) :
    (relieve o s).cond.inflight = s.cond.inflight := by
  simp [relieve]

@[simp] theorem stallCarver_cond (s : State) :
    (stallCarver s).cond.inflight = s.cond.inflight := by
  simp [stallCarver]

@[simp] theorem passReport_cond (t : TracerJob) (r : ProbeReport) (s : State) :
    (passReport t r s).cond.inflight = s.cond.inflight ∧ (passReport t r s).cond.counters = s.cond.counters := by
  unfold passReport
  dsimp only
  (repeat' split) <;> simp

@[simp] theorem closeSweep_cond (e : Entry) (s : State) :
    (closeSweep e s).cond.inflight = s.cond.inflight := by
  simp [closeSweep]

@[simp] theorem moveArrived_cond (m : Move) (probe : Probe) (s : State) :
    (moveArrived m probe s).cond.inflight = s.cond.inflight ∧ (moveArrived m probe s).cond.counters = s.cond.counters := by
  unfold moveArrived
  (repeat' split) <;> simp

@[simp] theorem handArrival_cond (o : Outstanding) (probe : Probe) (s : State) :
    (handArrival o probe s).cond.inflight = s.cond.inflight ∧ (handArrival o probe s).cond.counters = s.cond.counters := by
  unfold handArrival
  (repeat' split) <;> simp

@[simp] theorem arriveOne_cond (o : Outstanding) (rest : List Outstanding) (probe : Probe) (s : State) :
    (arriveOne o rest probe s).cond.inflight = s.cond.inflight ∧
    (arriveOne o rest probe s).cond.counters = s.cond.counters := by
  simp [arriveOne]

@[simp] theorem arriveTag_cond (tag : Byte) (probe : Probe) (s : State) :
    (arriveTag tag probe s).cond.inflight = s.cond.inflight ∧ (arriveTag tag probe s).cond.counters = s.cond.counters := by
  unfold arriveTag
  (repeat' split) <;> simp

@[simp] theorem senseLow_cond (s : State) :
    (senseLow s).cond.inflight = s.cond.inflight ∧ (senseLow s).cond.counters = s.cond.counters := by
  simp [senseLow]

end Sys2Proof.Machine
end

