-- ==== Sys2Proof/Laws/CutMap.lean ====
section
/-! SUPPORT. The Cut Map as a memory (R136): every operation keeps its one canonical form, a cell reads as it was last
written, and a visit of every cell reads as the visit of what was there. -/

namespace Sys2Proof.Machine

open Sys2Proof

/-- The cells stand by rising number. -/
abbrev RisingCells (l : List (Nat × Cell)) : Prop := l.Pairwise fun a b => a.1 < b.1

theorem mem_putCell {l : List (Nat × Cell)} {k : Nat} {c : Cell} {p : Nat × Cell} (h : p ∈ putCell l k c) :
    p ∈ l ∨ (p = (k, c) ∧ c ≠ Cell.blank) := by
  induction l with
  | nil =>
    unfold putCell at h
    split at h
    · cases h
    · exact .inr ⟨List.mem_singleton.1 h, ‹_›⟩
  | cons q rest ih =>
    obtain ⟨j, d⟩ := q
    unfold putCell at h
    split at h
    · split at h <;> simp only [List.mem_cons] at * <;> tauto
    · split at h
      · split at h <;> simp only [List.mem_cons] at * <;> tauto
      · simp only [List.mem_cons] at *
        tauto

theorem risingCells_putCell {l : List (Nat × Cell)} {k : Nat} {c : Cell} (h : RisingCells l) :
    RisingCells (putCell l k c) := by
  induction l with
  | nil =>
    unfold putCell
    split
    · exact .nil
    · exact List.pairwise_singleton _ _
  | cons q rest ih =>
    obtain ⟨j, d⟩ := q
    have hr : RisingCells rest := h.of_cons
    have hj : ∀ p ∈ rest, j < p.1 := (List.pairwise_cons.1 h).1
    unfold putCell
    split
    · split
      · exact h
      · refine List.pairwise_cons.2 ⟨?_, h⟩
        intro p hp
        obtain rfl | hp := List.mem_cons.1 hp
        · assumption
        · exact Nat.lt_trans ‹_› (hj p hp)
    · split
      · subst k
        split
        · exact hr
        · exact List.pairwise_cons.2 ⟨hj, hr⟩
      · refine List.pairwise_cons.2 ⟨?_, ih hr⟩
        intro p hp
        obtain hp | ⟨rfl, -⟩ := mem_putCell hp
        · exact hj p hp
        · show j < k
          omega

theorem mem_mapCells {f : Nat → Cell → Cell} {l : List (Nat × Cell)} {p : Nat × Cell} (h : p ∈ mapCells f l) :
    p.2 ≠ Cell.blank ∧ ∃ c, (p.1, c) ∈ l := by
  induction l with
  | nil => cases h
  | cons q rest ih =>
    obtain ⟨j, d⟩ := q
    unfold mapCells at h
    split at h
    · exact ⟨(ih h).1, (ih h).2.imp fun c hc => List.mem_cons_of_mem _ hc⟩
    · obtain rfl | h := List.mem_cons.1 h
      · exact ⟨‹_›, d, List.mem_cons_self⟩
      · exact ⟨(ih h).1, (ih h).2.imp fun c hc => List.mem_cons_of_mem _ hc⟩

theorem risingCells_mapCells {f : Nat → Cell → Cell} {l : List (Nat × Cell)} (h : RisingCells l) :
    RisingCells (mapCells f l) := by
  induction l with
  | nil => exact .nil
  | cons q rest ih =>
    obtain ⟨j, d⟩ := q
    unfold mapCells
    split
    · exact ih h.of_cons
    · refine List.pairwise_cons.2 ⟨fun p hp => ?_, ih h.of_cons⟩
      obtain ⟨c, hc⟩ := (mem_mapCells hp).2
      exact (List.pairwise_cons.1 h).1 (p.1, c) hc

/-! ## Every operation keeps the canonical form -/

theorem wf_afterReset : CutMap.afterReset.wf := ⟨.nil, fun _ h => by cases h⟩

theorem wf_of_cells {m m' : CutMap} (h : m.wf) (hc : m'.cells = m.cells) : m'.wf := by
  unfold CutMap.wf
  rw [hc]
  exact h

theorem CutMap.wf_write {m : CutMap} (h : m.wf) (k : Nat) (c : Cell) : (m.write k c).wf :=
  ⟨risingCells_putCell h.1, fun p hp => by
    obtain hp | ⟨rfl, hc⟩ := mem_putCell hp
    · exact h.2 p hp
    · exact hc⟩

theorem CutMap.wf_mapCells {m m' : CutMap} (h : m.wf) {f : Nat → Cell → Cell} (hc : m'.cells = mapCells f m.cells) :
    m'.wf := by
  unfold CutMap.wf
  rw [hc]
  exact ⟨risingCells_mapCells h.1, fun p hp => (mem_mapCells hp).1⟩

theorem CutMap.wf_arrive {m : CutMap} (h : m.wf) (sp : Setpoint) : (m.arrive sp).wf := by
  unfold CutMap.arrive
  split
  · split
    · exact CutMap.wf_write h _ _
    · exact h
  · exact h

theorem CutMap.wf_gapMark {m : CutMap} (h : m.wf) (cell : Option Nat) : (m.gapMark cell).wf := by
  unfold CutMap.gapMark
  split
  · exact CutMap.wf_write h _ _
  · exact h

theorem CutMap.wf_startSweep {m : CutMap} (h : m.wf) : m.startSweep.wf := wf_of_cells h rfl

theorem CutMap.wf_reach {m : CutMap} (h : m.wf) (n : Nat) : (m.reach n).wf := by
  unfold CutMap.reach
  split
  · exact wf_of_cells h rfl
  · exact h

/-- The pace of a sweep (R146): 1,000 cells for each whole tick it has run, and fewer than 1,000 more in the present one. -/
theorem CutMap.pace_bounds (m : CutMap) (n : Nat) :
    min 32768 (1000 * m.sweptTicks) ≤ m.pace n ∧ m.pace n ≤ min 32768 (1000 * m.sweptTicks + 999) := by
  have := Nat.mod_lt (Config.sweepInTick n) (show 0 < 1000 by omega)
  unfold CutMap.pace
  omega

/-- What a look at a sweep does (R146): its progress goes on to the pace, and nothing else of the map changes. -/
theorem CutMap.reach_cases (m : CutMap) (n : Nat) :
    (m.sweeping = true ∧ m.reach n = { m with progress := max m.progress (m.pace n) }) ∨
      (m.sweeping = false ∧ m.reach n = m) := by
  unfold CutMap.reach
  cases m.sweeping <;> simp

theorem CutMap.wf_endSweep {m : CutMap} (h : m.wf) : m.endSweep.wf := CutMap.wf_mapCells h rfl

theorem CutMap.wf_abandonSweep {m : CutMap} (h : m.wf) : m.abandonSweep.wf := by
  unfold CutMap.abandonSweep
  split
  · exact CutMap.wf_mapCells h rfl
  · exact h

/-! ## What a cell reads as -/

theorem lookCell_of_below {l : List (Nat × Cell)} {k : Nat} (h : ∀ p ∈ l, k < p.1) : lookCell l k = Cell.blank := by
  induction l with
  | nil => rfl
  | cons q rest ih =>
    obtain ⟨j, d⟩ := q
    have hk : k < j := h (j, d) List.mem_cons_self
    unfold lookCell
    rw [if_neg (by omega)]
    exact ih fun p hp => h p (List.mem_cons_of_mem _ hp)

theorem lookCell_putCell_self {l : List (Nat × Cell)} (h : RisingCells l) (k : Nat) (c : Cell) :
    lookCell (putCell l k c) k = c := by
  induction l with
  | nil =>
    unfold putCell
    split
    · exact (‹c = Cell.blank›).symm
    · simp [lookCell]
  | cons q rest ih =>
    obtain ⟨j, d⟩ := q
    have hj : ∀ p ∈ rest, j < p.1 := (List.pairwise_cons.1 h).1
    unfold putCell
    split
    · split
      · rw [lookCell_of_below]
        · exact (‹c = Cell.blank›).symm
        · intro p hp
          obtain rfl | hp := List.mem_cons.1 hp
          · assumption
          · exact Nat.lt_trans ‹_› (hj p hp)
      · simp [lookCell]
    · split
      · subst k
        split
        · rw [lookCell_of_below hj]
          exact (‹c = Cell.blank›).symm
        · simp [lookCell]
      · unfold lookCell
        rw [if_neg (by omega)]
        exact ih h.of_cons

theorem lookCell_putCell_ne {l : List (Nat × Cell)} {k n : Nat} (hn : n ≠ k) (c : Cell) :
    lookCell (putCell l k c) n = lookCell l n := by
  induction l with
  | nil =>
    unfold putCell
    split
    · rfl
    · simp [lookCell, hn.symm]
  | cons q rest ih =>
    obtain ⟨j, d⟩ := q
    unfold putCell
    split
    · split
      · rfl
      · simp [lookCell, hn.symm]
    · split
      · subst k
        split <;> simp [lookCell, hn.symm]
      · simp [lookCell, ih]

theorem lookCell_mapCells {f : Nat → Cell → Cell} (hf : ∀ k, f k Cell.blank = Cell.blank) {l : List (Nat × Cell)}
    (h : RisingCells l) (n : Nat) : lookCell (mapCells f l) n = f n (lookCell l n) := by
  induction l with
  | nil => exact (hf n).symm
  | cons q rest ih =>
    obtain ⟨j, d⟩ := q
    have hj : ∀ p ∈ rest, j < p.1 := (List.pairwise_cons.1 h).1
    unfold mapCells
    by_cases hn : j = n
    · subst n
      split
      · rw [ih h.of_cons, lookCell_of_below hj]
        simp [lookCell, *]
      · simp [lookCell]
    · split
      · simp [lookCell, hn, ih h.of_cons]
      · simp [lookCell, hn, ih h.of_cons]

/-- A cell reads as it was written. -/
theorem CutMap.read_write_self {m : CutMap} (h : m.wf) (k : Nat) (c : Cell) : (m.write k c).read k = c :=
  lookCell_putCell_self h.1 k c

/-- A write leaves every other cell as it was. -/
theorem CutMap.read_write_ne {m : CutMap} {k n : Nat} (hn : n ≠ k) (c : Cell) : (m.write k c).read n = m.read n :=
  lookCell_putCell_ne hn c

theorem Cell.sweep_blank : Cell.blank.sweep = Cell.blank := rfl

/-- The end of a sweep has visited every cell (R145). -/
theorem CutMap.read_endSweep {m : CutMap} (h : m.wf) (n : Nat) : m.endSweep.read n = (m.read n).sweep :=
  lookCell_mapCells (f := fun _ c => c.sweep) (fun _ => rfl) h.1 n

/-- An abandoned sweep has visited the cells it reached (R147). -/
theorem CutMap.read_abandonSweep {m : CutMap} (h : m.wf) (hs : m.sweeping = true) (n : Nat) :
    m.abandonSweep.read n = if visited m.progress n then (m.read n).sweep else m.read n := by
  unfold CutMap.abandonSweep
  rw [if_pos hs]
  exact lookCell_mapCells (f := fun k c => if visited m.progress k then c.sweep else c)
    (fun k => by simp [Cell.sweep_blank]) h.1 n

/-- A sweep never makes a cell shallower (R145). -/
theorem Cell.cleared_le_sweep (c : Cell) : c.cleared ≤ c.sweep.cleared := by
  unfold Cell.sweep
  split
  · split
    · simp only
      omega
    · exact Nat.le_refl _
  · exact Nat.le_refl _

end Sys2Proof.Machine
end

