-- ==== Sys2Proof/Laws/GuardFields.lean ====
section
/-! SUPPORT. Frame lemmas inside the Neighbour Guard: the fields of it that an operation leaves as they are. -/

namespace Sys2Proof.Machine

open Sys2Proof

@[simp] theorem Guard.setView_fields (g : Guard) (side : Side) (v : View) :
    (g.setView side v).claim = g.claim ∧ (g.setView side v).announce = g.announce ∧
    (g.setView side v).announceSent = g.announceSent ∧ (g.setView side v).phase = g.phase ∧
    (g.setView side v).side = g.side ∧ (g.setView side v).atCheck = g.atCheck ∧
    (g.setView side v).passed = g.passed ∧ (g.setView side v).settleTimer = g.settleTimer ∧
    (g.setView side v).heard = g.heard ∧ (g.setView side v).reply = g.reply ∧
    (g.setView side v).waitTimer = g.waitTimer ∧ (g.setView side v).waitExpired = g.waitExpired ∧
    (g.setView side v).reachTimer = g.reachTimer ∧ (g.setView side v).reports = g.reports ∧
    (g.setView side v).leftArmed = g.leftArmed ∧ (g.setView side v).rightArmed = g.rightArmed := by
  unfold Guard.setView
  (repeat' split) <;> simp

@[simp] theorem Guard.setArmed_fields (g : Guard) (side : Side) (b : Bool) :
    (g.setArmed side b).claim = g.claim ∧ (g.setArmed side b).announce = g.announce ∧
    (g.setArmed side b).announceSent = g.announceSent ∧ (g.setArmed side b).phase = g.phase ∧
    (g.setArmed side b).side = g.side ∧ (g.setArmed side b).atCheck = g.atCheck ∧
    (g.setArmed side b).passed = g.passed ∧ (g.setArmed side b).settleTimer = g.settleTimer ∧
    (g.setArmed side b).heard = g.heard ∧ (g.setArmed side b).reply = g.reply ∧
    (g.setArmed side b).waitTimer = g.waitTimer ∧ (g.setArmed side b).waitExpired = g.waitExpired ∧
    (g.setArmed side b).reachTimer = g.reachTimer ∧ (g.setArmed side b).reports = g.reports ∧
    (g.setArmed side b).left = g.left ∧ (g.setArmed side b).right = g.right := by
  unfold Guard.setArmed
  (repeat' split) <;> simp

@[simp] theorem setClaim_guard (iv : Interval) (s : State) :
    (setClaim iv s).guard.announce = s.guard.announce ∧ (setClaim iv s).guard.announceSent = s.guard.announceSent ∧
    (setClaim iv s).guard.phase = s.guard.phase ∧ (setClaim iv s).guard.side = s.guard.side ∧
    (setClaim iv s).guard.atCheck = s.guard.atCheck ∧ (setClaim iv s).guard.passed = s.guard.passed ∧
    (setClaim iv s).guard.settleTimer = s.guard.settleTimer ∧ (setClaim iv s).guard.heard = s.guard.heard ∧
    (setClaim iv s).guard.reply = s.guard.reply ∧ (setClaim iv s).guard.waitTimer = s.guard.waitTimer ∧
    (setClaim iv s).guard.waitExpired = s.guard.waitExpired ∧ (setClaim iv s).guard.reachTimer = s.guard.reachTimer ∧
    (setClaim iv s).guard.reports = s.guard.reports ∧ (setClaim iv s).guard.left = s.guard.left ∧
    (setClaim iv s).guard.right = s.guard.right ∧ (setClaim iv s).guard.leftArmed = s.guard.leftArmed ∧
    (setClaim iv s).guard.rightArmed = s.guard.rightArmed := by
  unfold setClaim
  (repeat' split) <;> simp

@[simp] theorem setAnnounce_guard (a : Option Interval) (s : State) :
    (setAnnounce a s).guard.claim = s.guard.claim ∧ (setAnnounce a s).guard.phase = s.guard.phase ∧
    (setAnnounce a s).guard.side = s.guard.side ∧ (setAnnounce a s).guard.atCheck = s.guard.atCheck ∧
    (setAnnounce a s).guard.passed = s.guard.passed ∧ (setAnnounce a s).guard.settleTimer = s.guard.settleTimer ∧
    (setAnnounce a s).guard.heard = s.guard.heard ∧ (setAnnounce a s).guard.reply = s.guard.reply ∧
    (setAnnounce a s).guard.waitTimer = s.guard.waitTimer ∧
    (setAnnounce a s).guard.waitExpired = s.guard.waitExpired ∧
    (setAnnounce a s).guard.reachTimer = s.guard.reachTimer ∧ (setAnnounce a s).guard.reports = s.guard.reports ∧
    (setAnnounce a s).guard.left = s.guard.left ∧ (setAnnounce a s).guard.right = s.guard.right ∧
    (setAnnounce a s).guard.leftArmed = s.guard.leftArmed ∧ (setAnnounce a s).guard.rightArmed = s.guard.rightArmed := by
  unfold setAnnounce
  (repeat' split) <;> simp

@[simp] theorem recomputeClaim_guard (s : State) :
    (recomputeClaim s).guard.announce = s.guard.announce ∧
    (recomputeClaim s).guard.announceSent = s.guard.announceSent ∧ (recomputeClaim s).guard.phase = s.guard.phase ∧
    (recomputeClaim s).guard.side = s.guard.side ∧ (recomputeClaim s).guard.atCheck = s.guard.atCheck ∧
    (recomputeClaim s).guard.passed = s.guard.passed ∧ (recomputeClaim s).guard.settleTimer = s.guard.settleTimer ∧
    (recomputeClaim s).guard.heard = s.guard.heard ∧ (recomputeClaim s).guard.reply = s.guard.reply ∧
    (recomputeClaim s).guard.waitTimer = s.guard.waitTimer ∧
    (recomputeClaim s).guard.waitExpired = s.guard.waitExpired ∧
    (recomputeClaim s).guard.reachTimer = s.guard.reachTimer ∧ (recomputeClaim s).guard.reports = s.guard.reports ∧
    (recomputeClaim s).guard.left = s.guard.left ∧ (recomputeClaim s).guard.right = s.guard.right ∧
    (recomputeClaim s).guard.leftArmed = s.guard.leftArmed ∧ (recomputeClaim s).guard.rightArmed = s.guard.rightArmed := by
  unfold recomputeClaim
  (repeat' split) <;> simp

@[simp] theorem followClaim_guard (s : State) :
    (followClaim s).guard.announce = s.guard.announce ∧ (followClaim s).guard.announceSent = s.guard.announceSent ∧
    (followClaim s).guard.phase = s.guard.phase ∧ (followClaim s).guard.side = s.guard.side ∧
    (followClaim s).guard.atCheck = s.guard.atCheck ∧ (followClaim s).guard.passed = s.guard.passed ∧
    (followClaim s).guard.settleTimer = s.guard.settleTimer ∧ (followClaim s).guard.heard = s.guard.heard ∧
    (followClaim s).guard.reply = s.guard.reply ∧ (followClaim s).guard.waitTimer = s.guard.waitTimer ∧
    (followClaim s).guard.waitExpired = s.guard.waitExpired ∧ (followClaim s).guard.reachTimer = s.guard.reachTimer ∧
    (followClaim s).guard.reports = s.guard.reports ∧ (followClaim s).guard.left = s.guard.left ∧
    (followClaim s).guard.right = s.guard.right ∧ (followClaim s).guard.leftArmed = s.guard.leftArmed ∧
    (followClaim s).guard.rightArmed = s.guard.rightArmed := by
  unfold followClaim
  (repeat' split) <;> simp

@[simp] theorem passCheck_guard (s : State) :
    (passCheck s).guard.claim = s.guard.claim ∧ (passCheck s).guard.announce = s.guard.announce ∧
    (passCheck s).guard.announceSent = s.guard.announceSent ∧ (passCheck s).guard.side = s.guard.side ∧
    (passCheck s).guard.heard = s.guard.heard ∧ (passCheck s).guard.reply = s.guard.reply ∧
    (passCheck s).guard.reachTimer = s.guard.reachTimer ∧ (passCheck s).guard.reports = s.guard.reports ∧
    (passCheck s).guard.left = s.guard.left ∧ (passCheck s).guard.right = s.guard.right ∧
    (passCheck s).guard.leftArmed = s.guard.leftArmed ∧ (passCheck s).guard.rightArmed = s.guard.rightArmed := by
  simp [passCheck]

@[simp] theorem enterWait_guard (side : Side) (s : State) :
    (enterWait side s).guard.claim = s.guard.claim ∧ (enterWait side s).guard.atCheck = s.guard.atCheck ∧
    (enterWait side s).guard.passed = s.guard.passed ∧ (enterWait side s).guard.heard = s.guard.heard ∧
    (enterWait side s).guard.reply = s.guard.reply ∧ (enterWait side s).guard.waitExpired = s.guard.waitExpired ∧
    (enterWait side s).guard.reachTimer = s.guard.reachTimer ∧ (enterWait side s).guard.reports = s.guard.reports ∧
    (enterWait side s).guard.left = s.guard.left ∧ (enterWait side s).guard.right = s.guard.right ∧
    (enterWait side s).guard.leftArmed = s.guard.leftArmed ∧ (enterWait side s).guard.rightArmed = s.guard.rightArmed := by
  simp [enterWait]

@[simp] theorem announceOn_guard (side : Side) (n : Interval) (s : State) :
    (announceOn side n s).guard.claim = s.guard.claim ∧ (announceOn side n s).guard.atCheck = s.guard.atCheck ∧
    (announceOn side n s).guard.passed = s.guard.passed ∧ (announceOn side n s).guard.waitTimer = s.guard.waitTimer ∧
    (announceOn side n s).guard.waitExpired = s.guard.waitExpired ∧
    (announceOn side n s).guard.reachTimer = s.guard.reachTimer ∧
    (announceOn side n s).guard.reports = s.guard.reports ∧ (announceOn side n s).guard.left = s.guard.left ∧
    (announceOn side n s).guard.right = s.guard.right ∧ (announceOn side n s).guard.leftArmed = s.guard.leftArmed ∧
    (announceOn side n s).guard.rightArmed = s.guard.rightArmed := by
  simp [announceOn]

@[simp] theorem checkBeyond_guard (side : Side) (n : Interval) (s : State) :
    (checkBeyond side n s).guard.reachTimer = s.guard.reachTimer ∧
    (checkBeyond side n s).guard.reports = s.guard.reports ∧ (checkBeyond side n s).guard.left = s.guard.left ∧
    (checkBeyond side n s).guard.right = s.guard.right ∧ (checkBeyond side n s).guard.leftArmed = s.guard.leftArmed ∧
    (checkBeyond side n s).guard.rightArmed = s.guard.rightArmed := by
  unfold checkBeyond
  (repeat' split) <;> simp

@[simp] theorem runCheck_guard (s : State) :
    (runCheck s).guard.reachTimer = s.guard.reachTimer ∧ (runCheck s).guard.reports = s.guard.reports ∧
    (runCheck s).guard.left = s.guard.left ∧ (runCheck s).guard.right = s.guard.right ∧
    (runCheck s).guard.leftArmed = s.guard.leftArmed ∧ (runCheck s).guard.rightArmed = s.guard.rightArmed := by
  unfold runCheck
  dsimp only
  (repeat' split) <;> simp

@[simp] theorem beginCheck_guard (sp : Setpoint) (s : State) :
    (beginCheck sp s).guard.reachTimer = s.guard.reachTimer ∧ (beginCheck sp s).guard.reports = s.guard.reports ∧
    (beginCheck sp s).guard.left = s.guard.left ∧ (beginCheck sp s).guard.right = s.guard.right ∧
    (beginCheck sp s).guard.leftArmed = s.guard.leftArmed ∧ (beginCheck sp s).guard.rightArmed = s.guard.rightArmed := by
  simp [beginCheck]

@[simp] theorem recheck_guard (s : State) :
    (recheck s).guard.reachTimer = s.guard.reachTimer ∧ (recheck s).guard.reports = s.guard.reports ∧
    (recheck s).guard.left = s.guard.left ∧ (recheck s).guard.right = s.guard.right ∧
    (recheck s).guard.leftArmed = s.guard.leftArmed ∧ (recheck s).guard.rightArmed = s.guard.rightArmed := by
  unfold recheck
  (repeat' split) <;> simp

@[simp] theorem recheckIfMoved_guard (before : Interval) (s : State) :
    (recheckIfMoved before s).guard.reachTimer = s.guard.reachTimer ∧
    (recheckIfMoved before s).guard.reports = s.guard.reports ∧ (recheckIfMoved before s).guard.left = s.guard.left ∧
    (recheckIfMoved before s).guard.right = s.guard.right ∧
    (recheckIfMoved before s).guard.leftArmed = s.guard.leftArmed ∧
    (recheckIfMoved before s).guard.rightArmed = s.guard.rightArmed := by
  unfold recheckIfMoved
  (repeat' split) <;> simp

@[simp] theorem shrinkClaim_guard (s : State) :
    (shrinkClaim s).guard.reachTimer = s.guard.reachTimer ∧ (shrinkClaim s).guard.reports = s.guard.reports ∧
    (shrinkClaim s).guard.left = s.guard.left ∧ (shrinkClaim s).guard.right = s.guard.right ∧
    (shrinkClaim s).guard.leftArmed = s.guard.leftArmed ∧ (shrinkClaim s).guard.rightArmed = s.guard.rightArmed := by
  simp [shrinkClaim]

@[simp] theorem takeOnClearReply_guard (s : State) :
    (takeOnClearReply s).guard.side = s.guard.side ∧ (takeOnClearReply s).guard.heard = s.guard.heard ∧
    (takeOnClearReply s).guard.reply = s.guard.reply ∧ (takeOnClearReply s).guard.reachTimer = s.guard.reachTimer ∧
    (takeOnClearReply s).guard.reports = s.guard.reports ∧ (takeOnClearReply s).guard.left = s.guard.left ∧
    (takeOnClearReply s).guard.right = s.guard.right ∧ (takeOnClearReply s).guard.leftArmed = s.guard.leftArmed ∧
    (takeOnClearReply s).guard.rightArmed = s.guard.rightArmed := by
  unfold takeOnClearReply
  (repeat' split) <;> simp

@[simp] theorem settleOnReach_guard (v : Seen) (s : State) :
    (settleOnReach v s).guard.heard = s.guard.heard ∧ (settleOnReach v s).guard.reachTimer = s.guard.reachTimer ∧
    (settleOnReach v s).guard.reports = s.guard.reports ∧ (settleOnReach v s).guard.left = s.guard.left ∧
    (settleOnReach v s).guard.right = s.guard.right ∧ (settleOnReach v s).guard.leftArmed = s.guard.leftArmed ∧
    (settleOnReach v s).guard.rightArmed = s.guard.rightArmed := by
  unfold settleOnReach
  dsimp only
  (repeat' split) <;> simp

@[simp] theorem abandonCheck_guard (s : State) :
    (abandonCheck s).guard.side = s.guard.side ∧ (abandonCheck s).guard.reachTimer = s.guard.reachTimer ∧
    (abandonCheck s).guard.reports = s.guard.reports ∧ (abandonCheck s).guard.left = s.guard.left ∧
    (abandonCheck s).guard.right = s.guard.right ∧ (abandonCheck s).guard.leftArmed = s.guard.leftArmed ∧
    (abandonCheck s).guard.rightArmed = s.guard.rightArmed := by
  unfold abandonCheck
  split <;> simp

@[simp] theorem testBreach_guard (side : Side) (s : State) :
    (testBreach side s).guard.claim = s.guard.claim ∧ (testBreach side s).guard.announce = s.guard.announce ∧
    (testBreach side s).guard.announceSent = s.guard.announceSent ∧ (testBreach side s).guard.phase = s.guard.phase ∧
    (testBreach side s).guard.side = s.guard.side ∧ (testBreach side s).guard.atCheck = s.guard.atCheck ∧
    (testBreach side s).guard.passed = s.guard.passed ∧ (testBreach side s).guard.settleTimer = s.guard.settleTimer ∧
    (testBreach side s).guard.heard = s.guard.heard ∧ (testBreach side s).guard.reply = s.guard.reply ∧
    (testBreach side s).guard.waitTimer = s.guard.waitTimer ∧
    (testBreach side s).guard.waitExpired = s.guard.waitExpired ∧
    (testBreach side s).guard.reachTimer = s.guard.reachTimer ∧ (testBreach side s).guard.reports = s.guard.reports ∧
    (testBreach side s).guard.left = s.guard.left ∧ (testBreach side s).guard.right = s.guard.right := by
  unfold testBreach
  (repeat' split) <;> simp

@[simp] theorem resetView_guard (side : Side) (station : Option Nat) (s : State) :
    (resetView side station s).guard.claim = s.guard.claim ∧
    (resetView side station s).guard.announce = s.guard.announce ∧
    (resetView side station s).guard.announceSent = s.guard.announceSent ∧
    (resetView side station s).guard.phase = s.guard.phase ∧ (resetView side station s).guard.side = s.guard.side ∧
    (resetView side station s).guard.atCheck = s.guard.atCheck ∧
    (resetView side station s).guard.passed = s.guard.passed ∧
    (resetView side station s).guard.settleTimer = s.guard.settleTimer ∧
    (resetView side station s).guard.heard = s.guard.heard ∧ (resetView side station s).guard.reply = s.guard.reply ∧
    (resetView side station s).guard.waitTimer = s.guard.waitTimer ∧
    (resetView side station s).guard.waitExpired = s.guard.waitExpired ∧
    (resetView side station s).guard.reachTimer = s.guard.reachTimer ∧
    (resetView side station s).guard.reports = s.guard.reports := by
  simp [resetView]

@[simp] theorem joinNoticeOn_guard (side : Side) (joined : Nat) (s : State) :
    (joinNoticeOn side joined s).guard.reachTimer = s.guard.reachTimer ∧
    (joinNoticeOn side joined s).guard.reports = s.guard.reports := by
  unfold joinNoticeOn
  dsimp only
  (repeat' split) <;> simp

@[simp] theorem joinNotice_guard (joined : Nat) (s : State) :
    (joinNotice joined s).guard.reachTimer = s.guard.reachTimer ∧
    (joinNotice joined s).guard.reports = s.guard.reports := by
  simp [joinNotice]

@[simp] theorem lookUpNeighbours_guard (s : State) :
    (lookUpNeighbours s).guard.claim = s.guard.claim ∧ (lookUpNeighbours s).guard.announce = s.guard.announce ∧
    (lookUpNeighbours s).guard.announceSent = s.guard.announceSent ∧
    (lookUpNeighbours s).guard.phase = s.guard.phase ∧ (lookUpNeighbours s).guard.side = s.guard.side ∧
    (lookUpNeighbours s).guard.atCheck = s.guard.atCheck ∧ (lookUpNeighbours s).guard.passed = s.guard.passed ∧
    (lookUpNeighbours s).guard.settleTimer = s.guard.settleTimer ∧ (lookUpNeighbours s).guard.heard = s.guard.heard ∧
    (lookUpNeighbours s).guard.reply = s.guard.reply ∧ (lookUpNeighbours s).guard.waitTimer = s.guard.waitTimer ∧
    (lookUpNeighbours s).guard.waitExpired = s.guard.waitExpired ∧
    (lookUpNeighbours s).guard.reachTimer = s.guard.reachTimer ∧ (lookUpNeighbours s).guard.reports = s.guard.reports := by
  simp [lookUpNeighbours]

@[simp] theorem issue_guard (sp : Setpoint) (s : State) :
    (issue sp s).guard.claim = s.guard.claim ∧ (issue sp s).guard.announce = s.guard.announce ∧
    (issue sp s).guard.announceSent = s.guard.announceSent ∧ (issue sp s).guard.phase = s.guard.phase ∧
    (issue sp s).guard.side = s.guard.side ∧ (issue sp s).guard.atCheck = s.guard.atCheck ∧
    (issue sp s).guard.settleTimer = s.guard.settleTimer ∧ (issue sp s).guard.heard = s.guard.heard ∧
    (issue sp s).guard.reply = s.guard.reply ∧ (issue sp s).guard.waitTimer = s.guard.waitTimer ∧
    (issue sp s).guard.waitExpired = s.guard.waitExpired ∧ (issue sp s).guard.reachTimer = s.guard.reachTimer ∧
    (issue sp s).guard.reports = s.guard.reports ∧ (issue sp s).guard.left = s.guard.left ∧
    (issue sp s).guard.right = s.guard.right ∧ (issue sp s).guard.leftArmed = s.guard.leftArmed ∧
    (issue sp s).guard.rightArmed = s.guard.rightArmed := by
  unfold issue
  (repeat' split) <;> simp

@[simp] theorem issuePassed_guard (s : State) :
    (issuePassed s).guard.claim = s.guard.claim ∧ (issuePassed s).guard.announce = s.guard.announce ∧
    (issuePassed s).guard.announceSent = s.guard.announceSent ∧ (issuePassed s).guard.phase = s.guard.phase ∧
    (issuePassed s).guard.side = s.guard.side ∧ (issuePassed s).guard.atCheck = s.guard.atCheck ∧
    (issuePassed s).guard.settleTimer = s.guard.settleTimer ∧ (issuePassed s).guard.heard = s.guard.heard ∧
    (issuePassed s).guard.reply = s.guard.reply ∧ (issuePassed s).guard.waitTimer = s.guard.waitTimer ∧
    (issuePassed s).guard.waitExpired = s.guard.waitExpired ∧ (issuePassed s).guard.reachTimer = s.guard.reachTimer ∧
    (issuePassed s).guard.reports = s.guard.reports ∧ (issuePassed s).guard.left = s.guard.left ∧
    (issuePassed s).guard.right = s.guard.right ∧ (issuePassed s).guard.leftArmed = s.guard.leftArmed ∧
    (issuePassed s).guard.rightArmed = s.guard.rightArmed := by
  unfold issuePassed
  (repeat' split) <;> simp

@[simp] theorem checkAndIssue_guard (sp : Setpoint) (s : State) :
    (checkAndIssue sp s).guard.reachTimer = s.guard.reachTimer ∧
    (checkAndIssue sp s).guard.reports = s.guard.reports ∧ (checkAndIssue sp s).guard.left = s.guard.left ∧
    (checkAndIssue sp s).guard.right = s.guard.right ∧ (checkAndIssue sp s).guard.leftArmed = s.guard.leftArmed ∧
    (checkAndIssue sp s).guard.rightArmed = s.guard.rightArmed := by
  simp [checkAndIssue]

@[simp] theorem pumpClosing_guard (s : State) :
    (pumpClosing s).guard.reachTimer = s.guard.reachTimer ∧ (pumpClosing s).guard.reports = s.guard.reports ∧
    (pumpClosing s).guard.left = s.guard.left ∧ (pumpClosing s).guard.right = s.guard.right ∧
    (pumpClosing s).guard.leftArmed = s.guard.leftArmed ∧ (pumpClosing s).guard.rightArmed = s.guard.rightArmed := by
  unfold pumpClosing
  (repeat' split) <;> simp

@[simp] theorem pumpPortLift_guard (s : State) :
    (pumpPortLift s).guard.reachTimer = s.guard.reachTimer ∧ (pumpPortLift s).guard.reports = s.guard.reports ∧
    (pumpPortLift s).guard.left = s.guard.left ∧ (pumpPortLift s).guard.right = s.guard.right ∧
    (pumpPortLift s).guard.leftArmed = s.guard.leftArmed ∧ (pumpPortLift s).guard.rightArmed = s.guard.rightArmed := by
  unfold pumpPortLift
  (repeat' split) <;> simp

@[simp] theorem pumpLifts_guard (s : State) :
    (pumpLifts s).guard.reachTimer = s.guard.reachTimer ∧ (pumpLifts s).guard.reports = s.guard.reports ∧
    (pumpLifts s).guard.left = s.guard.left ∧ (pumpLifts s).guard.right = s.guard.right ∧
    (pumpLifts s).guard.leftArmed = s.guard.leftArmed ∧ (pumpLifts s).guard.rightArmed = s.guard.rightArmed := by
  simp [pumpLifts]

@[simp] theorem pumpMoves_guard (s : State) :
    (pumpMoves s).guard.reachTimer = s.guard.reachTimer ∧ (pumpMoves s).guard.reports = s.guard.reports ∧
    (pumpMoves s).guard.left = s.guard.left ∧ (pumpMoves s).guard.right = s.guard.right ∧
    (pumpMoves s).guard.leftArmed = s.guard.leftArmed ∧ (pumpMoves s).guard.rightArmed = s.guard.rightArmed := by
  unfold pumpMoves
  (repeat' split) <;> simp

@[simp] theorem commandMove_guard (sp : Setpoint) (s : State) :
    (commandMove sp s).guard.reachTimer = s.guard.reachTimer ∧ (commandMove sp s).guard.reports = s.guard.reports ∧
    (commandMove sp s).guard.left = s.guard.left ∧ (commandMove sp s).guard.right = s.guard.right ∧
    (commandMove sp s).guard.leftArmed = s.guard.leftArmed ∧ (commandMove sp s).guard.rightArmed = s.guard.rightArmed := by
  simp [commandMove]

@[simp] theorem pumpPort_guard (s : State) :
    (pumpPort s).guard.reachTimer = s.guard.reachTimer ∧ (pumpPort s).guard.reports = s.guard.reports ∧
    (pumpPort s).guard.left = s.guard.left ∧ (pumpPort s).guard.right = s.guard.right ∧
    (pumpPort s).guard.leftArmed = s.guard.leftArmed ∧ (pumpPort s).guard.rightArmed = s.guard.rightArmed := by
  simp [pumpPort]

@[simp] theorem handSetpoint_guard (e : Entry) (s : State) :
    (handSetpoint e s).guard.reachTimer = s.guard.reachTimer ∧ (handSetpoint e s).guard.reports = s.guard.reports ∧
    (handSetpoint e s).guard.left = s.guard.left ∧ (handSetpoint e s).guard.right = s.guard.right ∧
    (handSetpoint e s).guard.leftArmed = s.guard.leftArmed ∧ (handSetpoint e s).guard.rightArmed = s.guard.rightArmed := by
  unfold handSetpoint
  (repeat' split) <;> simp

@[simp] theorem handHead_guard (e : Entry) (s : State) :
    (handHead e s).guard.reachTimer = s.guard.reachTimer ∧ (handHead e s).guard.reports = s.guard.reports ∧
    (handHead e s).guard.left = s.guard.left ∧ (handHead e s).guard.right = s.guard.right ∧
    (handHead e s).guard.leftArmed = s.guard.leftArmed ∧ (handHead e s).guard.rightArmed = s.guard.rightArmed := by
  unfold handHead
  (repeat' split) <;> simp

@[simp] theorem nextPoint_guard (r : JobRecord) (t : TracerJob) (s : State) :
    (nextPoint r t s).guard.reachTimer = s.guard.reachTimer ∧ (nextPoint r t s).guard.reports = s.guard.reports ∧
    (nextPoint r t s).guard.left = s.guard.left ∧ (nextPoint r t s).guard.right = s.guard.right ∧
    (nextPoint r t s).guard.leftArmed = s.guard.leftArmed ∧ (nextPoint r t s).guard.rightArmed = s.guard.rightArmed := by
  unfold nextPoint
  dsimp only
  (repeat' split) <;> simp

@[simp] theorem beginLive_guard (r : JobRecord) (t : TracerJob) (p c : Nat) (s : State) :
    (beginLive r t p c s).guard.reachTimer = s.guard.reachTimer ∧
    (beginLive r t p c s).guard.reports = s.guard.reports ∧ (beginLive r t p c s).guard.left = s.guard.left ∧
    (beginLive r t p c s).guard.right = s.guard.right ∧ (beginLive r t p c s).guard.leftArmed = s.guard.leftArmed ∧
    (beginLive r t p c s).guard.rightArmed = s.guard.rightArmed := by
  unfold beginLive
  (repeat' split) <;> simp

@[simp] theorem orderPass_guard (p c : Nat) (s : State) :
    (orderPass p c s).guard.reachTimer = s.guard.reachTimer ∧ (orderPass p c s).guard.reports = s.guard.reports ∧
    (orderPass p c s).guard.left = s.guard.left ∧ (orderPass p c s).guard.right = s.guard.right ∧
    (orderPass p c s).guard.leftArmed = s.guard.leftArmed ∧ (orderPass p c s).guard.rightArmed = s.guard.rightArmed := by
  unfold orderPass
  dsimp only
  (repeat' split) <;> simp

@[simp] theorem decidePass_guard (p : Nat) (s : State) :
    (decidePass p s).guard.reachTimer = s.guard.reachTimer ∧ (decidePass p s).guard.reports = s.guard.reports ∧
    (decidePass p s).guard.left = s.guard.left ∧ (decidePass p s).guard.right = s.guard.right ∧
    (decidePass p s).guard.leftArmed = s.guard.leftArmed ∧ (decidePass p s).guard.rightArmed = s.guard.rightArmed := by
  unfold decidePass
  (repeat' split) <;> simp

@[simp] theorem testCollection_guard (s : State) :
    (testCollection s).guard.reachTimer = s.guard.reachTimer ∧ (testCollection s).guard.reports = s.guard.reports ∧
    (testCollection s).guard.left = s.guard.left ∧ (testCollection s).guard.right = s.guard.right ∧
    (testCollection s).guard.leftArmed = s.guard.leftArmed ∧ (testCollection s).guard.rightArmed = s.guard.rightArmed := by
  unfold testCollection
  (repeat' split) <;> simp

@[simp] theorem enterCollecting_guard (r : JobRecord) (t : TracerJob) (s : State) :
    (enterCollecting r t s).guard.reachTimer = s.guard.reachTimer ∧
    (enterCollecting r t s).guard.reports = s.guard.reports ∧ (enterCollecting r t s).guard.left = s.guard.left ∧
    (enterCollecting r t s).guard.right = s.guard.right ∧
    (enterCollecting r t s).guard.leftArmed = s.guard.leftArmed ∧
    (enterCollecting r t s).guard.rightArmed = s.guard.rightArmed := by
  unfold enterCollecting
  (repeat' split) <;> simp

@[simp] theorem enrolmentResult_guard (s : State) :
    (enrolmentResult s).guard.reachTimer = s.guard.reachTimer ∧ (enrolmentResult s).guard.reports = s.guard.reports ∧
    (enrolmentResult s).guard.left = s.guard.left ∧ (enrolmentResult s).guard.right = s.guard.right ∧
    (enrolmentResult s).guard.leftArmed = s.guard.leftArmed ∧
    (enrolmentResult s).guard.rightArmed = s.guard.rightArmed := by
  unfold enrolmentResult
  dsimp only
  (repeat' split) <;> simp

@[simp] theorem endEnrolment_guard (s : State) :
    (endEnrolment s).guard.reachTimer = s.guard.reachTimer ∧ (endEnrolment s).guard.reports = s.guard.reports ∧
    (endEnrolment s).guard.left = s.guard.left ∧ (endEnrolment s).guard.right = s.guard.right ∧
    (endEnrolment s).guard.leftArmed = s.guard.leftArmed ∧ (endEnrolment s).guard.rightArmed = s.guard.rightArmed := by
  unfold endEnrolment
  (repeat' split) <;> simp

@[simp] theorem testEnrolment_guard (s : State) :
    (testEnrolment s).guard.reachTimer = s.guard.reachTimer ∧ (testEnrolment s).guard.reports = s.guard.reports ∧
    (testEnrolment s).guard.left = s.guard.left ∧ (testEnrolment s).guard.right = s.guard.right ∧
    (testEnrolment s).guard.leftArmed = s.guard.leftArmed ∧ (testEnrolment s).guard.rightArmed = s.guard.rightArmed := by
  unfold testEnrolment
  (repeat' split) <;> simp

@[simp] theorem afterLive_guard (j : JobRecord) (t : TracerJob) (r : TraceRecord) (s : State) :
    (afterLive j t r s).guard.reachTimer = s.guard.reachTimer ∧ (afterLive j t r s).guard.reports = s.guard.reports ∧
    (afterLive j t r s).guard.left = s.guard.left ∧ (afterLive j t r s).guard.right = s.guard.right ∧
    (afterLive j t r s).guard.leftArmed = s.guard.leftArmed ∧
    (afterLive j t r s).guard.rightArmed = s.guard.rightArmed := by
  unfold afterLive
  (repeat' split) <;> simp

@[simp] theorem afterReplay_guard (j : JobRecord) (t : TracerJob) (c : Cursor) (s : State) :
    (afterReplay j t c s).guard.reachTimer = s.guard.reachTimer ∧
    (afterReplay j t c s).guard.reports = s.guard.reports ∧ (afterReplay j t c s).guard.left = s.guard.left ∧
    (afterReplay j t c s).guard.right = s.guard.right ∧ (afterReplay j t c s).guard.leftArmed = s.guard.leftArmed ∧
    (afterReplay j t c s).guard.rightArmed = s.guard.rightArmed := by
  unfold afterReplay
  (repeat' split) <;> simp

@[simp] theorem emitHead_guard (s : State) :
    (emitHead s).guard.reachTimer = s.guard.reachTimer ∧ (emitHead s).guard.reports = s.guard.reports ∧
    (emitHead s).guard.left = s.guard.left ∧ (emitHead s).guard.right = s.guard.right ∧
    (emitHead s).guard.leftArmed = s.guard.leftArmed ∧ (emitHead s).guard.rightArmed = s.guard.rightArmed := by
  unfold emitHead
  dsimp only
  (repeat' split) <;> simp

@[simp] theorem creditUpdate_guard (e : LagEntry) (c : CreditReport) (s : State) :
    (creditUpdate e c s).guard.reachTimer = s.guard.reachTimer ∧
    (creditUpdate e c s).guard.reports = s.guard.reports ∧ (creditUpdate e c s).guard.left = s.guard.left ∧
    (creditUpdate e c s).guard.right = s.guard.right ∧ (creditUpdate e c s).guard.leftArmed = s.guard.leftArmed ∧
    (creditUpdate e c s).guard.rightArmed = s.guard.rightArmed := by
  simp [creditUpdate]

@[simp] theorem creditFromEntry_guard (e : LagEntry) (c : CreditReport) (s : State) :
    (creditFromEntry e c s).guard.reachTimer = s.guard.reachTimer ∧
    (creditFromEntry e c s).guard.reports = s.guard.reports ∧ (creditFromEntry e c s).guard.left = s.guard.left ∧
    (creditFromEntry e c s).guard.right = s.guard.right ∧
    (creditFromEntry e c s).guard.leftArmed = s.guard.leftArmed ∧
    (creditFromEntry e c s).guard.rightArmed = s.guard.rightArmed := by
  unfold creditFromEntry
  (repeat' split) <;> simp

@[simp] theorem admitCarver_guard (c : CreditReport) (s : State) :
    (admitCarver c s).guard.reachTimer = s.guard.reachTimer ∧ (admitCarver c s).guard.reports = s.guard.reports ∧
    (admitCarver c s).guard.left = s.guard.left ∧ (admitCarver c s).guard.right = s.guard.right ∧
    (admitCarver c s).guard.leftArmed = s.guard.leftArmed ∧ (admitCarver c s).guard.rightArmed = s.guard.rightArmed := by
  simp [admitCarver]

@[simp] theorem takeCredit_guard (c : CreditReport) (s : State) :
    (takeCredit c s).guard.reachTimer = s.guard.reachTimer ∧ (takeCredit c s).guard.reports = s.guard.reports ∧
    (takeCredit c s).guard.left = s.guard.left ∧ (takeCredit c s).guard.right = s.guard.right ∧
    (takeCredit c s).guard.leftArmed = s.guard.leftArmed ∧ (takeCredit c s).guard.rightArmed = s.guard.rightArmed := by
  unfold takeCredit
  (repeat' split) <;> simp

@[simp] theorem removeCarver_guard (k : Nat) (s : State) :
    (removeCarver k s).guard.reachTimer = s.guard.reachTimer ∧ (removeCarver k s).guard.reports = s.guard.reports ∧
    (removeCarver k s).guard.left = s.guard.left ∧ (removeCarver k s).guard.right = s.guard.right ∧
    (removeCarver k s).guard.leftArmed = s.guard.leftArmed ∧ (removeCarver k s).guard.rightArmed = s.guard.rightArmed := by
  simp [removeCarver]

@[simp] theorem rejoinNotice_guard (k : Nat) (s : State) :
    (rejoinNotice k s).guard.reachTimer = s.guard.reachTimer ∧ (rejoinNotice k s).guard.reports = s.guard.reports ∧
    (rejoinNotice k s).guard.left = s.guard.left ∧ (rejoinNotice k s).guard.right = s.guard.right ∧
    (rejoinNotice k s).guard.leftArmed = s.guard.leftArmed ∧ (rejoinNotice k s).guard.rightArmed = s.guard.rightArmed := by
  unfold rejoinNotice
  (repeat' split) <;> simp

@[simp] theorem placeFreed_guard (s : State) :
    (placeFreed s).guard.reachTimer = s.guard.reachTimer ∧ (placeFreed s).guard.reports = s.guard.reports ∧
    (placeFreed s).guard.left = s.guard.left ∧ (placeFreed s).guard.right = s.guard.right ∧
    (placeFreed s).guard.leftArmed = s.guard.leftArmed ∧ (placeFreed s).guard.rightArmed = s.guard.rightArmed := by
  unfold placeFreed
  (repeat' split) <;> simp

@[simp] theorem noteAttempt_guard (k : Kind) (s : State) :
    (noteAttempt k s).guard.claim = s.guard.claim ∧ (noteAttempt k s).guard.announce = s.guard.announce ∧
    (noteAttempt k s).guard.phase = s.guard.phase ∧ (noteAttempt k s).guard.side = s.guard.side ∧
    (noteAttempt k s).guard.atCheck = s.guard.atCheck ∧ (noteAttempt k s).guard.passed = s.guard.passed ∧
    (noteAttempt k s).guard.settleTimer = s.guard.settleTimer ∧ (noteAttempt k s).guard.heard = s.guard.heard ∧
    (noteAttempt k s).guard.reply = s.guard.reply ∧ (noteAttempt k s).guard.waitTimer = s.guard.waitTimer ∧
    (noteAttempt k s).guard.waitExpired = s.guard.waitExpired ∧
    (noteAttempt k s).guard.reachTimer = s.guard.reachTimer ∧ (noteAttempt k s).guard.reports = s.guard.reports ∧
    (noteAttempt k s).guard.left = s.guard.left ∧ (noteAttempt k s).guard.right = s.guard.right ∧
    (noteAttempt k s).guard.leftArmed = s.guard.leftArmed ∧ (noteAttempt k s).guard.rightArmed = s.guard.rightArmed := by
  unfold noteAttempt
  (repeat' split) <;> simp

@[simp] theorem startAttempt_guard (f : TxFrame) (rest : List TxFrame) (s : State) :
    (startAttempt f rest s).guard.claim = s.guard.claim ∧ (startAttempt f rest s).guard.announce = s.guard.announce ∧
    (startAttempt f rest s).guard.phase = s.guard.phase ∧ (startAttempt f rest s).guard.side = s.guard.side ∧
    (startAttempt f rest s).guard.atCheck = s.guard.atCheck ∧ (startAttempt f rest s).guard.passed = s.guard.passed ∧
    (startAttempt f rest s).guard.settleTimer = s.guard.settleTimer ∧
    (startAttempt f rest s).guard.heard = s.guard.heard ∧ (startAttempt f rest s).guard.reply = s.guard.reply ∧
    (startAttempt f rest s).guard.waitTimer = s.guard.waitTimer ∧
    (startAttempt f rest s).guard.waitExpired = s.guard.waitExpired ∧
    (startAttempt f rest s).guard.reachTimer = s.guard.reachTimer ∧
    (startAttempt f rest s).guard.reports = s.guard.reports ∧ (startAttempt f rest s).guard.left = s.guard.left ∧
    (startAttempt f rest s).guard.right = s.guard.right ∧
    (startAttempt f rest s).guard.leftArmed = s.guard.leftArmed ∧
    (startAttempt f rest s).guard.rightArmed = s.guard.rightArmed := by
  simp [startAttempt]

@[simp] theorem contend_guard (s : State) :
    (contend s).guard.claim = s.guard.claim ∧ (contend s).guard.announce = s.guard.announce ∧
    (contend s).guard.phase = s.guard.phase ∧ (contend s).guard.side = s.guard.side ∧
    (contend s).guard.atCheck = s.guard.atCheck ∧ (contend s).guard.passed = s.guard.passed ∧
    (contend s).guard.settleTimer = s.guard.settleTimer ∧ (contend s).guard.heard = s.guard.heard ∧
    (contend s).guard.reply = s.guard.reply ∧ (contend s).guard.waitTimer = s.guard.waitTimer ∧
    (contend s).guard.waitExpired = s.guard.waitExpired ∧ (contend s).guard.reachTimer = s.guard.reachTimer ∧
    (contend s).guard.reports = s.guard.reports ∧ (contend s).guard.left = s.guard.left ∧
    (contend s).guard.right = s.guard.right ∧ (contend s).guard.leftArmed = s.guard.leftArmed ∧
    (contend s).guard.rightArmed = s.guard.rightArmed := by
  unfold contend
  (repeat' split) <;> simp

@[simp] theorem endStarting_guard (result : Nat) (s : State) :
    (endStarting result s).guard.claim = s.guard.claim ∧ (endStarting result s).guard.announce = s.guard.announce ∧
    (endStarting result s).guard.announceSent = s.guard.announceSent ∧
    (endStarting result s).guard.phase = s.guard.phase ∧ (endStarting result s).guard.side = s.guard.side ∧
    (endStarting result s).guard.atCheck = s.guard.atCheck ∧ (endStarting result s).guard.passed = s.guard.passed ∧
    (endStarting result s).guard.settleTimer = s.guard.settleTimer ∧
    (endStarting result s).guard.heard = s.guard.heard ∧ (endStarting result s).guard.reply = s.guard.reply ∧
    (endStarting result s).guard.waitTimer = s.guard.waitTimer ∧
    (endStarting result s).guard.waitExpired = s.guard.waitExpired ∧
    (endStarting result s).guard.reports = s.guard.reports := by
  simp [endStarting]

@[simp] theorem leaveReset_guard (straps : Straps) (s : State) :
    (leaveReset straps s).guard.claim = s.guard.claim ∧ (leaveReset straps s).guard.announce = s.guard.announce ∧
    (leaveReset straps s).guard.announceSent = s.guard.announceSent ∧
    (leaveReset straps s).guard.phase = s.guard.phase ∧ (leaveReset straps s).guard.side = s.guard.side ∧
    (leaveReset straps s).guard.atCheck = s.guard.atCheck ∧ (leaveReset straps s).guard.passed = s.guard.passed ∧
    (leaveReset straps s).guard.settleTimer = s.guard.settleTimer ∧
    (leaveReset straps s).guard.heard = s.guard.heard ∧ (leaveReset straps s).guard.reply = s.guard.reply ∧
    (leaveReset straps s).guard.waitTimer = s.guard.waitTimer ∧
    (leaveReset straps s).guard.waitExpired = s.guard.waitExpired ∧
    (leaveReset straps s).guard.reports = s.guard.reports := by
  unfold leaveReset
  (repeat' split) <;> simp

@[simp] theorem memoryTested_guard (code : Nat) (passed : Bool) (s : State) :
    (memoryTested code passed s).guard.claim = s.guard.claim ∧
    (memoryTested code passed s).guard.announce = s.guard.announce ∧
    (memoryTested code passed s).guard.announceSent = s.guard.announceSent ∧
    (memoryTested code passed s).guard.phase = s.guard.phase ∧
    (memoryTested code passed s).guard.side = s.guard.side ∧
    (memoryTested code passed s).guard.atCheck = s.guard.atCheck ∧
    (memoryTested code passed s).guard.passed = s.guard.passed ∧
    (memoryTested code passed s).guard.settleTimer = s.guard.settleTimer ∧
    (memoryTested code passed s).guard.heard = s.guard.heard ∧
    (memoryTested code passed s).guard.reply = s.guard.reply ∧
    (memoryTested code passed s).guard.waitTimer = s.guard.waitTimer ∧
    (memoryTested code passed s).guard.waitExpired = s.guard.waitExpired ∧
    (memoryTested code passed s).guard.reports = s.guard.reports := by
  unfold memoryTested
  (repeat' split) <;> simp

@[simp] theorem attemptLost_guard (k : Kind) (s : State) :
    (attemptLost k s).guard.claim = s.guard.claim ∧ (attemptLost k s).guard.announce = s.guard.announce ∧
    (attemptLost k s).guard.phase = s.guard.phase ∧ (attemptLost k s).guard.side = s.guard.side ∧
    (attemptLost k s).guard.atCheck = s.guard.atCheck ∧ (attemptLost k s).guard.passed = s.guard.passed ∧
    (attemptLost k s).guard.settleTimer = s.guard.settleTimer ∧ (attemptLost k s).guard.heard = s.guard.heard ∧
    (attemptLost k s).guard.reply = s.guard.reply ∧ (attemptLost k s).guard.waitTimer = s.guard.waitTimer ∧
    (attemptLost k s).guard.waitExpired = s.guard.waitExpired ∧
    (attemptLost k s).guard.reachTimer = s.guard.reachTimer ∧ (attemptLost k s).guard.reports = s.guard.reports ∧
    (attemptLost k s).guard.left = s.guard.left ∧ (attemptLost k s).guard.right = s.guard.right ∧
    (attemptLost k s).guard.leftArmed = s.guard.leftArmed ∧ (attemptLost k s).guard.rightArmed = s.guard.rightArmed := by
  unfold attemptLost
  (repeat' split) <;> simp

@[simp] theorem loseAttempt_guard (t : Sending) (s : State) :
    (loseAttempt t s).guard.claim = s.guard.claim ∧ (loseAttempt t s).guard.announce = s.guard.announce ∧
    (loseAttempt t s).guard.phase = s.guard.phase ∧ (loseAttempt t s).guard.side = s.guard.side ∧
    (loseAttempt t s).guard.atCheck = s.guard.atCheck ∧ (loseAttempt t s).guard.passed = s.guard.passed ∧
    (loseAttempt t s).guard.settleTimer = s.guard.settleTimer ∧ (loseAttempt t s).guard.heard = s.guard.heard ∧
    (loseAttempt t s).guard.reply = s.guard.reply ∧ (loseAttempt t s).guard.waitTimer = s.guard.waitTimer ∧
    (loseAttempt t s).guard.waitExpired = s.guard.waitExpired ∧
    (loseAttempt t s).guard.reachTimer = s.guard.reachTimer ∧ (loseAttempt t s).guard.reports = s.guard.reports ∧
    (loseAttempt t s).guard.left = s.guard.left ∧ (loseAttempt t s).guard.right = s.guard.right ∧
    (loseAttempt t s).guard.leftArmed = s.guard.leftArmed ∧ (loseAttempt t s).guard.rightArmed = s.guard.rightArmed := by
  simp [loseAttempt]

@[simp] theorem failTransmit_guard (t : Sending) (s : State) :
    (failTransmit t s).guard.claim = s.guard.claim ∧ (failTransmit t s).guard.announce = s.guard.announce ∧
    (failTransmit t s).guard.phase = s.guard.phase ∧ (failTransmit t s).guard.side = s.guard.side ∧
    (failTransmit t s).guard.atCheck = s.guard.atCheck ∧ (failTransmit t s).guard.passed = s.guard.passed ∧
    (failTransmit t s).guard.settleTimer = s.guard.settleTimer ∧ (failTransmit t s).guard.heard = s.guard.heard ∧
    (failTransmit t s).guard.reply = s.guard.reply ∧ (failTransmit t s).guard.waitTimer = s.guard.waitTimer ∧
    (failTransmit t s).guard.waitExpired = s.guard.waitExpired ∧
    (failTransmit t s).guard.reachTimer = s.guard.reachTimer ∧ (failTransmit t s).guard.reports = s.guard.reports ∧
    (failTransmit t s).guard.left = s.guard.left ∧ (failTransmit t s).guard.right = s.guard.right ∧
    (failTransmit t s).guard.leftArmed = s.guard.leftArmed ∧ (failTransmit t s).guard.rightArmed = s.guard.rightArmed := by
  unfold failTransmit
  dsimp only
  (repeat' split) <;> simp

@[simp] theorem echoMismatch_guard (t : Sending) (s : State) :
    (echoMismatch t s).guard.claim = s.guard.claim ∧ (echoMismatch t s).guard.announce = s.guard.announce ∧
    (echoMismatch t s).guard.phase = s.guard.phase ∧ (echoMismatch t s).guard.side = s.guard.side ∧
    (echoMismatch t s).guard.atCheck = s.guard.atCheck ∧ (echoMismatch t s).guard.passed = s.guard.passed ∧
    (echoMismatch t s).guard.settleTimer = s.guard.settleTimer ∧ (echoMismatch t s).guard.heard = s.guard.heard ∧
    (echoMismatch t s).guard.reply = s.guard.reply ∧ (echoMismatch t s).guard.waitTimer = s.guard.waitTimer ∧
    (echoMismatch t s).guard.waitExpired = s.guard.waitExpired ∧
    (echoMismatch t s).guard.reachTimer = s.guard.reachTimer ∧ (echoMismatch t s).guard.reports = s.guard.reports ∧
    (echoMismatch t s).guard.left = s.guard.left ∧ (echoMismatch t s).guard.right = s.guard.right ∧
    (echoMismatch t s).guard.leftArmed = s.guard.leftArmed ∧ (echoMismatch t s).guard.rightArmed = s.guard.rightArmed := by
  simp [echoMismatch]

@[simp] theorem reachSent_guard (heard : Bool) (s : State) :
    (reachSent heard s).guard.claim = s.guard.claim ∧ (reachSent heard s).guard.announce = s.guard.announce ∧
    (reachSent heard s).guard.phase = s.guard.phase ∧ (reachSent heard s).guard.side = s.guard.side ∧
    (reachSent heard s).guard.atCheck = s.guard.atCheck ∧ (reachSent heard s).guard.passed = s.guard.passed ∧
    (reachSent heard s).guard.settleTimer = s.guard.settleTimer ∧ (reachSent heard s).guard.reply = s.guard.reply ∧
    (reachSent heard s).guard.waitTimer = s.guard.waitTimer ∧
    (reachSent heard s).guard.waitExpired = s.guard.waitExpired ∧
    (reachSent heard s).guard.reachTimer = s.guard.reachTimer ∧ (reachSent heard s).guard.left = s.guard.left ∧
    (reachSent heard s).guard.right = s.guard.right ∧ (reachSent heard s).guard.leftArmed = s.guard.leftArmed ∧
    (reachSent heard s).guard.rightArmed = s.guard.rightArmed := by
  simp [reachSent]

@[simp] theorem frameLeft_guard (t : Sending) (heard : Bool) (s : State) :
    (frameLeft t heard s).guard.reachTimer = s.guard.reachTimer ∧ (frameLeft t heard s).guard.left = s.guard.left ∧
    (frameLeft t heard s).guard.right = s.guard.right ∧ (frameLeft t heard s).guard.leftArmed = s.guard.leftArmed ∧
    (frameLeft t heard s).guard.rightArmed = s.guard.rightArmed := by
  unfold frameLeft
  (repeat' split) <;> simp

@[simp] theorem endTransmit_guard (t : Sending) (heard : Bool) (s : State) :
    (endTransmit t heard s).guard.reachTimer = s.guard.reachTimer ∧
    (endTransmit t heard s).guard.left = s.guard.left ∧ (endTransmit t heard s).guard.right = s.guard.right ∧
    (endTransmit t heard s).guard.leftArmed = s.guard.leftArmed ∧
    (endTransmit t heard s).guard.rightArmed = s.guard.rightArmed := by
  simp [endTransmit]

@[simp] theorem readBack_guard (t : Sending) (bytes : List Byte) (s : State) :
    (readBack t bytes s).guard.claim = s.guard.claim ∧ (readBack t bytes s).guard.announce = s.guard.announce ∧
    (readBack t bytes s).guard.phase = s.guard.phase ∧ (readBack t bytes s).guard.side = s.guard.side ∧
    (readBack t bytes s).guard.atCheck = s.guard.atCheck ∧ (readBack t bytes s).guard.passed = s.guard.passed ∧
    (readBack t bytes s).guard.settleTimer = s.guard.settleTimer ∧ (readBack t bytes s).guard.heard = s.guard.heard ∧
    (readBack t bytes s).guard.reply = s.guard.reply ∧ (readBack t bytes s).guard.waitTimer = s.guard.waitTimer ∧
    (readBack t bytes s).guard.waitExpired = s.guard.waitExpired ∧
    (readBack t bytes s).guard.reachTimer = s.guard.reachTimer ∧
    (readBack t bytes s).guard.reports = s.guard.reports ∧ (readBack t bytes s).guard.left = s.guard.left ∧
    (readBack t bytes s).guard.right = s.guard.right ∧ (readBack t bytes s).guard.leftArmed = s.guard.leftArmed ∧
    (readBack t bytes s).guard.rightArmed = s.guard.rightArmed := by
  unfold readBack
  (repeat' split) <;> simp

@[simp] theorem receive_guard (bytes : List Byte) (s : State) :
    (receive bytes s).guard.claim = s.guard.claim ∧ (receive bytes s).guard.announce = s.guard.announce ∧
    (receive bytes s).guard.phase = s.guard.phase ∧ (receive bytes s).guard.side = s.guard.side ∧
    (receive bytes s).guard.atCheck = s.guard.atCheck ∧ (receive bytes s).guard.passed = s.guard.passed ∧
    (receive bytes s).guard.settleTimer = s.guard.settleTimer ∧ (receive bytes s).guard.heard = s.guard.heard ∧
    (receive bytes s).guard.reply = s.guard.reply ∧ (receive bytes s).guard.waitTimer = s.guard.waitTimer ∧
    (receive bytes s).guard.waitExpired = s.guard.waitExpired ∧
    (receive bytes s).guard.reachTimer = s.guard.reachTimer ∧ (receive bytes s).guard.reports = s.guard.reports ∧
    (receive bytes s).guard.left = s.guard.left ∧ (receive bytes s).guard.right = s.guard.right ∧
    (receive bytes s).guard.leftArmed = s.guard.leftArmed ∧ (receive bytes s).guard.rightArmed = s.guard.rightArmed := by
  unfold receive
  dsimp only
  (repeat' split) <;> simp

@[simp] theorem arm_guard (r : JobRecord) (s : State) :
    (arm r s).guard.announce = s.guard.announce ∧ (arm r s).guard.announceSent = s.guard.announceSent ∧
    (arm r s).guard.phase = s.guard.phase ∧ (arm r s).guard.side = s.guard.side ∧
    (arm r s).guard.atCheck = s.guard.atCheck ∧ (arm r s).guard.passed = s.guard.passed ∧
    (arm r s).guard.settleTimer = s.guard.settleTimer ∧ (arm r s).guard.heard = s.guard.heard ∧
    (arm r s).guard.reply = s.guard.reply ∧ (arm r s).guard.waitTimer = s.guard.waitTimer ∧
    (arm r s).guard.waitExpired = s.guard.waitExpired ∧ (arm r s).guard.reachTimer = s.guard.reachTimer ∧
    (arm r s).guard.reports = s.guard.reports ∧ (arm r s).guard.left = s.guard.left ∧
    (arm r s).guard.right = s.guard.right ∧ (arm r s).guard.leftArmed = s.guard.leftArmed ∧
    (arm r s).guard.rightArmed = s.guard.rightArmed := by
  unfold arm
  (repeat' split) <;> simp

@[simp] theorem endAssembly_guard (a : Assembly) (s : State) :
    (endAssembly a s).guard.announce = s.guard.announce ∧
    (endAssembly a s).guard.announceSent = s.guard.announceSent ∧ (endAssembly a s).guard.phase = s.guard.phase ∧
    (endAssembly a s).guard.side = s.guard.side ∧ (endAssembly a s).guard.atCheck = s.guard.atCheck ∧
    (endAssembly a s).guard.passed = s.guard.passed ∧ (endAssembly a s).guard.settleTimer = s.guard.settleTimer ∧
    (endAssembly a s).guard.heard = s.guard.heard ∧ (endAssembly a s).guard.reply = s.guard.reply ∧
    (endAssembly a s).guard.waitTimer = s.guard.waitTimer ∧
    (endAssembly a s).guard.waitExpired = s.guard.waitExpired ∧
    (endAssembly a s).guard.reachTimer = s.guard.reachTimer ∧ (endAssembly a s).guard.reports = s.guard.reports ∧
    (endAssembly a s).guard.left = s.guard.left ∧ (endAssembly a s).guard.right = s.guard.right ∧
    (endAssembly a s).guard.leftArmed = s.guard.leftArmed ∧ (endAssembly a s).guard.rightArmed = s.guard.rightArmed := by
  unfold endAssembly
  (repeat' split) <;> simp

@[simp] theorem keepAssembly_guard (a : Assembly) (more : Bool) (s : State) :
    (keepAssembly a more s).guard.announce = s.guard.announce ∧
    (keepAssembly a more s).guard.announceSent = s.guard.announceSent ∧
    (keepAssembly a more s).guard.phase = s.guard.phase ∧ (keepAssembly a more s).guard.side = s.guard.side ∧
    (keepAssembly a more s).guard.atCheck = s.guard.atCheck ∧ (keepAssembly a more s).guard.passed = s.guard.passed ∧
    (keepAssembly a more s).guard.settleTimer = s.guard.settleTimer ∧
    (keepAssembly a more s).guard.heard = s.guard.heard ∧ (keepAssembly a more s).guard.reply = s.guard.reply ∧
    (keepAssembly a more s).guard.waitTimer = s.guard.waitTimer ∧
    (keepAssembly a more s).guard.waitExpired = s.guard.waitExpired ∧
    (keepAssembly a more s).guard.reachTimer = s.guard.reachTimer ∧
    (keepAssembly a more s).guard.reports = s.guard.reports ∧ (keepAssembly a more s).guard.left = s.guard.left ∧
    (keepAssembly a more s).guard.right = s.guard.right ∧
    (keepAssembly a more s).guard.leftArmed = s.guard.leftArmed ∧
    (keepAssembly a more s).guard.rightArmed = s.guard.rightArmed := by
  unfold keepAssembly
  (repeat' split) <;> simp

@[simp] theorem startAssembly_guard (g : Segment) (s : State) :
    (startAssembly g s).guard.announce = s.guard.announce ∧
    (startAssembly g s).guard.announceSent = s.guard.announceSent ∧ (startAssembly g s).guard.phase = s.guard.phase ∧
    (startAssembly g s).guard.side = s.guard.side ∧ (startAssembly g s).guard.atCheck = s.guard.atCheck ∧
    (startAssembly g s).guard.passed = s.guard.passed ∧ (startAssembly g s).guard.settleTimer = s.guard.settleTimer ∧
    (startAssembly g s).guard.heard = s.guard.heard ∧ (startAssembly g s).guard.reply = s.guard.reply ∧
    (startAssembly g s).guard.waitTimer = s.guard.waitTimer ∧
    (startAssembly g s).guard.waitExpired = s.guard.waitExpired ∧
    (startAssembly g s).guard.reachTimer = s.guard.reachTimer ∧ (startAssembly g s).guard.reports = s.guard.reports ∧
    (startAssembly g s).guard.left = s.guard.left ∧ (startAssembly g s).guard.right = s.guard.right ∧
    (startAssembly g s).guard.leftArmed = s.guard.leftArmed ∧
    (startAssembly g s).guard.rightArmed = s.guard.rightArmed := by
  unfold startAssembly
  (repeat' split) <;> simp

@[simp] theorem continueAssembly_guard (a : Assembly) (g : Segment) (s : State) :
    (continueAssembly a g s).guard.announce = s.guard.announce ∧
    (continueAssembly a g s).guard.announceSent = s.guard.announceSent ∧
    (continueAssembly a g s).guard.phase = s.guard.phase ∧ (continueAssembly a g s).guard.side = s.guard.side ∧
    (continueAssembly a g s).guard.atCheck = s.guard.atCheck ∧
    (continueAssembly a g s).guard.passed = s.guard.passed ∧
    (continueAssembly a g s).guard.settleTimer = s.guard.settleTimer ∧
    (continueAssembly a g s).guard.heard = s.guard.heard ∧ (continueAssembly a g s).guard.reply = s.guard.reply ∧
    (continueAssembly a g s).guard.waitTimer = s.guard.waitTimer ∧
    (continueAssembly a g s).guard.waitExpired = s.guard.waitExpired ∧
    (continueAssembly a g s).guard.reachTimer = s.guard.reachTimer ∧
    (continueAssembly a g s).guard.reports = s.guard.reports ∧ (continueAssembly a g s).guard.left = s.guard.left ∧
    (continueAssembly a g s).guard.right = s.guard.right ∧
    (continueAssembly a g s).guard.leftArmed = s.guard.leftArmed ∧
    (continueAssembly a g s).guard.rightArmed = s.guard.rightArmed := by
  unfold continueAssembly
  (repeat' split) <;> simp

@[simp] theorem takeSegment_guard (g : Segment) (s : State) :
    (takeSegment g s).guard.announce = s.guard.announce ∧
    (takeSegment g s).guard.announceSent = s.guard.announceSent ∧ (takeSegment g s).guard.phase = s.guard.phase ∧
    (takeSegment g s).guard.side = s.guard.side ∧ (takeSegment g s).guard.atCheck = s.guard.atCheck ∧
    (takeSegment g s).guard.passed = s.guard.passed ∧ (takeSegment g s).guard.settleTimer = s.guard.settleTimer ∧
    (takeSegment g s).guard.heard = s.guard.heard ∧ (takeSegment g s).guard.reply = s.guard.reply ∧
    (takeSegment g s).guard.waitTimer = s.guard.waitTimer ∧
    (takeSegment g s).guard.waitExpired = s.guard.waitExpired ∧
    (takeSegment g s).guard.reachTimer = s.guard.reachTimer ∧ (takeSegment g s).guard.reports = s.guard.reports ∧
    (takeSegment g s).guard.left = s.guard.left ∧ (takeSegment g s).guard.right = s.guard.right ∧
    (takeSegment g s).guard.leftArmed = s.guard.leftArmed ∧ (takeSegment g s).guard.rightArmed = s.guard.rightArmed := by
  unfold takeSegment
  (repeat' split) <;> simp

@[simp] theorem takeJob_guard (f : Frame) (s : State) :
    (takeJob f s).guard.announce = s.guard.announce ∧ (takeJob f s).guard.announceSent = s.guard.announceSent ∧
    (takeJob f s).guard.phase = s.guard.phase ∧ (takeJob f s).guard.side = s.guard.side ∧
    (takeJob f s).guard.atCheck = s.guard.atCheck ∧ (takeJob f s).guard.passed = s.guard.passed ∧
    (takeJob f s).guard.settleTimer = s.guard.settleTimer ∧ (takeJob f s).guard.heard = s.guard.heard ∧
    (takeJob f s).guard.reply = s.guard.reply ∧ (takeJob f s).guard.waitTimer = s.guard.waitTimer ∧
    (takeJob f s).guard.waitExpired = s.guard.waitExpired ∧ (takeJob f s).guard.reachTimer = s.guard.reachTimer ∧
    (takeJob f s).guard.reports = s.guard.reports ∧ (takeJob f s).guard.left = s.guard.left ∧
    (takeJob f s).guard.right = s.guard.right ∧ (takeJob f s).guard.leftArmed = s.guard.leftArmed ∧
    (takeJob f s).guard.rightArmed = s.guard.rightArmed := by
  unfold takeJob
  (repeat' split) <;> simp

@[simp] theorem acceptJoin_guard (k : Nat) (p : Peer) (answer : Bool) (s : State) :
    (acceptJoin k p answer s).guard.reachTimer = s.guard.reachTimer ∧
    (acceptJoin k p answer s).guard.reports = s.guard.reports := by
  unfold acceptJoin
  dsimp only
  (repeat' split) <;> simp

@[simp] theorem takeJoin_guard (f : Frame) (s : State) :
    (takeJoin f s).guard.reachTimer = s.guard.reachTimer ∧ (takeJoin f s).guard.reports = s.guard.reports := by
  unfold takeJoin
  (repeat' split) <;> simp

@[simp] theorem startJob_guard (s : State) :
    (startJob s).guard.reachTimer = s.guard.reachTimer ∧ (startJob s).guard.reports = s.guard.reports ∧
    (startJob s).guard.left = s.guard.left ∧ (startJob s).guard.right = s.guard.right ∧
    (startJob s).guard.leftArmed = s.guard.leftArmed ∧ (startJob s).guard.rightArmed = s.guard.rightArmed := by
  unfold startJob
  dsimp only
  (repeat' split) <;> simp

@[simp] theorem takeStart_guard (f : Frame) (s : State) :
    (takeStart f s).guard.reachTimer = s.guard.reachTimer ∧ (takeStart f s).guard.reports = s.guard.reports ∧
    (takeStart f s).guard.left = s.guard.left ∧ (takeStart f s).guard.right = s.guard.right ∧
    (takeStart f s).guard.leftArmed = s.guard.leftArmed ∧ (takeStart f s).guard.rightArmed = s.guard.rightArmed := by
  unfold takeStart
  (repeat' split) <;> simp

@[simp] theorem endWork_guard (s : State) :
    (endWork s).guard.side = s.guard.side ∧ (endWork s).guard.reachTimer = s.guard.reachTimer ∧
    (endWork s).guard.reports = s.guard.reports ∧ (endWork s).guard.left = s.guard.left ∧
    (endWork s).guard.right = s.guard.right ∧ (endWork s).guard.leftArmed = s.guard.leftArmed ∧
    (endWork s).guard.rightArmed = s.guard.rightArmed := by
  simp [endWork]

@[simp] theorem endStream_guard (s : State) :
    (endStream s).guard.side = s.guard.side ∧ (endStream s).guard.reachTimer = s.guard.reachTimer ∧
    (endStream s).guard.reports = s.guard.reports ∧ (endStream s).guard.left = s.guard.left ∧
    (endStream s).guard.right = s.guard.right ∧ (endStream s).guard.leftArmed = s.guard.leftArmed ∧
    (endStream s).guard.rightArmed = s.guard.rightArmed := by
  simp [endStream]

@[simp] theorem endTracing_guard (s : State) :
    (endTracing s).guard.side = s.guard.side ∧ (endTracing s).guard.reachTimer = s.guard.reachTimer ∧
    (endTracing s).guard.reports = s.guard.reports ∧ (endTracing s).guard.left = s.guard.left ∧
    (endTracing s).guard.right = s.guard.right ∧ (endTracing s).guard.leftArmed = s.guard.leftArmed ∧
    (endTracing s).guard.rightArmed = s.guard.rightArmed := by
  simp [endTracing]

@[simp] theorem abortCarver_guard (c : CarverJob) (s : State) :
    (abortCarver c s).guard.reachTimer = s.guard.reachTimer ∧ (abortCarver c s).guard.reports = s.guard.reports ∧
    (abortCarver c s).guard.left = s.guard.left ∧ (abortCarver c s).guard.right = s.guard.right ∧
    (abortCarver c s).guard.leftArmed = s.guard.leftArmed ∧ (abortCarver c s).guard.rightArmed = s.guard.rightArmed := by
  unfold abortCarver
  dsimp only
  (repeat' split) <;> simp

@[simp] theorem abortTracer_guard (s : State) :
    (abortTracer s).guard.reachTimer = s.guard.reachTimer ∧ (abortTracer s).guard.reports = s.guard.reports ∧
    (abortTracer s).guard.left = s.guard.left ∧ (abortTracer s).guard.right = s.guard.right ∧
    (abortTracer s).guard.leftArmed = s.guard.leftArmed ∧ (abortTracer s).guard.rightArmed = s.guard.rightArmed := by
  unfold abortTracer
  dsimp only
  (repeat' split) <;> simp

@[simp] theorem abortLoading_guard (s : State) :
    (abortLoading s).guard.reachTimer = s.guard.reachTimer ∧
    (abortLoading s).guard.reports = s.guard.reports ∧ (abortLoading s).guard.left = s.guard.left ∧
    (abortLoading s).guard.right = s.guard.right ∧ (abortLoading s).guard.leftArmed = s.guard.leftArmed ∧
    (abortLoading s).guard.rightArmed = s.guard.rightArmed := by
  unfold abortLoading
  dsimp only
  split <;> simp

@[simp] theorem abortJob_guard (s : State) :
    (abortJob s).guard.reachTimer = s.guard.reachTimer ∧ (abortJob s).guard.reports = s.guard.reports ∧
    (abortJob s).guard.left = s.guard.left ∧ (abortJob s).guard.right = s.guard.right ∧
    (abortJob s).guard.leftArmed = s.guard.leftArmed ∧ (abortJob s).guard.rightArmed = s.guard.rightArmed := by
  unfold abortJob
  (repeat' split) <;> simp

@[simp] theorem takeAbort_guard (f : Frame) (s : State) :
    (takeAbort f s).guard.reachTimer = s.guard.reachTimer ∧ (takeAbort f s).guard.reports = s.guard.reports ∧
    (takeAbort f s).guard.left = s.guard.left ∧ (takeAbort f s).guard.right = s.guard.right ∧
    (takeAbort f s).guard.leftArmed = s.guard.leftArmed ∧ (takeAbort f s).guard.rightArmed = s.guard.rightArmed := by
  unfold takeAbort
  (repeat' split) <;> simp

@[simp] theorem excuseCarver_guard (k : Nat) (r : JobRecord) (t : TracerJob) (s : State) :
    (excuseCarver k r t s).guard.reachTimer = s.guard.reachTimer ∧
    (excuseCarver k r t s).guard.reports = s.guard.reports ∧ (excuseCarver k r t s).guard.left = s.guard.left ∧
    (excuseCarver k r t s).guard.right = s.guard.right ∧ (excuseCarver k r t s).guard.leftArmed = s.guard.leftArmed ∧
    (excuseCarver k r t s).guard.rightArmed = s.guard.rightArmed := by
  unfold excuseCarver
  dsimp only
  (repeat' split) <;> simp

@[simp] theorem tracerExcuse_guard (f : Frame) (s : State) :
    (tracerExcuse f s).guard.reachTimer = s.guard.reachTimer ∧ (tracerExcuse f s).guard.reports = s.guard.reports ∧
    (tracerExcuse f s).guard.left = s.guard.left ∧ (tracerExcuse f s).guard.right = s.guard.right ∧
    (tracerExcuse f s).guard.leftArmed = s.guard.leftArmed ∧ (tracerExcuse f s).guard.rightArmed = s.guard.rightArmed := by
  unfold tracerExcuse
  (repeat' split) <;> simp

@[simp] theorem becomeExcused_guard (s : State) :
    (becomeExcused s).guard.reachTimer = s.guard.reachTimer ∧ (becomeExcused s).guard.reports = s.guard.reports ∧
    (becomeExcused s).guard.left = s.guard.left ∧ (becomeExcused s).guard.right = s.guard.right ∧
    (becomeExcused s).guard.leftArmed = s.guard.leftArmed ∧ (becomeExcused s).guard.rightArmed = s.guard.rightArmed := by
  unfold becomeExcused
  dsimp only
  (repeat' split) <;> simp

@[simp] theorem carverExcuse_guard (f : Frame) (s : State) :
    (carverExcuse f s).guard.reachTimer = s.guard.reachTimer ∧ (carverExcuse f s).guard.reports = s.guard.reports ∧
    (carverExcuse f s).guard.left = s.guard.left ∧ (carverExcuse f s).guard.right = s.guard.right ∧
    (carverExcuse f s).guard.leftArmed = s.guard.leftArmed ∧ (carverExcuse f s).guard.rightArmed = s.guard.rightArmed := by
  unfold carverExcuse
  (repeat' split) <;> simp

@[simp] theorem takeExcuse_guard (f : Frame) (s : State) :
    (takeExcuse f s).guard.reachTimer = s.guard.reachTimer ∧ (takeExcuse f s).guard.reports = s.guard.reports ∧
    (takeExcuse f s).guard.left = s.guard.left ∧ (takeExcuse f s).guard.right = s.guard.right ∧
    (takeExcuse f s).guard.leftArmed = s.guard.leftArmed ∧ (takeExcuse f s).guard.rightArmed = s.guard.rightArmed := by
  unfold takeExcuse
  (repeat' split) <;> simp

@[simp] theorem resumeCarver_guard (s : State) :
    (resumeCarver s).guard.reachTimer = s.guard.reachTimer ∧ (resumeCarver s).guard.reports = s.guard.reports ∧
    (resumeCarver s).guard.left = s.guard.left ∧ (resumeCarver s).guard.right = s.guard.right ∧
    (resumeCarver s).guard.leftArmed = s.guard.leftArmed ∧ (resumeCarver s).guard.rightArmed = s.guard.rightArmed := by
  simp [resumeCarver]

@[simp] theorem reachHeld_guard (s : State) :
    (reachHeld s).guard.reachTimer = s.guard.reachTimer ∧ (reachHeld s).guard.reports = s.guard.reports ∧
    (reachHeld s).guard.left = s.guard.left ∧ (reachHeld s).guard.right = s.guard.right ∧
    (reachHeld s).guard.leftArmed = s.guard.leftArmed ∧ (reachHeld s).guard.rightArmed = s.guard.rightArmed := by
  unfold reachHeld
  (repeat' split) <;> simp

@[simp] theorem resumeTracer_guard (s : State) :
    (resumeTracer s).guard.reachTimer = s.guard.reachTimer ∧ (resumeTracer s).guard.reports = s.guard.reports ∧
    (resumeTracer s).guard.left = s.guard.left ∧ (resumeTracer s).guard.right = s.guard.right ∧
    (resumeTracer s).guard.leftArmed = s.guard.leftArmed ∧ (resumeTracer s).guard.rightArmed = s.guard.rightArmed := by
  simp [resumeTracer]

@[simp] theorem resumeJob_guard (s : State) :
    (resumeJob s).guard.reachTimer = s.guard.reachTimer ∧ (resumeJob s).guard.reports = s.guard.reports ∧
    (resumeJob s).guard.left = s.guard.left ∧ (resumeJob s).guard.right = s.guard.right ∧
    (resumeJob s).guard.leftArmed = s.guard.leftArmed ∧ (resumeJob s).guard.rightArmed = s.guard.rightArmed := by
  unfold resumeJob
  dsimp only
  (repeat' split) <;> simp

@[simp] theorem takeResume_guard (f : Frame) (s : State) :
    (takeResume f s).guard.reachTimer = s.guard.reachTimer ∧ (takeResume f s).guard.reports = s.guard.reports ∧
    (takeResume f s).guard.left = s.guard.left ∧ (takeResume f s).guard.right = s.guard.right ∧
    (takeResume f s).guard.leftArmed = s.guard.leftArmed ∧ (takeResume f s).guard.rightArmed = s.guard.rightArmed := by
  unfold takeResume
  (repeat' split) <;> simp

@[simp] theorem beginDrain_guard (s : State) :
    (beginDrain s).guard.reachTimer = s.guard.reachTimer ∧ (beginDrain s).guard.reports = s.guard.reports ∧
    (beginDrain s).guard.left = s.guard.left ∧ (beginDrain s).guard.right = s.guard.right ∧
    (beginDrain s).guard.leftArmed = s.guard.leftArmed ∧ (beginDrain s).guard.rightArmed = s.guard.rightArmed := by
  unfold beginDrain
  (repeat' split) <;> simp

@[simp] theorem takeFinish_guard (f : Frame) (s : State) :
    (takeFinish f s).guard.reachTimer = s.guard.reachTimer ∧ (takeFinish f s).guard.reports = s.guard.reports ∧
    (takeFinish f s).guard.left = s.guard.left ∧ (takeFinish f s).guard.right = s.guard.right ∧
    (takeFinish f s).guard.leftArmed = s.guard.leftArmed ∧ (takeFinish f s).guard.rightArmed = s.guard.rightArmed := by
  unfold takeFinish
  (repeat' split) <;> simp

@[simp] theorem creditFrame_guard (f : Frame) (s : State) :
    (creditFrame f s).guard.reachTimer = s.guard.reachTimer ∧ (creditFrame f s).guard.reports = s.guard.reports ∧
    (creditFrame f s).guard.left = s.guard.left ∧ (creditFrame f s).guard.right = s.guard.right ∧
    (creditFrame f s).guard.leftArmed = s.guard.leftArmed ∧ (creditFrame f s).guard.rightArmed = s.guard.rightArmed := by
  unfold creditFrame
  (repeat' split) <;> simp

@[simp] theorem reachFrom_guard (side : Side) (v : Seen) (s : State) :
    (reachFrom side v s).guard.reachTimer = s.guard.reachTimer ∧ (reachFrom side v s).guard.reports = s.guard.reports := by
  unfold reachFrom
  dsimp only
  (repeat' split) <;> simp

@[simp] theorem takeReach_guard (f : Frame) (s : State) :
    (takeReach f s).guard.reachTimer = s.guard.reachTimer ∧ (takeReach f s).guard.reports = s.guard.reports := by
  unfold takeReach
  (repeat' split) <;> simp

@[simp] theorem viewStale_guard (side : Side) (station : Option Nat) (h : Heard) (s : State) :
    (viewStale side station h s).guard.claim = s.guard.claim ∧
    (viewStale side station h s).guard.atCheck = s.guard.atCheck ∧
    (viewStale side station h s).guard.passed = s.guard.passed ∧
    (viewStale side station h s).guard.heard = s.guard.heard ∧
    (viewStale side station h s).guard.reply = s.guard.reply ∧
    (viewStale side station h s).guard.waitExpired = s.guard.waitExpired ∧
    (viewStale side station h s).guard.reachTimer = s.guard.reachTimer ∧
    (viewStale side station h s).guard.reports = s.guard.reports ∧
    (viewStale side station h s).guard.leftArmed = s.guard.leftArmed ∧
    (viewStale side station h s).guard.rightArmed = s.guard.rightArmed := by
  unfold viewStale
  dsimp only
  (repeat' split) <;> simp

@[simp] theorem stallCarver_guard (s : State) :
    (stallCarver s).guard.reachTimer = s.guard.reachTimer ∧ (stallCarver s).guard.reports = s.guard.reports ∧
    (stallCarver s).guard.left = s.guard.left ∧ (stallCarver s).guard.right = s.guard.right ∧
    (stallCarver s).guard.leftArmed = s.guard.leftArmed ∧ (stallCarver s).guard.rightArmed = s.guard.rightArmed := by
  simp [stallCarver]

@[simp] theorem closeSweep_guard (e : Entry) (s : State) :
    (closeSweep e s).guard.reachTimer = s.guard.reachTimer ∧ (closeSweep e s).guard.reports = s.guard.reports ∧
    (closeSweep e s).guard.left = s.guard.left ∧ (closeSweep e s).guard.right = s.guard.right ∧
    (closeSweep e s).guard.leftArmed = s.guard.leftArmed ∧ (closeSweep e s).guard.rightArmed = s.guard.rightArmed := by
  simp [closeSweep]

@[simp] theorem arriveOne_guard (o : Outstanding) (rest : List Outstanding) (probe : Probe) (s : State) :
    (arriveOne o rest probe s).guard.reachTimer = s.guard.reachTimer ∧
    (arriveOne o rest probe s).guard.reports = s.guard.reports ∧
    (arriveOne o rest probe s).guard.left = s.guard.left ∧ (arriveOne o rest probe s).guard.right = s.guard.right ∧
    (arriveOne o rest probe s).guard.leftArmed = s.guard.leftArmed ∧
    (arriveOne o rest probe s).guard.rightArmed = s.guard.rightArmed := by
  simp [arriveOne]

@[simp] theorem arriveTag_guard (tag : Byte) (probe : Probe) (s : State) :
    (arriveTag tag probe s).guard.reachTimer = s.guard.reachTimer ∧
    (arriveTag tag probe s).guard.reports = s.guard.reports ∧ (arriveTag tag probe s).guard.left = s.guard.left ∧
    (arriveTag tag probe s).guard.right = s.guard.right ∧
    (arriveTag tag probe s).guard.leftArmed = s.guard.leftArmed ∧
    (arriveTag tag probe s).guard.rightArmed = s.guard.rightArmed := by
  unfold arriveTag
  (repeat' split) <;> simp

@[simp] theorem stopInPlace_guard (s : State) :
    (stopInPlace s).guard.side = s.guard.side ∧ (stopInPlace s).guard.reachTimer = s.guard.reachTimer ∧
    (stopInPlace s).guard.reports = s.guard.reports ∧ (stopInPlace s).guard.left = s.guard.left ∧
    (stopInPlace s).guard.right = s.guard.right ∧ (stopInPlace s).guard.leftArmed = s.guard.leftArmed ∧
    (stopInPlace s).guard.rightArmed = s.guard.rightArmed := by
  simp [stopInPlace]

@[simp] theorem enterStopped_guard (s : State) :
    (enterStopped s).guard.side = s.guard.side ∧ (enterStopped s).guard.reachTimer = s.guard.reachTimer ∧
    (enterStopped s).guard.reports = s.guard.reports ∧ (enterStopped s).guard.left = s.guard.left ∧
    (enterStopped s).guard.right = s.guard.right ∧ (enterStopped s).guard.leftArmed = s.guard.leftArmed ∧
    (enterStopped s).guard.rightArmed = s.guard.rightArmed := by
  simp [enterStopped]

@[simp] theorem stopPort_guard (s : State) :
    (stopPort s).guard.side = s.guard.side ∧ (stopPort s).guard.reachTimer = s.guard.reachTimer ∧
    (stopPort s).guard.reports = s.guard.reports ∧ (stopPort s).guard.left = s.guard.left ∧
    (stopPort s).guard.right = s.guard.right ∧ (stopPort s).guard.leftArmed = s.guard.leftArmed ∧
    (stopPort s).guard.rightArmed = s.guard.rightArmed := by
  unfold stopPort
  (repeat' split) <;> simp


end Sys2Proof.Machine
end

