-- ==== Sys2Proof/Laws/JobFields.lean ====
section
/-! SUPPORT. Frame lemmas inside the Job Store: the fields of it that an operation leaves as they are. -/

namespace Sys2Proof.Machine

open Sys2Proof

@[simp] theorem setStation_job (st : StationState) (s : State) :
    (setStation st s).job.remembered = s.job.remembered ∧ (setStation st s).job.record = s.job.record ∧
    (setStation st s).job.assembly = s.job.assembly ∧ (setStation st s).job.refusal = s.job.refusal ∧
    (setStation st s).job.halfLeft = s.job.halfLeft ∧ (setStation st s).job.halfRight = s.job.halfRight ∧
    (setStation st s).job.finishing = s.job.finishing := by
  simp [setStation]

@[simp] theorem endDrain_job (s : State) :
    (endDrain s).job.remembered = s.job.remembered ∧ (endDrain s).job.record = s.job.record ∧
    (endDrain s).job.assembly = s.job.assembly ∧ (endDrain s).job.refusal = s.job.refusal ∧
    (endDrain s).job.halfLeft = s.job.halfLeft ∧ (endDrain s).job.halfRight = s.job.halfRight := by
  unfold endDrain
  (repeat' split) <;> simp

@[simp] theorem closingDone_job (c : ClosingLift) (s : State) :
    (closingDone c s).job.remembered = s.job.remembered ∧ (closingDone c s).job.record = s.job.record ∧
    (closingDone c s).job.assembly = s.job.assembly ∧ (closingDone c s).job.refusal = s.job.refusal ∧
    (closingDone c s).job.halfLeft = s.job.halfLeft ∧ (closingDone c s).job.halfRight = s.job.halfRight := by
  unfold closingDone
  (repeat' split) <;> simp

@[simp] theorem pumpClosing_job (s : State) :
    (pumpClosing s).job.remembered = s.job.remembered ∧ (pumpClosing s).job.record = s.job.record ∧
    (pumpClosing s).job.assembly = s.job.assembly ∧ (pumpClosing s).job.refusal = s.job.refusal ∧
    (pumpClosing s).job.halfLeft = s.job.halfLeft ∧ (pumpClosing s).job.halfRight = s.job.halfRight := by
  unfold pumpClosing
  (repeat' split) <;> simp

@[simp] theorem pumpLifts_job (s : State) :
    (pumpLifts s).job.remembered = s.job.remembered ∧ (pumpLifts s).job.record = s.job.record ∧
    (pumpLifts s).job.assembly = s.job.assembly ∧ (pumpLifts s).job.refusal = s.job.refusal ∧
    (pumpLifts s).job.halfLeft = s.job.halfLeft ∧ (pumpLifts s).job.halfRight = s.job.halfRight := by
  simp [pumpLifts]

@[simp] theorem pumpPort_job (s : State) :
    (pumpPort s).job.remembered = s.job.remembered ∧ (pumpPort s).job.record = s.job.record ∧
    (pumpPort s).job.assembly = s.job.assembly ∧ (pumpPort s).job.refusal = s.job.refusal ∧
    (pumpPort s).job.halfLeft = s.job.halfLeft ∧ (pumpPort s).job.halfRight = s.job.halfRight := by
  simp [pumpPort]

@[simp] theorem offerFinish_job (s : State) :
    (offerFinish s).job.remembered = s.job.remembered ∧ (offerFinish s).job.record = s.job.record ∧
    (offerFinish s).job.assembly = s.job.assembly ∧ (offerFinish s).job.refusal = s.job.refusal ∧
    (offerFinish s).job.halfLeft = s.job.halfLeft ∧ (offerFinish s).job.halfRight = s.job.halfRight ∧
    (offerFinish s).job.finishing = s.job.finishing := by
  unfold offerFinish
  (repeat' split) <;> simp

@[simp] theorem decidePass_job (p : Nat) (s : State) :
    (decidePass p s).job.remembered = s.job.remembered ∧ (decidePass p s).job.record = s.job.record ∧
    (decidePass p s).job.assembly = s.job.assembly ∧ (decidePass p s).job.refusal = s.job.refusal ∧
    (decidePass p s).job.halfLeft = s.job.halfLeft ∧ (decidePass p s).job.halfRight = s.job.halfRight ∧
    (decidePass p s).job.finishing = s.job.finishing := by
  unfold decidePass
  (repeat' split) <;> simp

@[simp] theorem testCollection_job (s : State) :
    (testCollection s).job.remembered = s.job.remembered ∧ (testCollection s).job.record = s.job.record ∧
    (testCollection s).job.assembly = s.job.assembly ∧ (testCollection s).job.refusal = s.job.refusal ∧
    (testCollection s).job.halfLeft = s.job.halfLeft ∧ (testCollection s).job.halfRight = s.job.halfRight ∧
    (testCollection s).job.finishing = s.job.finishing := by
  unfold testCollection
  (repeat' split) <;> simp

@[simp] theorem enterCollecting_job (r : JobRecord) (t : TracerJob) (s : State) :
    (enterCollecting r t s).job.remembered = s.job.remembered ∧ (enterCollecting r t s).job.record = s.job.record ∧
    (enterCollecting r t s).job.assembly = s.job.assembly ∧ (enterCollecting r t s).job.refusal = s.job.refusal ∧
    (enterCollecting r t s).job.halfLeft = s.job.halfLeft ∧ (enterCollecting r t s).job.halfRight = s.job.halfRight ∧
    (enterCollecting r t s).job.finishing = s.job.finishing := by
  unfold enterCollecting
  (repeat' split) <;> simp

@[simp] theorem enrolmentResult_job (s : State) :
    (enrolmentResult s).job.remembered = s.job.remembered ∧ (enrolmentResult s).job.record = s.job.record ∧
    (enrolmentResult s).job.assembly = s.job.assembly ∧ (enrolmentResult s).job.refusal = s.job.refusal ∧
    (enrolmentResult s).job.halfLeft = s.job.halfLeft ∧ (enrolmentResult s).job.halfRight = s.job.halfRight ∧
    (enrolmentResult s).job.finishing = s.job.finishing := by
  unfold enrolmentResult
  dsimp only
  (repeat' split) <;> simp

@[simp] theorem endEnrolment_job (s : State) :
    (endEnrolment s).job.remembered = s.job.remembered ∧ (endEnrolment s).job.record = s.job.record ∧
    (endEnrolment s).job.assembly = s.job.assembly ∧ (endEnrolment s).job.refusal = s.job.refusal ∧
    (endEnrolment s).job.halfLeft = s.job.halfLeft ∧ (endEnrolment s).job.halfRight = s.job.halfRight ∧
    (endEnrolment s).job.finishing = s.job.finishing := by
  unfold endEnrolment
  (repeat' split) <;> simp

@[simp] theorem testEnrolment_job (s : State) :
    (testEnrolment s).job.remembered = s.job.remembered ∧ (testEnrolment s).job.record = s.job.record ∧
    (testEnrolment s).job.assembly = s.job.assembly ∧ (testEnrolment s).job.refusal = s.job.refusal ∧
    (testEnrolment s).job.halfLeft = s.job.halfLeft ∧ (testEnrolment s).job.halfRight = s.job.halfRight ∧
    (testEnrolment s).job.finishing = s.job.finishing := by
  unfold testEnrolment
  (repeat' split) <;> simp

@[simp] theorem afterLive_job (j : JobRecord) (t : TracerJob) (r : TraceRecord) (s : State) :
    (afterLive j t r s).job.remembered = s.job.remembered ∧ (afterLive j t r s).job.record = s.job.record ∧
    (afterLive j t r s).job.assembly = s.job.assembly ∧ (afterLive j t r s).job.refusal = s.job.refusal ∧
    (afterLive j t r s).job.halfLeft = s.job.halfLeft ∧ (afterLive j t r s).job.halfRight = s.job.halfRight ∧
    (afterLive j t r s).job.finishing = s.job.finishing := by
  unfold afterLive
  (repeat' split) <;> simp

@[simp] theorem afterReplay_job (j : JobRecord) (t : TracerJob) (c : Cursor) (s : State) :
    (afterReplay j t c s).job.remembered = s.job.remembered ∧ (afterReplay j t c s).job.record = s.job.record ∧
    (afterReplay j t c s).job.assembly = s.job.assembly ∧ (afterReplay j t c s).job.refusal = s.job.refusal ∧
    (afterReplay j t c s).job.halfLeft = s.job.halfLeft ∧ (afterReplay j t c s).job.halfRight = s.job.halfRight ∧
    (afterReplay j t c s).job.finishing = s.job.finishing := by
  unfold afterReplay
  (repeat' split) <;> simp

@[simp] theorem emitHead_job (s : State) :
    (emitHead s).job.remembered = s.job.remembered ∧ (emitHead s).job.record = s.job.record ∧
    (emitHead s).job.assembly = s.job.assembly ∧ (emitHead s).job.refusal = s.job.refusal ∧
    (emitHead s).job.halfLeft = s.job.halfLeft ∧ (emitHead s).job.halfRight = s.job.halfRight ∧
    (emitHead s).job.finishing = s.job.finishing := by
  unfold emitHead
  dsimp only
  (repeat' split) <;> simp

@[simp] theorem creditUpdate_job (e : LagEntry) (c : CreditReport) (s : State) :
    (creditUpdate e c s).job.remembered = s.job.remembered ∧ (creditUpdate e c s).job.record = s.job.record ∧
    (creditUpdate e c s).job.assembly = s.job.assembly ∧ (creditUpdate e c s).job.refusal = s.job.refusal ∧
    (creditUpdate e c s).job.halfLeft = s.job.halfLeft ∧ (creditUpdate e c s).job.halfRight = s.job.halfRight ∧
    (creditUpdate e c s).job.finishing = s.job.finishing := by
  simp [creditUpdate]

@[simp] theorem creditFromEntry_job (e : LagEntry) (c : CreditReport) (s : State) :
    (creditFromEntry e c s).job.remembered = s.job.remembered ∧ (creditFromEntry e c s).job.record = s.job.record ∧
    (creditFromEntry e c s).job.assembly = s.job.assembly ∧ (creditFromEntry e c s).job.refusal = s.job.refusal ∧
    (creditFromEntry e c s).job.halfLeft = s.job.halfLeft ∧ (creditFromEntry e c s).job.halfRight = s.job.halfRight ∧
    (creditFromEntry e c s).job.finishing = s.job.finishing := by
  unfold creditFromEntry
  (repeat' split) <;> simp

@[simp] theorem admitCarver_job (c : CreditReport) (s : State) :
    (admitCarver c s).job.remembered = s.job.remembered ∧ (admitCarver c s).job.record = s.job.record ∧
    (admitCarver c s).job.assembly = s.job.assembly ∧ (admitCarver c s).job.refusal = s.job.refusal ∧
    (admitCarver c s).job.halfLeft = s.job.halfLeft ∧ (admitCarver c s).job.halfRight = s.job.halfRight ∧
    (admitCarver c s).job.finishing = s.job.finishing := by
  simp [admitCarver]

@[simp] theorem takeCredit_job (c : CreditReport) (s : State) :
    (takeCredit c s).job.remembered = s.job.remembered ∧ (takeCredit c s).job.record = s.job.record ∧
    (takeCredit c s).job.assembly = s.job.assembly ∧ (takeCredit c s).job.refusal = s.job.refusal ∧
    (takeCredit c s).job.halfLeft = s.job.halfLeft ∧ (takeCredit c s).job.halfRight = s.job.halfRight ∧
    (takeCredit c s).job.finishing = s.job.finishing := by
  unfold takeCredit
  (repeat' split) <;> simp

@[simp] theorem removeCarver_job (k : Nat) (s : State) :
    (removeCarver k s).job.remembered = s.job.remembered ∧ (removeCarver k s).job.record = s.job.record ∧
    (removeCarver k s).job.assembly = s.job.assembly ∧ (removeCarver k s).job.refusal = s.job.refusal ∧
    (removeCarver k s).job.halfLeft = s.job.halfLeft ∧ (removeCarver k s).job.halfRight = s.job.halfRight ∧
    (removeCarver k s).job.finishing = s.job.finishing := by
  simp [removeCarver]

@[simp] theorem rejoinNotice_job (k : Nat) (s : State) :
    (rejoinNotice k s).job.remembered = s.job.remembered ∧ (rejoinNotice k s).job.record = s.job.record ∧
    (rejoinNotice k s).job.assembly = s.job.assembly ∧ (rejoinNotice k s).job.refusal = s.job.refusal ∧
    (rejoinNotice k s).job.halfLeft = s.job.halfLeft ∧ (rejoinNotice k s).job.halfRight = s.job.halfRight ∧
    (rejoinNotice k s).job.finishing = s.job.finishing := by
  unfold rejoinNotice
  (repeat' split) <;> simp

@[simp] theorem placeFreed_job (s : State) :
    (placeFreed s).job.remembered = s.job.remembered ∧ (placeFreed s).job.record = s.job.record ∧
    (placeFreed s).job.assembly = s.job.assembly ∧ (placeFreed s).job.refusal = s.job.refusal ∧
    (placeFreed s).job.halfLeft = s.job.halfLeft ∧ (placeFreed s).job.halfRight = s.job.halfRight ∧
    (placeFreed s).job.finishing = s.job.finishing := by
  unfold placeFreed
  (repeat' split) <;> simp

@[simp] theorem endStarting_job (result : Nat) (s : State) :
    (endStarting result s).job.remembered = s.job.remembered ∧ (endStarting result s).job.record = s.job.record ∧
    (endStarting result s).job.assembly = s.job.assembly ∧ (endStarting result s).job.refusal = s.job.refusal ∧
    (endStarting result s).job.halfLeft = s.job.halfLeft ∧ (endStarting result s).job.halfRight = s.job.halfRight ∧
    (endStarting result s).job.finishing = s.job.finishing := by
  simp [endStarting]

@[simp] theorem leaveReset_job (straps : Straps) (s : State) :
    (leaveReset straps s).job.remembered = s.job.remembered ∧ (leaveReset straps s).job.record = s.job.record ∧
    (leaveReset straps s).job.assembly = s.job.assembly ∧ (leaveReset straps s).job.refusal = s.job.refusal ∧
    (leaveReset straps s).job.halfLeft = s.job.halfLeft ∧ (leaveReset straps s).job.halfRight = s.job.halfRight ∧
    (leaveReset straps s).job.finishing = s.job.finishing := by
  unfold leaveReset
  (repeat' split) <;> simp

@[simp] theorem memoryTested_job (code : Nat) (passed : Bool) (s : State) :
    (memoryTested code passed s).job.remembered = s.job.remembered ∧
    (memoryTested code passed s).job.record = s.job.record ∧
    (memoryTested code passed s).job.assembly = s.job.assembly ∧
    (memoryTested code passed s).job.refusal = s.job.refusal ∧
    (memoryTested code passed s).job.halfLeft = s.job.halfLeft ∧
    (memoryTested code passed s).job.halfRight = s.job.halfRight ∧
    (memoryTested code passed s).job.finishing = s.job.finishing := by
  unfold memoryTested
  (repeat' split) <;> simp

@[simp] theorem frameLeft_job (t : Sending) (heard : Bool) (s : State) :
    (frameLeft t heard s).job.remembered = s.job.remembered ∧ (frameLeft t heard s).job.record = s.job.record ∧
    (frameLeft t heard s).job.assembly = s.job.assembly ∧ (frameLeft t heard s).job.refusal = s.job.refusal ∧
    (frameLeft t heard s).job.halfLeft = s.job.halfLeft ∧ (frameLeft t heard s).job.halfRight = s.job.halfRight ∧
    (frameLeft t heard s).job.finishing = s.job.finishing := by
  unfold frameLeft
  (repeat' split) <;> simp

@[simp] theorem endTransmit_job (t : Sending) (heard : Bool) (s : State) :
    (endTransmit t heard s).job.remembered = s.job.remembered ∧ (endTransmit t heard s).job.record = s.job.record ∧
    (endTransmit t heard s).job.assembly = s.job.assembly ∧ (endTransmit t heard s).job.refusal = s.job.refusal ∧
    (endTransmit t heard s).job.halfLeft = s.job.halfLeft ∧ (endTransmit t heard s).job.halfRight = s.job.halfRight ∧
    (endTransmit t heard s).job.finishing = s.job.finishing := by
  simp [endTransmit]

@[simp] theorem arm_job (r : JobRecord) (s : State) :
    (arm r s).job.remembered = s.job.remembered ∧ (arm r s).job.refusal = s.job.refusal := by
  unfold arm
  (repeat' split) <;> simp

@[simp] theorem refuse_job (id : Nat) (code : JobCode) (index : Nat) (s : State) :
    (refuse id code index s).job.state = s.job.state ∧ (refuse id code index s).job.remembered = s.job.remembered ∧
    (refuse id code index s).job.record = s.job.record ∧ (refuse id code index s).job.assembly = s.job.assembly ∧
    (refuse id code index s).job.halfLeft = s.job.halfLeft ∧
    (refuse id code index s).job.halfRight = s.job.halfRight ∧
    (refuse id code index s).job.finishing = s.job.finishing := by
  simp [refuse]

@[simp] theorem dropAssembly_job (s : State) :
    (dropAssembly s).job.remembered = s.job.remembered ∧ (dropAssembly s).job.record = s.job.record ∧
    (dropAssembly s).job.refusal = s.job.refusal ∧ (dropAssembly s).job.halfLeft = s.job.halfLeft ∧
    (dropAssembly s).job.halfRight = s.job.halfRight ∧ (dropAssembly s).job.finishing = s.job.finishing := by
  unfold dropAssembly
  (repeat' split) <;> simp

@[simp] theorem endAssembly_job (a : Assembly) (s : State) :
    (endAssembly a s).job.remembered = s.job.remembered := by
  unfold endAssembly
  (repeat' split) <;> simp

@[simp] theorem keepAssembly_job (a : Assembly) (more : Bool) (s : State) :
    (keepAssembly a more s).job.remembered = s.job.remembered := by
  unfold keepAssembly
  (repeat' split) <;> simp

@[simp] theorem startAssembly_job (g : Segment) (s : State) :
    (startAssembly g s).job.remembered = s.job.remembered := by
  unfold startAssembly
  (repeat' split) <;> simp

@[simp] theorem continueAssembly_job (a : Assembly) (g : Segment) (s : State) :
    (continueAssembly a g s).job.remembered = s.job.remembered := by
  unfold continueAssembly
  (repeat' split) <;> simp

@[simp] theorem takeSegment_job (g : Segment) (s : State) :
    (takeSegment g s).job.remembered = s.job.remembered := by
  unfold takeSegment
  (repeat' split) <;> simp

@[simp] theorem takeJob_job (f : Frame) (s : State) :
    (takeJob f s).job.remembered = s.job.remembered := by
  unfold takeJob
  (repeat' split) <;> simp

@[simp] theorem acceptJoin_job (k : Nat) (p : Peer) (answer : Bool) (s : State) :
    (acceptJoin k p answer s).job.remembered = s.job.remembered ∧
    (acceptJoin k p answer s).job.record = s.job.record ∧ (acceptJoin k p answer s).job.assembly = s.job.assembly ∧
    (acceptJoin k p answer s).job.refusal = s.job.refusal ∧ (acceptJoin k p answer s).job.halfLeft = s.job.halfLeft ∧
    (acceptJoin k p answer s).job.halfRight = s.job.halfRight ∧
    (acceptJoin k p answer s).job.finishing = s.job.finishing := by
  unfold acceptJoin
  dsimp only
  (repeat' split) <;> simp

@[simp] theorem takeJoin_job (f : Frame) (s : State) :
    (takeJoin f s).job.remembered = s.job.remembered ∧ (takeJoin f s).job.record = s.job.record ∧
    (takeJoin f s).job.assembly = s.job.assembly ∧ (takeJoin f s).job.refusal = s.job.refusal ∧
    (takeJoin f s).job.halfLeft = s.job.halfLeft ∧ (takeJoin f s).job.halfRight = s.job.halfRight ∧
    (takeJoin f s).job.finishing = s.job.finishing := by
  unfold takeJoin
  (repeat' split) <;> simp

@[simp] theorem startJob_job (s : State) :
    (startJob s).job.remembered = s.job.remembered ∧ (startJob s).job.record = s.job.record ∧
    (startJob s).job.assembly = s.job.assembly ∧ (startJob s).job.refusal = s.job.refusal ∧
    (startJob s).job.halfLeft = s.job.halfLeft ∧ (startJob s).job.halfRight = s.job.halfRight := by
  unfold startJob
  dsimp only
  (repeat' split) <;> simp

@[simp] theorem takeStart_job (f : Frame) (s : State) :
    (takeStart f s).job.remembered = s.job.remembered ∧ (takeStart f s).job.record = s.job.record ∧
    (takeStart f s).job.assembly = s.job.assembly ∧ (takeStart f s).job.refusal = s.job.refusal ∧
    (takeStart f s).job.halfLeft = s.job.halfLeft ∧ (takeStart f s).job.halfRight = s.job.halfRight := by
  unfold takeStart
  (repeat' split) <;> simp

@[simp] theorem discardJob_job (s : State) :
    (discardJob s).job.remembered = s.job.remembered ∧ (discardJob s).job.refusal = s.job.refusal ∧
    (discardJob s).job.halfLeft = s.job.halfLeft ∧ (discardJob s).job.halfRight = s.job.halfRight := by
  simp [discardJob]

@[simp] theorem abortCarver_job (c : CarverJob) (s : State) :
    (abortCarver c s).job.remembered = s.job.remembered ∧ (abortCarver c s).job.refusal = s.job.refusal ∧
    (abortCarver c s).job.halfLeft = s.job.halfLeft ∧ (abortCarver c s).job.halfRight = s.job.halfRight := by
  unfold abortCarver
  dsimp only
  (repeat' split) <;> simp

@[simp] theorem abortTracer_job (s : State) :
    (abortTracer s).job.remembered = s.job.remembered ∧ (abortTracer s).job.refusal = s.job.refusal ∧
    (abortTracer s).job.halfLeft = s.job.halfLeft ∧ (abortTracer s).job.halfRight = s.job.halfRight := by
  unfold abortTracer
  dsimp only
  (repeat' split) <;> simp

@[simp] theorem abortLoading_job (s : State) :
    (abortLoading s).job.remembered = s.job.remembered ∧ (abortLoading s).job.refusal = s.job.refusal ∧
    (abortLoading s).job.halfLeft = s.job.halfLeft ∧ (abortLoading s).job.halfRight = s.job.halfRight := by
  unfold abortLoading
  dsimp only
  split <;> simp

@[simp] theorem abortJob_job (s : State) :
    (abortJob s).job.remembered = s.job.remembered ∧ (abortJob s).job.refusal = s.job.refusal ∧
    (abortJob s).job.halfLeft = s.job.halfLeft ∧ (abortJob s).job.halfRight = s.job.halfRight := by
  unfold abortJob
  (repeat' split) <;> simp

@[simp] theorem takeAbort_job (f : Frame) (s : State) :
    (takeAbort f s).job.remembered = s.job.remembered ∧ (takeAbort f s).job.refusal = s.job.refusal ∧
    (takeAbort f s).job.halfLeft = s.job.halfLeft ∧ (takeAbort f s).job.halfRight = s.job.halfRight := by
  unfold takeAbort
  (repeat' split) <;> simp

@[simp] theorem excuseCarver_job (k : Nat) (r : JobRecord) (t : TracerJob) (s : State) :
    (excuseCarver k r t s).job.remembered = s.job.remembered ∧ (excuseCarver k r t s).job.assembly = s.job.assembly ∧
    (excuseCarver k r t s).job.refusal = s.job.refusal ∧ (excuseCarver k r t s).job.halfLeft = s.job.halfLeft ∧
    (excuseCarver k r t s).job.halfRight = s.job.halfRight ∧ (excuseCarver k r t s).job.finishing = s.job.finishing := by
  unfold excuseCarver
  dsimp only
  (repeat' split) <;> simp

@[simp] theorem tracerExcuse_job (f : Frame) (s : State) :
    (tracerExcuse f s).job.remembered = s.job.remembered ∧ (tracerExcuse f s).job.assembly = s.job.assembly ∧
    (tracerExcuse f s).job.refusal = s.job.refusal ∧ (tracerExcuse f s).job.halfLeft = s.job.halfLeft ∧
    (tracerExcuse f s).job.halfRight = s.job.halfRight ∧ (tracerExcuse f s).job.finishing = s.job.finishing := by
  unfold tracerExcuse
  (repeat' split) <;> simp

@[simp] theorem becomeExcused_job (s : State) :
    (becomeExcused s).job.remembered = s.job.remembered ∧ (becomeExcused s).job.record = s.job.record ∧
    (becomeExcused s).job.assembly = s.job.assembly ∧ (becomeExcused s).job.refusal = s.job.refusal ∧
    (becomeExcused s).job.halfLeft = s.job.halfLeft ∧ (becomeExcused s).job.halfRight = s.job.halfRight := by
  unfold becomeExcused
  dsimp only
  (repeat' split) <;> simp

@[simp] theorem carverExcuse_job (f : Frame) (s : State) :
    (carverExcuse f s).job.remembered = s.job.remembered ∧ (carverExcuse f s).job.record = s.job.record ∧
    (carverExcuse f s).job.assembly = s.job.assembly ∧ (carverExcuse f s).job.refusal = s.job.refusal ∧
    (carverExcuse f s).job.halfLeft = s.job.halfLeft ∧ (carverExcuse f s).job.halfRight = s.job.halfRight := by
  unfold carverExcuse
  (repeat' split) <;> simp

@[simp] theorem takeExcuse_job (f : Frame) (s : State) :
    (takeExcuse f s).job.remembered = s.job.remembered ∧ (takeExcuse f s).job.assembly = s.job.assembly ∧
    (takeExcuse f s).job.refusal = s.job.refusal ∧ (takeExcuse f s).job.halfLeft = s.job.halfLeft ∧
    (takeExcuse f s).job.halfRight = s.job.halfRight := by
  unfold takeExcuse
  (repeat' split) <;> simp

@[simp] theorem resumeCarver_job (s : State) :
    (resumeCarver s).job.remembered = s.job.remembered ∧ (resumeCarver s).job.record = s.job.record ∧
    (resumeCarver s).job.assembly = s.job.assembly ∧ (resumeCarver s).job.refusal = s.job.refusal ∧
    (resumeCarver s).job.halfLeft = s.job.halfLeft ∧ (resumeCarver s).job.halfRight = s.job.halfRight := by
  simp [resumeCarver]

@[simp] theorem reachHeld_job (s : State) :
    (reachHeld s).job.remembered = s.job.remembered ∧ (reachHeld s).job.record = s.job.record ∧
    (reachHeld s).job.assembly = s.job.assembly ∧ (reachHeld s).job.refusal = s.job.refusal ∧
    (reachHeld s).job.halfLeft = s.job.halfLeft ∧ (reachHeld s).job.halfRight = s.job.halfRight ∧
    (reachHeld s).job.finishing = s.job.finishing := by
  unfold reachHeld
  (repeat' split) <;> simp

@[simp] theorem offerHeldFinish_job (s : State) :
    (offerHeldFinish s).job.remembered = s.job.remembered ∧ (offerHeldFinish s).job.record = s.job.record ∧
    (offerHeldFinish s).job.assembly = s.job.assembly ∧ (offerHeldFinish s).job.refusal = s.job.refusal ∧
    (offerHeldFinish s).job.halfLeft = s.job.halfLeft ∧ (offerHeldFinish s).job.halfRight = s.job.halfRight ∧
    (offerHeldFinish s).job.finishing = s.job.finishing := by
  unfold offerHeldFinish
  (repeat' split) <;> simp

@[simp] theorem resumeTracer_job (s : State) :
    (resumeTracer s).job.remembered = s.job.remembered ∧ (resumeTracer s).job.record = s.job.record ∧
    (resumeTracer s).job.assembly = s.job.assembly ∧ (resumeTracer s).job.refusal = s.job.refusal ∧
    (resumeTracer s).job.halfLeft = s.job.halfLeft ∧ (resumeTracer s).job.halfRight = s.job.halfRight := by
  simp [resumeTracer]

@[simp] theorem resumeJob_job (s : State) :
    (resumeJob s).job.remembered = s.job.remembered ∧ (resumeJob s).job.record = s.job.record ∧
    (resumeJob s).job.assembly = s.job.assembly ∧ (resumeJob s).job.refusal = s.job.refusal ∧
    (resumeJob s).job.halfLeft = s.job.halfLeft ∧ (resumeJob s).job.halfRight = s.job.halfRight := by
  unfold resumeJob
  dsimp only
  (repeat' split) <;> simp

@[simp] theorem takeResume_job (f : Frame) (s : State) :
    (takeResume f s).job.remembered = s.job.remembered ∧ (takeResume f s).job.record = s.job.record ∧
    (takeResume f s).job.assembly = s.job.assembly ∧ (takeResume f s).job.refusal = s.job.refusal ∧
    (takeResume f s).job.halfLeft = s.job.halfLeft ∧ (takeResume f s).job.halfRight = s.job.halfRight := by
  unfold takeResume
  (repeat' split) <;> simp

@[simp] theorem beginDrain_job (s : State) :
    (beginDrain s).job.remembered = s.job.remembered ∧ (beginDrain s).job.record = s.job.record ∧
    (beginDrain s).job.assembly = s.job.assembly ∧ (beginDrain s).job.refusal = s.job.refusal ∧
    (beginDrain s).job.halfLeft = s.job.halfLeft ∧ (beginDrain s).job.halfRight = s.job.halfRight := by
  unfold beginDrain
  (repeat' split) <;> simp

@[simp] theorem takeFinish_job (f : Frame) (s : State) :
    (takeFinish f s).job.remembered = s.job.remembered ∧ (takeFinish f s).job.record = s.job.record ∧
    (takeFinish f s).job.assembly = s.job.assembly ∧ (takeFinish f s).job.refusal = s.job.refusal ∧
    (takeFinish f s).job.halfLeft = s.job.halfLeft ∧ (takeFinish f s).job.halfRight = s.job.halfRight := by
  unfold takeFinish
  (repeat' split) <;> simp

@[simp] theorem creditFrame_job (f : Frame) (s : State) :
    (creditFrame f s).job.remembered = s.job.remembered ∧ (creditFrame f s).job.record = s.job.record ∧
    (creditFrame f s).job.assembly = s.job.assembly ∧ (creditFrame f s).job.refusal = s.job.refusal ∧
    (creditFrame f s).job.halfLeft = s.job.halfLeft ∧ (creditFrame f s).job.halfRight = s.job.halfRight ∧
    (creditFrame f s).job.finishing = s.job.finishing := by
  unfold creditFrame
  (repeat' split) <;> simp

@[simp] theorem stallCarver_job (s : State) :
    (stallCarver s).job.remembered = s.job.remembered ∧ (stallCarver s).job.record = s.job.record ∧
    (stallCarver s).job.assembly = s.job.assembly ∧ (stallCarver s).job.refusal = s.job.refusal ∧
    (stallCarver s).job.halfLeft = s.job.halfLeft ∧ (stallCarver s).job.halfRight = s.job.halfRight := by
  simp [stallCarver]

@[simp] theorem closeSweep_job (e : Entry) (s : State) :
    (closeSweep e s).job.remembered = s.job.remembered ∧ (closeSweep e s).job.record = s.job.record ∧
    (closeSweep e s).job.assembly = s.job.assembly ∧ (closeSweep e s).job.refusal = s.job.refusal ∧
    (closeSweep e s).job.halfLeft = s.job.halfLeft ∧ (closeSweep e s).job.halfRight = s.job.halfRight := by
  simp [closeSweep]

@[simp] theorem handArrival_job (o : Outstanding) (probe : Probe) (s : State) :
    (handArrival o probe s).job.remembered = s.job.remembered ∧ (handArrival o probe s).job.record = s.job.record ∧
    (handArrival o probe s).job.assembly = s.job.assembly ∧ (handArrival o probe s).job.refusal = s.job.refusal ∧
    (handArrival o probe s).job.halfLeft = s.job.halfLeft ∧ (handArrival o probe s).job.halfRight = s.job.halfRight := by
  unfold handArrival
  (repeat' split) <;> simp

@[simp] theorem arriveOne_job (o : Outstanding) (rest : List Outstanding) (probe : Probe) (s : State) :
    (arriveOne o rest probe s).job.remembered = s.job.remembered ∧
    (arriveOne o rest probe s).job.record = s.job.record ∧ (arriveOne o rest probe s).job.assembly = s.job.assembly ∧
    (arriveOne o rest probe s).job.refusal = s.job.refusal ∧
    (arriveOne o rest probe s).job.halfLeft = s.job.halfLeft ∧
    (arriveOne o rest probe s).job.halfRight = s.job.halfRight := by
  simp [arriveOne]

@[simp] theorem arriveTag_job (tag : Byte) (probe : Probe) (s : State) :
    (arriveTag tag probe s).job.remembered = s.job.remembered ∧ (arriveTag tag probe s).job.record = s.job.record ∧
    (arriveTag tag probe s).job.assembly = s.job.assembly ∧ (arriveTag tag probe s).job.refusal = s.job.refusal ∧
    (arriveTag tag probe s).job.halfLeft = s.job.halfLeft ∧ (arriveTag tag probe s).job.halfRight = s.job.halfRight := by
  unfold arriveTag
  (repeat' split) <;> simp

@[simp] theorem enterStopped_job (s : State) :
    (enterStopped s).job.record = s.job.record ∧ (enterStopped s).job.assembly = s.job.assembly ∧
    (enterStopped s).job.refusal = s.job.refusal ∧ (enterStopped s).job.halfLeft = s.job.halfLeft ∧
    (enterStopped s).job.halfRight = s.job.halfRight ∧ (enterStopped s).job.finishing = s.job.finishing := by
  simp [enterStopped]

@[simp] theorem stopPort_job (s : State) :
    (stopPort s).job.record = s.job.record ∧ (stopPort s).job.assembly = s.job.assembly ∧
    (stopPort s).job.refusal = s.job.refusal ∧ (stopPort s).job.halfLeft = s.job.halfLeft ∧
    (stopPort s).job.halfRight = s.job.halfRight ∧ (stopPort s).job.finishing = s.job.finishing := by
  unfold stopPort
  (repeat' split) <;> simp


end Sys2Proof.Machine
end

