-- ==== Sys2Proof/Laws/MotionFields.lean ====
section
/-! SUPPORT. Frame lemmas inside the Motion Port: the fields of it that an operation leaves as they are. -/

namespace Sys2Proof.Machine

open Sys2Proof

@[simp] theorem refreshLoad_motion (s : State) :
    (refreshLoad s).motion.outstanding = s.motion.outstanding ∧ (refreshLoad s).motion.nextTag = s.motion.nextTag ∧
    (refreshLoad s).motion.reference = s.motion.reference ∧ (refreshLoad s).motion.refArrived = s.motion.refArrived ∧
    (refreshLoad s).motion.halt = s.motion.halt ∧ (refreshLoad s).motion.held = s.motion.held ∧
    (refreshLoad s).motion.waiting = s.motion.waiting ∧ (refreshLoad s).motion.portLift = s.motion.portLift ∧
    (refreshLoad s).motion.closing = s.motion.closing ∧ (refreshLoad s).motion.spindle = s.motion.spindle ∧
    (refreshLoad s).motion.restNotice = s.motion.restNotice ∧ (refreshLoad s).motion.override = s.motion.override ∧
    (refreshLoad s).motion.faultStanding = s.motion.faultStanding ∧
    (refreshLoad s).motion.faultCode = s.motion.faultCode := by
  simp [refreshLoad]

@[simp] theorem setStation_motion (st : StationState) (s : State) :
    (setStation st s).motion.outstanding = s.motion.outstanding ∧
    (setStation st s).motion.nextTag = s.motion.nextTag ∧ (setStation st s).motion.reference = s.motion.reference ∧
    (setStation st s).motion.refArrived = s.motion.refArrived ∧ (setStation st s).motion.halt = s.motion.halt ∧
    (setStation st s).motion.held = s.motion.held ∧ (setStation st s).motion.waiting = s.motion.waiting ∧
    (setStation st s).motion.portLift = s.motion.portLift ∧ (setStation st s).motion.closing = s.motion.closing ∧
    (setStation st s).motion.spindle = s.motion.spindle ∧ (setStation st s).motion.restNotice = s.motion.restNotice ∧
    (setStation st s).motion.override = s.motion.override ∧
    (setStation st s).motion.faultStanding = s.motion.faultStanding ∧
    (setStation st s).motion.faultCode = s.motion.faultCode := by
  simp [setStation]

@[simp] theorem spindleOff_motion (s : State) :
    (spindleOff s).motion.outstanding = s.motion.outstanding ∧ (spindleOff s).motion.nextTag = s.motion.nextTag ∧
    (spindleOff s).motion.reference = s.motion.reference ∧ (spindleOff s).motion.refArrived = s.motion.refArrived ∧
    (spindleOff s).motion.halt = s.motion.halt ∧ (spindleOff s).motion.held = s.motion.held ∧
    (spindleOff s).motion.waiting = s.motion.waiting ∧ (spindleOff s).motion.portLift = s.motion.portLift ∧
    (spindleOff s).motion.closing = s.motion.closing ∧ (spindleOff s).motion.restNotice = s.motion.restNotice ∧
    (spindleOff s).motion.override = s.motion.override ∧
    (spindleOff s).motion.faultStanding = s.motion.faultStanding ∧
    (spindleOff s).motion.faultCode = s.motion.faultCode := by
  simp [spindleOff]

@[simp] theorem spindleOn_motion (s : State) :
    (spindleOn s).motion.outstanding = s.motion.outstanding ∧ (spindleOn s).motion.nextTag = s.motion.nextTag ∧
    (spindleOn s).motion.reference = s.motion.reference ∧ (spindleOn s).motion.refArrived = s.motion.refArrived ∧
    (spindleOn s).motion.halt = s.motion.halt ∧ (spindleOn s).motion.held = s.motion.held ∧
    (spindleOn s).motion.waiting = s.motion.waiting ∧ (spindleOn s).motion.portLift = s.motion.portLift ∧
    (spindleOn s).motion.closing = s.motion.closing ∧ (spindleOn s).motion.restNotice = s.motion.restNotice ∧
    (spindleOn s).motion.override = s.motion.override ∧ (spindleOn s).motion.highTimer = s.motion.highTimer ∧
    (spindleOn s).motion.lowTimer = s.motion.lowTimer ∧ (spindleOn s).motion.stallTimer = s.motion.stallTimer ∧
    (spindleOn s).motion.faultStanding = s.motion.faultStanding ∧ (spindleOn s).motion.faultCode = s.motion.faultCode := by
  unfold spindleOn
  (repeat' split) <;> simp

@[simp] theorem issue_motion (sp : Setpoint) (s : State) :
    (issue sp s).motion.halt = s.motion.halt ∧ (issue sp s).motion.held = s.motion.held ∧
    (issue sp s).motion.waiting = s.motion.waiting ∧ (issue sp s).motion.portLift = s.motion.portLift ∧
    (issue sp s).motion.closing = s.motion.closing ∧ (issue sp s).motion.spindle = s.motion.spindle ∧
    (issue sp s).motion.restNotice = s.motion.restNotice ∧ (issue sp s).motion.override = s.motion.override ∧
    (issue sp s).motion.highTimer = s.motion.highTimer ∧ (issue sp s).motion.lowTimer = s.motion.lowTimer ∧
    (issue sp s).motion.stallTimer = s.motion.stallTimer ∧
    (issue sp s).motion.faultStanding = s.motion.faultStanding ∧ (issue sp s).motion.faultCode = s.motion.faultCode := by
  unfold issue
  (repeat' split) <;> simp

@[simp] theorem issuePassed_motion (s : State) :
    (issuePassed s).motion.halt = s.motion.halt ∧ (issuePassed s).motion.held = s.motion.held ∧
    (issuePassed s).motion.waiting = s.motion.waiting ∧ (issuePassed s).motion.portLift = s.motion.portLift ∧
    (issuePassed s).motion.closing = s.motion.closing ∧ (issuePassed s).motion.spindle = s.motion.spindle ∧
    (issuePassed s).motion.restNotice = s.motion.restNotice ∧ (issuePassed s).motion.override = s.motion.override ∧
    (issuePassed s).motion.highTimer = s.motion.highTimer ∧ (issuePassed s).motion.lowTimer = s.motion.lowTimer ∧
    (issuePassed s).motion.stallTimer = s.motion.stallTimer ∧
    (issuePassed s).motion.faultStanding = s.motion.faultStanding ∧
    (issuePassed s).motion.faultCode = s.motion.faultCode := by
  unfold issuePassed
  (repeat' split) <;> simp

@[simp] theorem checkAndIssue_motion (sp : Setpoint) (s : State) :
    (checkAndIssue sp s).motion.halt = s.motion.halt ∧ (checkAndIssue sp s).motion.held = s.motion.held ∧
    (checkAndIssue sp s).motion.waiting = s.motion.waiting ∧
    (checkAndIssue sp s).motion.portLift = s.motion.portLift ∧
    (checkAndIssue sp s).motion.closing = s.motion.closing ∧ (checkAndIssue sp s).motion.spindle = s.motion.spindle ∧
    (checkAndIssue sp s).motion.restNotice = s.motion.restNotice ∧
    (checkAndIssue sp s).motion.override = s.motion.override ∧
    (checkAndIssue sp s).motion.highTimer = s.motion.highTimer ∧
    (checkAndIssue sp s).motion.lowTimer = s.motion.lowTimer ∧
    (checkAndIssue sp s).motion.stallTimer = s.motion.stallTimer ∧
    (checkAndIssue sp s).motion.faultStanding = s.motion.faultStanding ∧
    (checkAndIssue sp s).motion.faultCode = s.motion.faultCode := by
  simp [checkAndIssue]

@[simp] theorem endDrain_motion (s : State) :
    (endDrain s).motion.outstanding = s.motion.outstanding ∧ (endDrain s).motion.nextTag = s.motion.nextTag ∧
    (endDrain s).motion.reference = s.motion.reference ∧ (endDrain s).motion.refArrived = s.motion.refArrived ∧
    (endDrain s).motion.halt = s.motion.halt ∧ (endDrain s).motion.held = s.motion.held ∧
    (endDrain s).motion.waiting = s.motion.waiting ∧ (endDrain s).motion.portLift = s.motion.portLift ∧
    (endDrain s).motion.closing = s.motion.closing ∧ (endDrain s).motion.spindle = s.motion.spindle ∧
    (endDrain s).motion.restNotice = s.motion.restNotice ∧ (endDrain s).motion.override = s.motion.override ∧
    (endDrain s).motion.faultStanding = s.motion.faultStanding ∧ (endDrain s).motion.faultCode = s.motion.faultCode := by
  unfold endDrain
  (repeat' split) <;> simp

@[simp] theorem closingDone_motion (c : ClosingLift) (s : State) :
    (closingDone c s).motion.outstanding = s.motion.outstanding ∧
    (closingDone c s).motion.nextTag = s.motion.nextTag ∧ (closingDone c s).motion.reference = s.motion.reference ∧
    (closingDone c s).motion.refArrived = s.motion.refArrived ∧ (closingDone c s).motion.halt = s.motion.halt ∧
    (closingDone c s).motion.held = s.motion.held ∧ (closingDone c s).motion.waiting = s.motion.waiting ∧
    (closingDone c s).motion.portLift = s.motion.portLift ∧ (closingDone c s).motion.closing = s.motion.closing ∧
    (closingDone c s).motion.restNotice = s.motion.restNotice ∧
    (closingDone c s).motion.override = s.motion.override ∧
    (closingDone c s).motion.faultStanding = s.motion.faultStanding ∧
    (closingDone c s).motion.faultCode = s.motion.faultCode := by
  unfold closingDone
  (repeat' split) <;> simp

@[simp] theorem closingDue_motion (c : ClosingLift) (s : State) :
    (closingDue c s).motion.outstanding = s.motion.outstanding ∧ (closingDue c s).motion.nextTag = s.motion.nextTag ∧
    (closingDue c s).motion.reference = s.motion.reference ∧
    (closingDue c s).motion.refArrived = s.motion.refArrived ∧ (closingDue c s).motion.held = s.motion.held ∧
    (closingDue c s).motion.waiting = s.motion.waiting ∧ (closingDue c s).motion.spindle = s.motion.spindle ∧
    (closingDue c s).motion.restNotice = s.motion.restNotice ∧ (closingDue c s).motion.override = s.motion.override ∧
    (closingDue c s).motion.highTimer = s.motion.highTimer ∧ (closingDue c s).motion.lowTimer = s.motion.lowTimer ∧
    (closingDue c s).motion.stallTimer = s.motion.stallTimer ∧
    (closingDue c s).motion.faultStanding = s.motion.faultStanding ∧
    (closingDue c s).motion.faultCode = s.motion.faultCode := by
  simp [closingDue]

@[simp] theorem pumpClosing_motion (s : State) :
    (pumpClosing s).motion.halt = s.motion.halt ∧ (pumpClosing s).motion.held = s.motion.held ∧
    (pumpClosing s).motion.waiting = s.motion.waiting ∧ (pumpClosing s).motion.portLift = s.motion.portLift ∧
    (pumpClosing s).motion.restNotice = s.motion.restNotice ∧ (pumpClosing s).motion.override = s.motion.override ∧
    (pumpClosing s).motion.faultStanding = s.motion.faultStanding ∧
    (pumpClosing s).motion.faultCode = s.motion.faultCode := by
  unfold pumpClosing
  (repeat' split) <;> simp

@[simp] theorem pumpPortLift_motion (s : State) :
    (pumpPortLift s).motion.halt = s.motion.halt ∧ (pumpPortLift s).motion.held = s.motion.held ∧
    (pumpPortLift s).motion.waiting = s.motion.waiting ∧ (pumpPortLift s).motion.closing = s.motion.closing ∧
    (pumpPortLift s).motion.spindle = s.motion.spindle ∧ (pumpPortLift s).motion.restNotice = s.motion.restNotice ∧
    (pumpPortLift s).motion.override = s.motion.override ∧ (pumpPortLift s).motion.highTimer = s.motion.highTimer ∧
    (pumpPortLift s).motion.lowTimer = s.motion.lowTimer ∧ (pumpPortLift s).motion.stallTimer = s.motion.stallTimer ∧
    (pumpPortLift s).motion.faultStanding = s.motion.faultStanding ∧
    (pumpPortLift s).motion.faultCode = s.motion.faultCode := by
  unfold pumpPortLift
  (repeat' split) <;> simp

@[simp] theorem pumpLifts_motion (s : State) :
    (pumpLifts s).motion.halt = s.motion.halt ∧ (pumpLifts s).motion.held = s.motion.held ∧
    (pumpLifts s).motion.waiting = s.motion.waiting ∧ (pumpLifts s).motion.restNotice = s.motion.restNotice ∧
    (pumpLifts s).motion.override = s.motion.override ∧ (pumpLifts s).motion.faultStanding = s.motion.faultStanding ∧
    (pumpLifts s).motion.faultCode = s.motion.faultCode := by
  simp [pumpLifts]

@[simp] theorem pumpMoves_motion (s : State) :
    (pumpMoves s).motion.outstanding = s.motion.outstanding ∧ (pumpMoves s).motion.nextTag = s.motion.nextTag ∧
    (pumpMoves s).motion.reference = s.motion.reference ∧ (pumpMoves s).motion.refArrived = s.motion.refArrived ∧
    (pumpMoves s).motion.halt = s.motion.halt ∧ (pumpMoves s).motion.held = s.motion.held ∧
    (pumpMoves s).motion.portLift = s.motion.portLift ∧ (pumpMoves s).motion.closing = s.motion.closing ∧
    (pumpMoves s).motion.spindle = s.motion.spindle ∧ (pumpMoves s).motion.restNotice = s.motion.restNotice ∧
    (pumpMoves s).motion.override = s.motion.override ∧ (pumpMoves s).motion.highTimer = s.motion.highTimer ∧
    (pumpMoves s).motion.lowTimer = s.motion.lowTimer ∧ (pumpMoves s).motion.stallTimer = s.motion.stallTimer ∧
    (pumpMoves s).motion.faultStanding = s.motion.faultStanding ∧ (pumpMoves s).motion.faultCode = s.motion.faultCode := by
  unfold pumpMoves
  (repeat' split) <;> simp

@[simp] theorem commandMove_motion (sp : Setpoint) (s : State) :
    (commandMove sp s).motion.outstanding = s.motion.outstanding ∧
    (commandMove sp s).motion.nextTag = s.motion.nextTag ∧ (commandMove sp s).motion.reference = s.motion.reference ∧
    (commandMove sp s).motion.refArrived = s.motion.refArrived ∧ (commandMove sp s).motion.halt = s.motion.halt ∧
    (commandMove sp s).motion.held = s.motion.held ∧ (commandMove sp s).motion.portLift = s.motion.portLift ∧
    (commandMove sp s).motion.closing = s.motion.closing ∧ (commandMove sp s).motion.spindle = s.motion.spindle ∧
    (commandMove sp s).motion.restNotice = s.motion.restNotice ∧
    (commandMove sp s).motion.override = s.motion.override ∧
    (commandMove sp s).motion.highTimer = s.motion.highTimer ∧
    (commandMove sp s).motion.lowTimer = s.motion.lowTimer ∧
    (commandMove sp s).motion.stallTimer = s.motion.stallTimer ∧
    (commandMove sp s).motion.faultStanding = s.motion.faultStanding ∧
    (commandMove sp s).motion.faultCode = s.motion.faultCode := by
  simp [commandMove]

@[simp] theorem pumpPort_motion (s : State) :
    (pumpPort s).motion.halt = s.motion.halt ∧ (pumpPort s).motion.held = s.motion.held ∧
    (pumpPort s).motion.restNotice = s.motion.restNotice ∧ (pumpPort s).motion.override = s.motion.override ∧
    (pumpPort s).motion.faultStanding = s.motion.faultStanding ∧ (pumpPort s).motion.faultCode = s.motion.faultCode := by
  simp [pumpPort]

@[simp] theorem driveFault_motion (code : Byte) (s : State) :
    (driveFault code s).motion.outstanding = s.motion.outstanding ∧
    (driveFault code s).motion.nextTag = s.motion.nextTag ∧
    (driveFault code s).motion.reference = s.motion.reference ∧
    (driveFault code s).motion.refArrived = s.motion.refArrived ∧ (driveFault code s).motion.held = s.motion.held ∧
    (driveFault code s).motion.waiting = s.motion.waiting ∧ (driveFault code s).motion.portLift = s.motion.portLift ∧
    (driveFault code s).motion.closing = s.motion.closing ∧
    (driveFault code s).motion.restNotice = s.motion.restNotice ∧
    (driveFault code s).motion.override = s.motion.override := by
  unfold driveFault
  dsimp only
  (repeat' split) <;> simp

@[simp] theorem testDrain_motion (s : State) :
    (testDrain s).motion.outstanding = s.motion.outstanding ∧ (testDrain s).motion.nextTag = s.motion.nextTag ∧
    (testDrain s).motion.reference = s.motion.reference ∧ (testDrain s).motion.refArrived = s.motion.refArrived ∧
    (testDrain s).motion.held = s.motion.held ∧ (testDrain s).motion.waiting = s.motion.waiting ∧
    (testDrain s).motion.spindle = s.motion.spindle ∧ (testDrain s).motion.restNotice = s.motion.restNotice ∧
    (testDrain s).motion.override = s.motion.override ∧ (testDrain s).motion.highTimer = s.motion.highTimer ∧
    (testDrain s).motion.lowTimer = s.motion.lowTimer ∧ (testDrain s).motion.stallTimer = s.motion.stallTimer ∧
    (testDrain s).motion.faultStanding = s.motion.faultStanding ∧ (testDrain s).motion.faultCode = s.motion.faultCode := by
  unfold testDrain
  (repeat' split) <;> simp

@[simp] theorem completeMarker_motion (e : Entry) (s : State) :
    (completeMarker e s).motion.outstanding = s.motion.outstanding ∧
    (completeMarker e s).motion.nextTag = s.motion.nextTag ∧
    (completeMarker e s).motion.reference = s.motion.reference ∧
    (completeMarker e s).motion.refArrived = s.motion.refArrived ∧ (completeMarker e s).motion.held = s.motion.held ∧
    (completeMarker e s).motion.waiting = s.motion.waiting ∧ (completeMarker e s).motion.spindle = s.motion.spindle ∧
    (completeMarker e s).motion.restNotice = s.motion.restNotice ∧
    (completeMarker e s).motion.override = s.motion.override ∧
    (completeMarker e s).motion.highTimer = s.motion.highTimer ∧
    (completeMarker e s).motion.lowTimer = s.motion.lowTimer ∧
    (completeMarker e s).motion.stallTimer = s.motion.stallTimer ∧
    (completeMarker e s).motion.faultStanding = s.motion.faultStanding ∧
    (completeMarker e s).motion.faultCode = s.motion.faultCode := by
  simp [completeMarker]

@[simp] theorem openPass_motion (e : Entry) (s : State) :
    (openPass e s).motion.outstanding = s.motion.outstanding ∧ (openPass e s).motion.nextTag = s.motion.nextTag ∧
    (openPass e s).motion.reference = s.motion.reference ∧ (openPass e s).motion.refArrived = s.motion.refArrived ∧
    (openPass e s).motion.held = s.motion.held ∧ (openPass e s).motion.waiting = s.motion.waiting ∧
    (openPass e s).motion.spindle = s.motion.spindle ∧ (openPass e s).motion.restNotice = s.motion.restNotice ∧
    (openPass e s).motion.override = s.motion.override ∧ (openPass e s).motion.highTimer = s.motion.highTimer ∧
    (openPass e s).motion.lowTimer = s.motion.lowTimer ∧ (openPass e s).motion.stallTimer = s.motion.stallTimer ∧
    (openPass e s).motion.faultStanding = s.motion.faultStanding ∧
    (openPass e s).motion.faultCode = s.motion.faultCode := by
  unfold openPass
  (repeat' split) <;> simp

@[simp] theorem completeResting_motion (e : Entry) (s : State) :
    (completeResting e s).motion.outstanding = s.motion.outstanding ∧
    (completeResting e s).motion.nextTag = s.motion.nextTag ∧
    (completeResting e s).motion.reference = s.motion.reference ∧
    (completeResting e s).motion.refArrived = s.motion.refArrived ∧
    (completeResting e s).motion.held = s.motion.held ∧ (completeResting e s).motion.waiting = s.motion.waiting ∧
    (completeResting e s).motion.spindle = s.motion.spindle ∧
    (completeResting e s).motion.restNotice = s.motion.restNotice ∧
    (completeResting e s).motion.override = s.motion.override ∧
    (completeResting e s).motion.highTimer = s.motion.highTimer ∧
    (completeResting e s).motion.lowTimer = s.motion.lowTimer ∧
    (completeResting e s).motion.stallTimer = s.motion.stallTimer ∧
    (completeResting e s).motion.faultStanding = s.motion.faultStanding ∧
    (completeResting e s).motion.faultCode = s.motion.faultCode := by
  unfold completeResting
  (repeat' split) <;> simp

@[simp] theorem restNotice_motion (s : State) :
    (restNotice s).motion.outstanding = s.motion.outstanding ∧ (restNotice s).motion.nextTag = s.motion.nextTag ∧
    (restNotice s).motion.reference = s.motion.reference ∧ (restNotice s).motion.refArrived = s.motion.refArrived ∧
    (restNotice s).motion.held = s.motion.held ∧ (restNotice s).motion.waiting = s.motion.waiting ∧
    (restNotice s).motion.spindle = s.motion.spindle ∧ (restNotice s).motion.override = s.motion.override ∧
    (restNotice s).motion.highTimer = s.motion.highTimer ∧ (restNotice s).motion.lowTimer = s.motion.lowTimer ∧
    (restNotice s).motion.stallTimer = s.motion.stallTimer ∧
    (restNotice s).motion.faultStanding = s.motion.faultStanding ∧
    (restNotice s).motion.faultCode = s.motion.faultCode := by
  unfold restNotice
  dsimp only
  (repeat' split) <;> simp

@[simp] theorem advanceStep_motion (c : CarverJob) (k : Nat) (s : State) :
    (advanceStep c k s).motion.outstanding = s.motion.outstanding ∧
    (advanceStep c k s).motion.nextTag = s.motion.nextTag ∧
    (advanceStep c k s).motion.reference = s.motion.reference ∧
    (advanceStep c k s).motion.refArrived = s.motion.refArrived ∧ (advanceStep c k s).motion.held = s.motion.held ∧
    (advanceStep c k s).motion.waiting = s.motion.waiting ∧ (advanceStep c k s).motion.spindle = s.motion.spindle ∧
    (advanceStep c k s).motion.override = s.motion.override ∧
    (advanceStep c k s).motion.highTimer = s.motion.highTimer ∧
    (advanceStep c k s).motion.lowTimer = s.motion.lowTimer ∧
    (advanceStep c k s).motion.stallTimer = s.motion.stallTimer ∧
    (advanceStep c k s).motion.faultStanding = s.motion.faultStanding ∧
    (advanceStep c k s).motion.faultCode = s.motion.faultCode := by
  unfold advanceStep
  (repeat' split) <;> simp

@[simp] theorem decideStep_motion (s : State) :
    (decideStep s).motion.outstanding = s.motion.outstanding ∧ (decideStep s).motion.nextTag = s.motion.nextTag ∧
    (decideStep s).motion.reference = s.motion.reference ∧ (decideStep s).motion.refArrived = s.motion.refArrived ∧
    (decideStep s).motion.held = s.motion.held ∧ (decideStep s).motion.waiting = s.motion.waiting ∧
    (decideStep s).motion.spindle = s.motion.spindle ∧ (decideStep s).motion.override = s.motion.override ∧
    (decideStep s).motion.highTimer = s.motion.highTimer ∧ (decideStep s).motion.lowTimer = s.motion.lowTimer ∧
    (decideStep s).motion.stallTimer = s.motion.stallTimer ∧
    (decideStep s).motion.faultStanding = s.motion.faultStanding ∧
    (decideStep s).motion.faultCode = s.motion.faultCode := by
  unfold decideStep
  dsimp only
  (repeat' split) <;> simp

@[simp] theorem handHead_motion (e : Entry) (s : State) :
    (handHead e s).motion.outstanding = s.motion.outstanding ∧ (handHead e s).motion.nextTag = s.motion.nextTag ∧
    (handHead e s).motion.reference = s.motion.reference ∧ (handHead e s).motion.refArrived = s.motion.refArrived ∧
    (handHead e s).motion.held = s.motion.held ∧ (handHead e s).motion.waiting = s.motion.waiting ∧
    (handHead e s).motion.spindle = s.motion.spindle ∧ (handHead e s).motion.restNotice = s.motion.restNotice ∧
    (handHead e s).motion.override = s.motion.override ∧ (handHead e s).motion.highTimer = s.motion.highTimer ∧
    (handHead e s).motion.lowTimer = s.motion.lowTimer ∧ (handHead e s).motion.stallTimer = s.motion.stallTimer ∧
    (handHead e s).motion.faultStanding = s.motion.faultStanding ∧
    (handHead e s).motion.faultCode = s.motion.faultCode := by
  unfold handHead
  (repeat' split) <;> simp

@[simp] theorem completeIssued_motion (i : Issued) (rest : List Issued) (s : State) :
    (completeIssued i rest s).motion.outstanding = s.motion.outstanding ∧
    (completeIssued i rest s).motion.nextTag = s.motion.nextTag ∧
    (completeIssued i rest s).motion.reference = s.motion.reference ∧
    (completeIssued i rest s).motion.refArrived = s.motion.refArrived ∧
    (completeIssued i rest s).motion.held = s.motion.held ∧
    (completeIssued i rest s).motion.waiting = s.motion.waiting ∧
    (completeIssued i rest s).motion.spindle = s.motion.spindle ∧
    (completeIssued i rest s).motion.restNotice = s.motion.restNotice ∧
    (completeIssued i rest s).motion.override = s.motion.override ∧
    (completeIssued i rest s).motion.highTimer = s.motion.highTimer ∧
    (completeIssued i rest s).motion.lowTimer = s.motion.lowTimer ∧
    (completeIssued i rest s).motion.stallTimer = s.motion.stallTimer ∧
    (completeIssued i rest s).motion.faultStanding = s.motion.faultStanding ∧
    (completeIssued i rest s).motion.faultCode = s.motion.faultCode := by
  simp [completeIssued]

@[simp] theorem arriveEntry_motion (tag : Byte) (s : State) :
    (arriveEntry tag s).motion.outstanding = s.motion.outstanding ∧
    (arriveEntry tag s).motion.nextTag = s.motion.nextTag ∧
    (arriveEntry tag s).motion.reference = s.motion.reference ∧
    (arriveEntry tag s).motion.refArrived = s.motion.refArrived ∧ (arriveEntry tag s).motion.held = s.motion.held ∧
    (arriveEntry tag s).motion.waiting = s.motion.waiting ∧ (arriveEntry tag s).motion.spindle = s.motion.spindle ∧
    (arriveEntry tag s).motion.restNotice = s.motion.restNotice ∧
    (arriveEntry tag s).motion.override = s.motion.override ∧
    (arriveEntry tag s).motion.highTimer = s.motion.highTimer ∧
    (arriveEntry tag s).motion.lowTimer = s.motion.lowTimer ∧
    (arriveEntry tag s).motion.stallTimer = s.motion.stallTimer ∧
    (arriveEntry tag s).motion.faultStanding = s.motion.faultStanding ∧
    (arriveEntry tag s).motion.faultCode = s.motion.faultCode := by
  unfold arriveEntry
  (repeat' split) <;> simp

@[simp] theorem nextPoint_motion (r : JobRecord) (t : TracerJob) (s : State) :
    (nextPoint r t s).motion.outstanding = s.motion.outstanding ∧
    (nextPoint r t s).motion.nextTag = s.motion.nextTag ∧ (nextPoint r t s).motion.reference = s.motion.reference ∧
    (nextPoint r t s).motion.refArrived = s.motion.refArrived ∧ (nextPoint r t s).motion.halt = s.motion.halt ∧
    (nextPoint r t s).motion.held = s.motion.held ∧ (nextPoint r t s).motion.portLift = s.motion.portLift ∧
    (nextPoint r t s).motion.closing = s.motion.closing ∧ (nextPoint r t s).motion.spindle = s.motion.spindle ∧
    (nextPoint r t s).motion.restNotice = s.motion.restNotice ∧
    (nextPoint r t s).motion.override = s.motion.override ∧ (nextPoint r t s).motion.highTimer = s.motion.highTimer ∧
    (nextPoint r t s).motion.lowTimer = s.motion.lowTimer ∧
    (nextPoint r t s).motion.stallTimer = s.motion.stallTimer ∧
    (nextPoint r t s).motion.faultStanding = s.motion.faultStanding ∧
    (nextPoint r t s).motion.faultCode = s.motion.faultCode := by
  unfold nextPoint
  dsimp only
  (repeat' split) <;> simp

@[simp] theorem beginLive_motion (r : JobRecord) (t : TracerJob) (p c : Nat) (s : State) :
    (beginLive r t p c s).motion.outstanding = s.motion.outstanding ∧
    (beginLive r t p c s).motion.nextTag = s.motion.nextTag ∧
    (beginLive r t p c s).motion.reference = s.motion.reference ∧
    (beginLive r t p c s).motion.refArrived = s.motion.refArrived ∧
    (beginLive r t p c s).motion.halt = s.motion.halt ∧ (beginLive r t p c s).motion.held = s.motion.held ∧
    (beginLive r t p c s).motion.portLift = s.motion.portLift ∧
    (beginLive r t p c s).motion.closing = s.motion.closing ∧
    (beginLive r t p c s).motion.spindle = s.motion.spindle ∧
    (beginLive r t p c s).motion.restNotice = s.motion.restNotice ∧
    (beginLive r t p c s).motion.override = s.motion.override ∧
    (beginLive r t p c s).motion.highTimer = s.motion.highTimer ∧
    (beginLive r t p c s).motion.lowTimer = s.motion.lowTimer ∧
    (beginLive r t p c s).motion.stallTimer = s.motion.stallTimer ∧
    (beginLive r t p c s).motion.faultStanding = s.motion.faultStanding ∧
    (beginLive r t p c s).motion.faultCode = s.motion.faultCode := by
  unfold beginLive
  (repeat' split) <;> simp

@[simp] theorem orderPass_motion (p c : Nat) (s : State) :
    (orderPass p c s).motion.outstanding = s.motion.outstanding ∧
    (orderPass p c s).motion.nextTag = s.motion.nextTag ∧ (orderPass p c s).motion.reference = s.motion.reference ∧
    (orderPass p c s).motion.refArrived = s.motion.refArrived ∧ (orderPass p c s).motion.halt = s.motion.halt ∧
    (orderPass p c s).motion.held = s.motion.held ∧ (orderPass p c s).motion.portLift = s.motion.portLift ∧
    (orderPass p c s).motion.closing = s.motion.closing ∧ (orderPass p c s).motion.spindle = s.motion.spindle ∧
    (orderPass p c s).motion.restNotice = s.motion.restNotice ∧
    (orderPass p c s).motion.override = s.motion.override ∧ (orderPass p c s).motion.highTimer = s.motion.highTimer ∧
    (orderPass p c s).motion.lowTimer = s.motion.lowTimer ∧
    (orderPass p c s).motion.stallTimer = s.motion.stallTimer ∧
    (orderPass p c s).motion.faultStanding = s.motion.faultStanding ∧
    (orderPass p c s).motion.faultCode = s.motion.faultCode := by
  unfold orderPass
  dsimp only
  (repeat' split) <;> simp

@[simp] theorem offerFinish_motion (s : State) :
    (offerFinish s).motion.outstanding = s.motion.outstanding ∧ (offerFinish s).motion.nextTag = s.motion.nextTag ∧
    (offerFinish s).motion.reference = s.motion.reference ∧ (offerFinish s).motion.refArrived = s.motion.refArrived ∧
    (offerFinish s).motion.halt = s.motion.halt ∧ (offerFinish s).motion.held = s.motion.held ∧
    (offerFinish s).motion.waiting = s.motion.waiting ∧ (offerFinish s).motion.portLift = s.motion.portLift ∧
    (offerFinish s).motion.closing = s.motion.closing ∧ (offerFinish s).motion.spindle = s.motion.spindle ∧
    (offerFinish s).motion.restNotice = s.motion.restNotice ∧ (offerFinish s).motion.override = s.motion.override ∧
    (offerFinish s).motion.faultStanding = s.motion.faultStanding ∧
    (offerFinish s).motion.faultCode = s.motion.faultCode := by
  unfold offerFinish
  (repeat' split) <;> simp

@[simp] theorem decidePass_motion (p : Nat) (s : State) :
    (decidePass p s).motion.outstanding = s.motion.outstanding ∧ (decidePass p s).motion.nextTag = s.motion.nextTag ∧
    (decidePass p s).motion.reference = s.motion.reference ∧
    (decidePass p s).motion.refArrived = s.motion.refArrived ∧ (decidePass p s).motion.halt = s.motion.halt ∧
    (decidePass p s).motion.held = s.motion.held ∧ (decidePass p s).motion.portLift = s.motion.portLift ∧
    (decidePass p s).motion.closing = s.motion.closing ∧ (decidePass p s).motion.spindle = s.motion.spindle ∧
    (decidePass p s).motion.restNotice = s.motion.restNotice ∧ (decidePass p s).motion.override = s.motion.override ∧
    (decidePass p s).motion.faultStanding = s.motion.faultStanding ∧
    (decidePass p s).motion.faultCode = s.motion.faultCode := by
  unfold decidePass
  (repeat' split) <;> simp

@[simp] theorem testCollection_motion (s : State) :
    (testCollection s).motion.outstanding = s.motion.outstanding ∧
    (testCollection s).motion.nextTag = s.motion.nextTag ∧ (testCollection s).motion.reference = s.motion.reference ∧
    (testCollection s).motion.refArrived = s.motion.refArrived ∧ (testCollection s).motion.halt = s.motion.halt ∧
    (testCollection s).motion.held = s.motion.held ∧ (testCollection s).motion.portLift = s.motion.portLift ∧
    (testCollection s).motion.closing = s.motion.closing ∧ (testCollection s).motion.spindle = s.motion.spindle ∧
    (testCollection s).motion.restNotice = s.motion.restNotice ∧
    (testCollection s).motion.override = s.motion.override ∧
    (testCollection s).motion.faultStanding = s.motion.faultStanding ∧
    (testCollection s).motion.faultCode = s.motion.faultCode := by
  unfold testCollection
  (repeat' split) <;> simp

@[simp] theorem enterCollecting_motion (r : JobRecord) (t : TracerJob) (s : State) :
    (enterCollecting r t s).motion.outstanding = s.motion.outstanding ∧
    (enterCollecting r t s).motion.nextTag = s.motion.nextTag ∧
    (enterCollecting r t s).motion.reference = s.motion.reference ∧
    (enterCollecting r t s).motion.refArrived = s.motion.refArrived ∧
    (enterCollecting r t s).motion.halt = s.motion.halt ∧ (enterCollecting r t s).motion.held = s.motion.held ∧
    (enterCollecting r t s).motion.portLift = s.motion.portLift ∧
    (enterCollecting r t s).motion.closing = s.motion.closing ∧
    (enterCollecting r t s).motion.spindle = s.motion.spindle ∧
    (enterCollecting r t s).motion.restNotice = s.motion.restNotice ∧
    (enterCollecting r t s).motion.override = s.motion.override ∧
    (enterCollecting r t s).motion.faultStanding = s.motion.faultStanding ∧
    (enterCollecting r t s).motion.faultCode = s.motion.faultCode := by
  unfold enterCollecting
  (repeat' split) <;> simp

@[simp] theorem enrolmentResult_motion (s : State) :
    (enrolmentResult s).motion.outstanding = s.motion.outstanding ∧
    (enrolmentResult s).motion.nextTag = s.motion.nextTag ∧
    (enrolmentResult s).motion.reference = s.motion.reference ∧
    (enrolmentResult s).motion.refArrived = s.motion.refArrived ∧ (enrolmentResult s).motion.halt = s.motion.halt ∧
    (enrolmentResult s).motion.held = s.motion.held ∧ (enrolmentResult s).motion.portLift = s.motion.portLift ∧
    (enrolmentResult s).motion.closing = s.motion.closing ∧ (enrolmentResult s).motion.spindle = s.motion.spindle ∧
    (enrolmentResult s).motion.restNotice = s.motion.restNotice ∧
    (enrolmentResult s).motion.override = s.motion.override ∧
    (enrolmentResult s).motion.faultStanding = s.motion.faultStanding ∧
    (enrolmentResult s).motion.faultCode = s.motion.faultCode := by
  unfold enrolmentResult
  dsimp only
  (repeat' split) <;> simp

@[simp] theorem endEnrolment_motion (s : State) :
    (endEnrolment s).motion.outstanding = s.motion.outstanding ∧ (endEnrolment s).motion.nextTag = s.motion.nextTag ∧
    (endEnrolment s).motion.reference = s.motion.reference ∧
    (endEnrolment s).motion.refArrived = s.motion.refArrived ∧ (endEnrolment s).motion.halt = s.motion.halt ∧
    (endEnrolment s).motion.held = s.motion.held ∧ (endEnrolment s).motion.portLift = s.motion.portLift ∧
    (endEnrolment s).motion.closing = s.motion.closing ∧ (endEnrolment s).motion.spindle = s.motion.spindle ∧
    (endEnrolment s).motion.restNotice = s.motion.restNotice ∧ (endEnrolment s).motion.override = s.motion.override ∧
    (endEnrolment s).motion.faultStanding = s.motion.faultStanding ∧
    (endEnrolment s).motion.faultCode = s.motion.faultCode := by
  unfold endEnrolment
  (repeat' split) <;> simp

@[simp] theorem testEnrolment_motion (s : State) :
    (testEnrolment s).motion.outstanding = s.motion.outstanding ∧
    (testEnrolment s).motion.nextTag = s.motion.nextTag ∧ (testEnrolment s).motion.reference = s.motion.reference ∧
    (testEnrolment s).motion.refArrived = s.motion.refArrived ∧ (testEnrolment s).motion.halt = s.motion.halt ∧
    (testEnrolment s).motion.held = s.motion.held ∧ (testEnrolment s).motion.portLift = s.motion.portLift ∧
    (testEnrolment s).motion.closing = s.motion.closing ∧ (testEnrolment s).motion.spindle = s.motion.spindle ∧
    (testEnrolment s).motion.restNotice = s.motion.restNotice ∧
    (testEnrolment s).motion.override = s.motion.override ∧
    (testEnrolment s).motion.faultStanding = s.motion.faultStanding ∧
    (testEnrolment s).motion.faultCode = s.motion.faultCode := by
  unfold testEnrolment
  (repeat' split) <;> simp

@[simp] theorem afterLive_motion (j : JobRecord) (t : TracerJob) (r : TraceRecord) (s : State) :
    (afterLive j t r s).motion.outstanding = s.motion.outstanding ∧
    (afterLive j t r s).motion.nextTag = s.motion.nextTag ∧
    (afterLive j t r s).motion.reference = s.motion.reference ∧
    (afterLive j t r s).motion.refArrived = s.motion.refArrived ∧ (afterLive j t r s).motion.halt = s.motion.halt ∧
    (afterLive j t r s).motion.held = s.motion.held ∧ (afterLive j t r s).motion.portLift = s.motion.portLift ∧
    (afterLive j t r s).motion.closing = s.motion.closing ∧ (afterLive j t r s).motion.spindle = s.motion.spindle ∧
    (afterLive j t r s).motion.restNotice = s.motion.restNotice ∧
    (afterLive j t r s).motion.override = s.motion.override ∧
    (afterLive j t r s).motion.faultStanding = s.motion.faultStanding ∧
    (afterLive j t r s).motion.faultCode = s.motion.faultCode := by
  unfold afterLive
  (repeat' split) <;> simp

@[simp] theorem afterReplay_motion (j : JobRecord) (t : TracerJob) (c : Cursor) (s : State) :
    (afterReplay j t c s).motion.outstanding = s.motion.outstanding ∧
    (afterReplay j t c s).motion.nextTag = s.motion.nextTag ∧
    (afterReplay j t c s).motion.reference = s.motion.reference ∧
    (afterReplay j t c s).motion.refArrived = s.motion.refArrived ∧
    (afterReplay j t c s).motion.halt = s.motion.halt ∧ (afterReplay j t c s).motion.held = s.motion.held ∧
    (afterReplay j t c s).motion.portLift = s.motion.portLift ∧
    (afterReplay j t c s).motion.closing = s.motion.closing ∧
    (afterReplay j t c s).motion.spindle = s.motion.spindle ∧
    (afterReplay j t c s).motion.restNotice = s.motion.restNotice ∧
    (afterReplay j t c s).motion.override = s.motion.override ∧
    (afterReplay j t c s).motion.faultStanding = s.motion.faultStanding ∧
    (afterReplay j t c s).motion.faultCode = s.motion.faultCode := by
  unfold afterReplay
  (repeat' split) <;> simp

@[simp] theorem emitHead_motion (s : State) :
    (emitHead s).motion.outstanding = s.motion.outstanding ∧ (emitHead s).motion.nextTag = s.motion.nextTag ∧
    (emitHead s).motion.reference = s.motion.reference ∧ (emitHead s).motion.refArrived = s.motion.refArrived ∧
    (emitHead s).motion.halt = s.motion.halt ∧ (emitHead s).motion.held = s.motion.held ∧
    (emitHead s).motion.portLift = s.motion.portLift ∧ (emitHead s).motion.closing = s.motion.closing ∧
    (emitHead s).motion.spindle = s.motion.spindle ∧ (emitHead s).motion.restNotice = s.motion.restNotice ∧
    (emitHead s).motion.override = s.motion.override ∧ (emitHead s).motion.faultStanding = s.motion.faultStanding ∧
    (emitHead s).motion.faultCode = s.motion.faultCode := by
  unfold emitHead
  dsimp only
  (repeat' split) <;> simp

@[simp] theorem creditUpdate_motion (e : LagEntry) (c : CreditReport) (s : State) :
    (creditUpdate e c s).motion.outstanding = s.motion.outstanding ∧
    (creditUpdate e c s).motion.nextTag = s.motion.nextTag ∧
    (creditUpdate e c s).motion.reference = s.motion.reference ∧
    (creditUpdate e c s).motion.refArrived = s.motion.refArrived ∧ (creditUpdate e c s).motion.halt = s.motion.halt ∧
    (creditUpdate e c s).motion.held = s.motion.held ∧ (creditUpdate e c s).motion.portLift = s.motion.portLift ∧
    (creditUpdate e c s).motion.closing = s.motion.closing ∧ (creditUpdate e c s).motion.spindle = s.motion.spindle ∧
    (creditUpdate e c s).motion.restNotice = s.motion.restNotice ∧
    (creditUpdate e c s).motion.override = s.motion.override ∧
    (creditUpdate e c s).motion.faultStanding = s.motion.faultStanding ∧
    (creditUpdate e c s).motion.faultCode = s.motion.faultCode := by
  simp [creditUpdate]

@[simp] theorem creditFromEntry_motion (e : LagEntry) (c : CreditReport) (s : State) :
    (creditFromEntry e c s).motion.outstanding = s.motion.outstanding ∧
    (creditFromEntry e c s).motion.nextTag = s.motion.nextTag ∧
    (creditFromEntry e c s).motion.reference = s.motion.reference ∧
    (creditFromEntry e c s).motion.refArrived = s.motion.refArrived ∧
    (creditFromEntry e c s).motion.halt = s.motion.halt ∧ (creditFromEntry e c s).motion.held = s.motion.held ∧
    (creditFromEntry e c s).motion.portLift = s.motion.portLift ∧
    (creditFromEntry e c s).motion.closing = s.motion.closing ∧
    (creditFromEntry e c s).motion.spindle = s.motion.spindle ∧
    (creditFromEntry e c s).motion.restNotice = s.motion.restNotice ∧
    (creditFromEntry e c s).motion.override = s.motion.override ∧
    (creditFromEntry e c s).motion.faultStanding = s.motion.faultStanding ∧
    (creditFromEntry e c s).motion.faultCode = s.motion.faultCode := by
  unfold creditFromEntry
  (repeat' split) <;> simp

@[simp] theorem admitCarver_motion (c : CreditReport) (s : State) :
    (admitCarver c s).motion.outstanding = s.motion.outstanding ∧
    (admitCarver c s).motion.nextTag = s.motion.nextTag ∧ (admitCarver c s).motion.reference = s.motion.reference ∧
    (admitCarver c s).motion.refArrived = s.motion.refArrived ∧ (admitCarver c s).motion.halt = s.motion.halt ∧
    (admitCarver c s).motion.held = s.motion.held ∧ (admitCarver c s).motion.portLift = s.motion.portLift ∧
    (admitCarver c s).motion.closing = s.motion.closing ∧ (admitCarver c s).motion.spindle = s.motion.spindle ∧
    (admitCarver c s).motion.restNotice = s.motion.restNotice ∧
    (admitCarver c s).motion.override = s.motion.override ∧
    (admitCarver c s).motion.faultStanding = s.motion.faultStanding ∧
    (admitCarver c s).motion.faultCode = s.motion.faultCode := by
  simp [admitCarver]

@[simp] theorem takeCredit_motion (c : CreditReport) (s : State) :
    (takeCredit c s).motion.outstanding = s.motion.outstanding ∧ (takeCredit c s).motion.nextTag = s.motion.nextTag ∧
    (takeCredit c s).motion.reference = s.motion.reference ∧
    (takeCredit c s).motion.refArrived = s.motion.refArrived ∧ (takeCredit c s).motion.halt = s.motion.halt ∧
    (takeCredit c s).motion.held = s.motion.held ∧ (takeCredit c s).motion.portLift = s.motion.portLift ∧
    (takeCredit c s).motion.closing = s.motion.closing ∧ (takeCredit c s).motion.spindle = s.motion.spindle ∧
    (takeCredit c s).motion.restNotice = s.motion.restNotice ∧ (takeCredit c s).motion.override = s.motion.override ∧
    (takeCredit c s).motion.faultStanding = s.motion.faultStanding ∧
    (takeCredit c s).motion.faultCode = s.motion.faultCode := by
  unfold takeCredit
  (repeat' split) <;> simp

@[simp] theorem removeCarver_motion (k : Nat) (s : State) :
    (removeCarver k s).motion.outstanding = s.motion.outstanding ∧
    (removeCarver k s).motion.nextTag = s.motion.nextTag ∧ (removeCarver k s).motion.reference = s.motion.reference ∧
    (removeCarver k s).motion.refArrived = s.motion.refArrived ∧ (removeCarver k s).motion.halt = s.motion.halt ∧
    (removeCarver k s).motion.held = s.motion.held ∧ (removeCarver k s).motion.portLift = s.motion.portLift ∧
    (removeCarver k s).motion.closing = s.motion.closing ∧ (removeCarver k s).motion.spindle = s.motion.spindle ∧
    (removeCarver k s).motion.restNotice = s.motion.restNotice ∧
    (removeCarver k s).motion.override = s.motion.override ∧
    (removeCarver k s).motion.faultStanding = s.motion.faultStanding ∧
    (removeCarver k s).motion.faultCode = s.motion.faultCode := by
  simp [removeCarver]

@[simp] theorem rejoinNotice_motion (k : Nat) (s : State) :
    (rejoinNotice k s).motion.outstanding = s.motion.outstanding ∧
    (rejoinNotice k s).motion.nextTag = s.motion.nextTag ∧ (rejoinNotice k s).motion.reference = s.motion.reference ∧
    (rejoinNotice k s).motion.refArrived = s.motion.refArrived ∧ (rejoinNotice k s).motion.halt = s.motion.halt ∧
    (rejoinNotice k s).motion.held = s.motion.held ∧ (rejoinNotice k s).motion.portLift = s.motion.portLift ∧
    (rejoinNotice k s).motion.closing = s.motion.closing ∧ (rejoinNotice k s).motion.spindle = s.motion.spindle ∧
    (rejoinNotice k s).motion.restNotice = s.motion.restNotice ∧
    (rejoinNotice k s).motion.override = s.motion.override ∧
    (rejoinNotice k s).motion.faultStanding = s.motion.faultStanding ∧
    (rejoinNotice k s).motion.faultCode = s.motion.faultCode := by
  unfold rejoinNotice
  (repeat' split) <;> simp

@[simp] theorem placeFreed_motion (s : State) :
    (placeFreed s).motion.outstanding = s.motion.outstanding ∧ (placeFreed s).motion.nextTag = s.motion.nextTag ∧
    (placeFreed s).motion.reference = s.motion.reference ∧ (placeFreed s).motion.refArrived = s.motion.refArrived ∧
    (placeFreed s).motion.halt = s.motion.halt ∧ (placeFreed s).motion.held = s.motion.held ∧
    (placeFreed s).motion.portLift = s.motion.portLift ∧ (placeFreed s).motion.closing = s.motion.closing ∧
    (placeFreed s).motion.spindle = s.motion.spindle ∧ (placeFreed s).motion.restNotice = s.motion.restNotice ∧
    (placeFreed s).motion.override = s.motion.override ∧
    (placeFreed s).motion.faultStanding = s.motion.faultStanding ∧
    (placeFreed s).motion.faultCode = s.motion.faultCode := by
  unfold placeFreed
  (repeat' split) <;> simp

@[simp] theorem readStandingFault_motion (s : State) :
    (readStandingFault s).motion.outstanding = s.motion.outstanding ∧
    (readStandingFault s).motion.nextTag = s.motion.nextTag ∧
    (readStandingFault s).motion.reference = s.motion.reference ∧
    (readStandingFault s).motion.refArrived = s.motion.refArrived ∧
    (readStandingFault s).motion.held = s.motion.held ∧ (readStandingFault s).motion.waiting = s.motion.waiting ∧
    (readStandingFault s).motion.portLift = s.motion.portLift ∧
    (readStandingFault s).motion.closing = s.motion.closing ∧
    (readStandingFault s).motion.restNotice = s.motion.restNotice ∧
    (readStandingFault s).motion.override = s.motion.override := by
  unfold readStandingFault
  (repeat' split) <;> simp

@[simp] theorem endStarting_motion (result : Nat) (s : State) :
    (endStarting result s).motion.outstanding = s.motion.outstanding ∧
    (endStarting result s).motion.nextTag = s.motion.nextTag ∧
    (endStarting result s).motion.reference = s.motion.reference ∧
    (endStarting result s).motion.refArrived = s.motion.refArrived ∧
    (endStarting result s).motion.held = s.motion.held ∧ (endStarting result s).motion.waiting = s.motion.waiting ∧
    (endStarting result s).motion.portLift = s.motion.portLift ∧
    (endStarting result s).motion.closing = s.motion.closing ∧
    (endStarting result s).motion.restNotice = s.motion.restNotice ∧
    (endStarting result s).motion.override = s.motion.override := by
  simp [endStarting]

@[simp] theorem leaveReset_motion (straps : Straps) (s : State) :
    (leaveReset straps s).motion.outstanding = s.motion.outstanding ∧
    (leaveReset straps s).motion.nextTag = s.motion.nextTag ∧
    (leaveReset straps s).motion.reference = s.motion.reference ∧
    (leaveReset straps s).motion.refArrived = s.motion.refArrived ∧
    (leaveReset straps s).motion.held = s.motion.held ∧ (leaveReset straps s).motion.waiting = s.motion.waiting ∧
    (leaveReset straps s).motion.portLift = s.motion.portLift ∧
    (leaveReset straps s).motion.closing = s.motion.closing ∧
    (leaveReset straps s).motion.restNotice = s.motion.restNotice ∧
    (leaveReset straps s).motion.override = s.motion.override := by
  unfold leaveReset
  (repeat' split) <;> simp

@[simp] theorem memoryTested_motion (code : Nat) (passed : Bool) (s : State) :
    (memoryTested code passed s).motion.outstanding = s.motion.outstanding ∧
    (memoryTested code passed s).motion.nextTag = s.motion.nextTag ∧
    (memoryTested code passed s).motion.reference = s.motion.reference ∧
    (memoryTested code passed s).motion.refArrived = s.motion.refArrived ∧
    (memoryTested code passed s).motion.held = s.motion.held ∧
    (memoryTested code passed s).motion.waiting = s.motion.waiting ∧
    (memoryTested code passed s).motion.portLift = s.motion.portLift ∧
    (memoryTested code passed s).motion.closing = s.motion.closing ∧
    (memoryTested code passed s).motion.restNotice = s.motion.restNotice ∧
    (memoryTested code passed s).motion.override = s.motion.override := by
  unfold memoryTested
  (repeat' split) <;> simp

@[simp] theorem frameLeft_motion (t : Sending) (heard : Bool) (s : State) :
    (frameLeft t heard s).motion.outstanding = s.motion.outstanding ∧
    (frameLeft t heard s).motion.nextTag = s.motion.nextTag ∧
    (frameLeft t heard s).motion.reference = s.motion.reference ∧
    (frameLeft t heard s).motion.refArrived = s.motion.refArrived ∧
    (frameLeft t heard s).motion.halt = s.motion.halt ∧ (frameLeft t heard s).motion.held = s.motion.held ∧
    (frameLeft t heard s).motion.portLift = s.motion.portLift ∧
    (frameLeft t heard s).motion.closing = s.motion.closing ∧
    (frameLeft t heard s).motion.spindle = s.motion.spindle ∧
    (frameLeft t heard s).motion.restNotice = s.motion.restNotice ∧
    (frameLeft t heard s).motion.override = s.motion.override ∧
    (frameLeft t heard s).motion.faultStanding = s.motion.faultStanding ∧
    (frameLeft t heard s).motion.faultCode = s.motion.faultCode := by
  unfold frameLeft
  (repeat' split) <;> simp

@[simp] theorem endTransmit_motion (t : Sending) (heard : Bool) (s : State) :
    (endTransmit t heard s).motion.outstanding = s.motion.outstanding ∧
    (endTransmit t heard s).motion.nextTag = s.motion.nextTag ∧
    (endTransmit t heard s).motion.reference = s.motion.reference ∧
    (endTransmit t heard s).motion.refArrived = s.motion.refArrived ∧
    (endTransmit t heard s).motion.halt = s.motion.halt ∧ (endTransmit t heard s).motion.held = s.motion.held ∧
    (endTransmit t heard s).motion.portLift = s.motion.portLift ∧
    (endTransmit t heard s).motion.closing = s.motion.closing ∧
    (endTransmit t heard s).motion.spindle = s.motion.spindle ∧
    (endTransmit t heard s).motion.restNotice = s.motion.restNotice ∧
    (endTransmit t heard s).motion.override = s.motion.override ∧
    (endTransmit t heard s).motion.faultStanding = s.motion.faultStanding ∧
    (endTransmit t heard s).motion.faultCode = s.motion.faultCode := by
  simp [endTransmit]

@[simp] theorem armMotion_motion (s : State) :
    (armMotion s).motion.outstanding = s.motion.outstanding ∧ (armMotion s).motion.nextTag = s.motion.nextTag ∧
    (armMotion s).motion.halt = s.motion.halt ∧ (armMotion s).motion.held = s.motion.held ∧
    (armMotion s).motion.portLift = s.motion.portLift ∧ (armMotion s).motion.faultStanding = s.motion.faultStanding ∧
    (armMotion s).motion.faultCode = s.motion.faultCode := by
  simp [armMotion]

@[simp] theorem arm_motion (r : JobRecord) (s : State) :
    (arm r s).motion.outstanding = s.motion.outstanding ∧ (arm r s).motion.nextTag = s.motion.nextTag ∧
    (arm r s).motion.halt = s.motion.halt ∧ (arm r s).motion.held = s.motion.held ∧
    (arm r s).motion.portLift = s.motion.portLift ∧ (arm r s).motion.faultStanding = s.motion.faultStanding ∧
    (arm r s).motion.faultCode = s.motion.faultCode := by
  unfold arm
  (repeat' split) <;> simp

@[simp] theorem dropAssembly_motion (s : State) :
    (dropAssembly s).motion.outstanding = s.motion.outstanding ∧ (dropAssembly s).motion.nextTag = s.motion.nextTag ∧
    (dropAssembly s).motion.reference = s.motion.reference ∧
    (dropAssembly s).motion.refArrived = s.motion.refArrived ∧ (dropAssembly s).motion.halt = s.motion.halt ∧
    (dropAssembly s).motion.held = s.motion.held ∧ (dropAssembly s).motion.waiting = s.motion.waiting ∧
    (dropAssembly s).motion.portLift = s.motion.portLift ∧ (dropAssembly s).motion.closing = s.motion.closing ∧
    (dropAssembly s).motion.spindle = s.motion.spindle ∧ (dropAssembly s).motion.restNotice = s.motion.restNotice ∧
    (dropAssembly s).motion.override = s.motion.override ∧
    (dropAssembly s).motion.faultStanding = s.motion.faultStanding ∧
    (dropAssembly s).motion.faultCode = s.motion.faultCode := by
  unfold dropAssembly
  (repeat' split) <;> simp

@[simp] theorem endAssembly_motion (a : Assembly) (s : State) :
    (endAssembly a s).motion.outstanding = s.motion.outstanding ∧
    (endAssembly a s).motion.nextTag = s.motion.nextTag ∧ (endAssembly a s).motion.halt = s.motion.halt ∧
    (endAssembly a s).motion.held = s.motion.held ∧ (endAssembly a s).motion.portLift = s.motion.portLift ∧
    (endAssembly a s).motion.faultStanding = s.motion.faultStanding ∧
    (endAssembly a s).motion.faultCode = s.motion.faultCode := by
  unfold endAssembly
  (repeat' split) <;> simp

@[simp] theorem keepAssembly_motion (a : Assembly) (more : Bool) (s : State) :
    (keepAssembly a more s).motion.outstanding = s.motion.outstanding ∧
    (keepAssembly a more s).motion.nextTag = s.motion.nextTag ∧ (keepAssembly a more s).motion.halt = s.motion.halt ∧
    (keepAssembly a more s).motion.held = s.motion.held ∧
    (keepAssembly a more s).motion.portLift = s.motion.portLift ∧
    (keepAssembly a more s).motion.faultStanding = s.motion.faultStanding ∧
    (keepAssembly a more s).motion.faultCode = s.motion.faultCode := by
  unfold keepAssembly
  (repeat' split) <;> simp

@[simp] theorem startAssembly_motion (g : Segment) (s : State) :
    (startAssembly g s).motion.outstanding = s.motion.outstanding ∧
    (startAssembly g s).motion.nextTag = s.motion.nextTag ∧ (startAssembly g s).motion.halt = s.motion.halt ∧
    (startAssembly g s).motion.held = s.motion.held ∧ (startAssembly g s).motion.portLift = s.motion.portLift ∧
    (startAssembly g s).motion.faultStanding = s.motion.faultStanding ∧
    (startAssembly g s).motion.faultCode = s.motion.faultCode := by
  unfold startAssembly
  (repeat' split) <;> simp

@[simp] theorem continueAssembly_motion (a : Assembly) (g : Segment) (s : State) :
    (continueAssembly a g s).motion.outstanding = s.motion.outstanding ∧
    (continueAssembly a g s).motion.nextTag = s.motion.nextTag ∧
    (continueAssembly a g s).motion.halt = s.motion.halt ∧ (continueAssembly a g s).motion.held = s.motion.held ∧
    (continueAssembly a g s).motion.portLift = s.motion.portLift ∧
    (continueAssembly a g s).motion.faultStanding = s.motion.faultStanding ∧
    (continueAssembly a g s).motion.faultCode = s.motion.faultCode := by
  unfold continueAssembly
  (repeat' split) <;> simp

@[simp] theorem takeSegment_motion (g : Segment) (s : State) :
    (takeSegment g s).motion.outstanding = s.motion.outstanding ∧
    (takeSegment g s).motion.nextTag = s.motion.nextTag ∧ (takeSegment g s).motion.halt = s.motion.halt ∧
    (takeSegment g s).motion.held = s.motion.held ∧ (takeSegment g s).motion.portLift = s.motion.portLift ∧
    (takeSegment g s).motion.faultStanding = s.motion.faultStanding ∧
    (takeSegment g s).motion.faultCode = s.motion.faultCode := by
  unfold takeSegment
  (repeat' split) <;> simp

@[simp] theorem takeJob_motion (f : Frame) (s : State) :
    (takeJob f s).motion.outstanding = s.motion.outstanding ∧ (takeJob f s).motion.nextTag = s.motion.nextTag ∧
    (takeJob f s).motion.halt = s.motion.halt ∧ (takeJob f s).motion.held = s.motion.held ∧
    (takeJob f s).motion.portLift = s.motion.portLift ∧ (takeJob f s).motion.faultStanding = s.motion.faultStanding ∧
    (takeJob f s).motion.faultCode = s.motion.faultCode := by
  unfold takeJob
  (repeat' split) <;> simp

@[simp] theorem acceptJoin_motion (k : Nat) (p : Peer) (answer : Bool) (s : State) :
    (acceptJoin k p answer s).motion.outstanding = s.motion.outstanding ∧
    (acceptJoin k p answer s).motion.nextTag = s.motion.nextTag ∧
    (acceptJoin k p answer s).motion.reference = s.motion.reference ∧
    (acceptJoin k p answer s).motion.refArrived = s.motion.refArrived ∧
    (acceptJoin k p answer s).motion.halt = s.motion.halt ∧ (acceptJoin k p answer s).motion.held = s.motion.held ∧
    (acceptJoin k p answer s).motion.portLift = s.motion.portLift ∧
    (acceptJoin k p answer s).motion.closing = s.motion.closing ∧
    (acceptJoin k p answer s).motion.spindle = s.motion.spindle ∧
    (acceptJoin k p answer s).motion.restNotice = s.motion.restNotice ∧
    (acceptJoin k p answer s).motion.override = s.motion.override ∧
    (acceptJoin k p answer s).motion.faultStanding = s.motion.faultStanding ∧
    (acceptJoin k p answer s).motion.faultCode = s.motion.faultCode := by
  unfold acceptJoin
  dsimp only
  (repeat' split) <;> simp

@[simp] theorem takeJoin_motion (f : Frame) (s : State) :
    (takeJoin f s).motion.outstanding = s.motion.outstanding ∧ (takeJoin f s).motion.nextTag = s.motion.nextTag ∧
    (takeJoin f s).motion.reference = s.motion.reference ∧ (takeJoin f s).motion.refArrived = s.motion.refArrived ∧
    (takeJoin f s).motion.halt = s.motion.halt ∧ (takeJoin f s).motion.held = s.motion.held ∧
    (takeJoin f s).motion.portLift = s.motion.portLift ∧ (takeJoin f s).motion.closing = s.motion.closing ∧
    (takeJoin f s).motion.spindle = s.motion.spindle ∧ (takeJoin f s).motion.restNotice = s.motion.restNotice ∧
    (takeJoin f s).motion.override = s.motion.override ∧
    (takeJoin f s).motion.faultStanding = s.motion.faultStanding ∧
    (takeJoin f s).motion.faultCode = s.motion.faultCode := by
  unfold takeJoin
  (repeat' split) <;> simp

@[simp] theorem startJob_motion (s : State) :
    (startJob s).motion.halt = s.motion.halt ∧ (startJob s).motion.held = s.motion.held ∧
    (startJob s).motion.restNotice = s.motion.restNotice ∧ (startJob s).motion.override = s.motion.override ∧
    (startJob s).motion.faultStanding = s.motion.faultStanding ∧ (startJob s).motion.faultCode = s.motion.faultCode := by
  unfold startJob
  dsimp only
  (repeat' split) <;> simp

@[simp] theorem takeStart_motion (f : Frame) (s : State) :
    (takeStart f s).motion.halt = s.motion.halt ∧ (takeStart f s).motion.held = s.motion.held ∧
    (takeStart f s).motion.restNotice = s.motion.restNotice ∧ (takeStart f s).motion.override = s.motion.override ∧
    (takeStart f s).motion.faultStanding = s.motion.faultStanding ∧
    (takeStart f s).motion.faultCode = s.motion.faultCode := by
  unfold takeStart
  (repeat' split) <;> simp

@[simp] theorem endStream_motion (s : State) :
    (endStream s).motion.outstanding = s.motion.outstanding ∧ (endStream s).motion.nextTag = s.motion.nextTag ∧
    (endStream s).motion.reference = s.motion.reference ∧ (endStream s).motion.refArrived = s.motion.refArrived ∧
    (endStream s).motion.halt = s.motion.halt ∧ (endStream s).motion.portLift = s.motion.portLift ∧
    (endStream s).motion.closing = s.motion.closing ∧ (endStream s).motion.spindle = s.motion.spindle ∧
    (endStream s).motion.restNotice = s.motion.restNotice ∧ (endStream s).motion.override = s.motion.override ∧
    (endStream s).motion.highTimer = s.motion.highTimer ∧ (endStream s).motion.lowTimer = s.motion.lowTimer ∧
    (endStream s).motion.stallTimer = s.motion.stallTimer ∧
    (endStream s).motion.faultStanding = s.motion.faultStanding ∧
    (endStream s).motion.faultCode = s.motion.faultCode := by
  simp [endStream]

@[simp] theorem endTracing_motion (s : State) :
    (endTracing s).motion.outstanding = s.motion.outstanding ∧ (endTracing s).motion.nextTag = s.motion.nextTag ∧
    (endTracing s).motion.reference = s.motion.reference ∧ (endTracing s).motion.refArrived = s.motion.refArrived ∧
    (endTracing s).motion.halt = s.motion.halt ∧ (endTracing s).motion.portLift = s.motion.portLift ∧
    (endTracing s).motion.closing = s.motion.closing ∧ (endTracing s).motion.spindle = s.motion.spindle ∧
    (endTracing s).motion.restNotice = s.motion.restNotice ∧ (endTracing s).motion.override = s.motion.override ∧
    (endTracing s).motion.highTimer = s.motion.highTimer ∧ (endTracing s).motion.lowTimer = s.motion.lowTimer ∧
    (endTracing s).motion.stallTimer = s.motion.stallTimer ∧
    (endTracing s).motion.faultStanding = s.motion.faultStanding ∧
    (endTracing s).motion.faultCode = s.motion.faultCode := by
  simp [endTracing]

@[simp] theorem discardJob_motion (s : State) :
    (discardJob s).motion.outstanding = s.motion.outstanding ∧ (discardJob s).motion.nextTag = s.motion.nextTag ∧
    (discardJob s).motion.reference = s.motion.reference ∧ (discardJob s).motion.refArrived = s.motion.refArrived ∧
    (discardJob s).motion.halt = s.motion.halt ∧ (discardJob s).motion.held = s.motion.held ∧
    (discardJob s).motion.waiting = s.motion.waiting ∧ (discardJob s).motion.portLift = s.motion.portLift ∧
    (discardJob s).motion.closing = s.motion.closing ∧ (discardJob s).motion.spindle = s.motion.spindle ∧
    (discardJob s).motion.restNotice = s.motion.restNotice ∧ (discardJob s).motion.override = s.motion.override ∧
    (discardJob s).motion.faultStanding = s.motion.faultStanding ∧
    (discardJob s).motion.faultCode = s.motion.faultCode := by
  simp [discardJob]

@[simp] theorem abortCarver_motion (c : CarverJob) (s : State) :
    (abortCarver c s).motion.held = s.motion.held ∧ (abortCarver c s).motion.restNotice = s.motion.restNotice ∧
    (abortCarver c s).motion.override = s.motion.override ∧
    (abortCarver c s).motion.faultStanding = s.motion.faultStanding ∧
    (abortCarver c s).motion.faultCode = s.motion.faultCode := by
  unfold abortCarver
  dsimp only
  (repeat' split) <;> simp

@[simp] theorem abortTracer_motion (s : State) :
    (abortTracer s).motion.restNotice = s.motion.restNotice ∧ (abortTracer s).motion.override = s.motion.override ∧
    (abortTracer s).motion.faultStanding = s.motion.faultStanding ∧
    (abortTracer s).motion.faultCode = s.motion.faultCode := by
  unfold abortTracer
  dsimp only
  (repeat' split) <;> simp

@[simp] theorem abortLoading_motion (s : State) :
    (abortLoading s).motion.outstanding = s.motion.outstanding ∧ (abortLoading s).motion.nextTag = s.motion.nextTag ∧
    (abortLoading s).motion.reference = s.motion.reference ∧
    (abortLoading s).motion.refArrived = s.motion.refArrived ∧ (abortLoading s).motion.halt = s.motion.halt ∧
    (abortLoading s).motion.closing = s.motion.closing ∧ (abortLoading s).motion.spindle = s.motion.spindle ∧
    (abortLoading s).motion.restNotice = s.motion.restNotice ∧ (abortLoading s).motion.override = s.motion.override ∧
    (abortLoading s).motion.faultStanding = s.motion.faultStanding ∧
    (abortLoading s).motion.faultCode = s.motion.faultCode := by
  unfold abortLoading
  dsimp only
  split <;> simp

@[simp] theorem abortJob_motion (s : State) :
    (abortJob s).motion.restNotice = s.motion.restNotice ∧ (abortJob s).motion.override = s.motion.override ∧
    (abortJob s).motion.faultStanding = s.motion.faultStanding ∧ (abortJob s).motion.faultCode = s.motion.faultCode := by
  unfold abortJob
  (repeat' split) <;> simp

@[simp] theorem takeAbort_motion (f : Frame) (s : State) :
    (takeAbort f s).motion.restNotice = s.motion.restNotice ∧ (takeAbort f s).motion.override = s.motion.override ∧
    (takeAbort f s).motion.faultStanding = s.motion.faultStanding ∧
    (takeAbort f s).motion.faultCode = s.motion.faultCode := by
  unfold takeAbort
  (repeat' split) <;> simp

@[simp] theorem excuseCarver_motion (k : Nat) (r : JobRecord) (t : TracerJob) (s : State) :
    (excuseCarver k r t s).motion.outstanding = s.motion.outstanding ∧
    (excuseCarver k r t s).motion.nextTag = s.motion.nextTag ∧
    (excuseCarver k r t s).motion.reference = s.motion.reference ∧
    (excuseCarver k r t s).motion.refArrived = s.motion.refArrived ∧
    (excuseCarver k r t s).motion.halt = s.motion.halt ∧ (excuseCarver k r t s).motion.held = s.motion.held ∧
    (excuseCarver k r t s).motion.portLift = s.motion.portLift ∧
    (excuseCarver k r t s).motion.closing = s.motion.closing ∧
    (excuseCarver k r t s).motion.spindle = s.motion.spindle ∧
    (excuseCarver k r t s).motion.restNotice = s.motion.restNotice ∧
    (excuseCarver k r t s).motion.override = s.motion.override ∧
    (excuseCarver k r t s).motion.faultStanding = s.motion.faultStanding ∧
    (excuseCarver k r t s).motion.faultCode = s.motion.faultCode := by
  unfold excuseCarver
  dsimp only
  (repeat' split) <;> simp

@[simp] theorem tracerExcuse_motion (f : Frame) (s : State) :
    (tracerExcuse f s).motion.outstanding = s.motion.outstanding ∧
    (tracerExcuse f s).motion.nextTag = s.motion.nextTag ∧ (tracerExcuse f s).motion.reference = s.motion.reference ∧
    (tracerExcuse f s).motion.refArrived = s.motion.refArrived ∧ (tracerExcuse f s).motion.halt = s.motion.halt ∧
    (tracerExcuse f s).motion.held = s.motion.held ∧ (tracerExcuse f s).motion.portLift = s.motion.portLift ∧
    (tracerExcuse f s).motion.closing = s.motion.closing ∧ (tracerExcuse f s).motion.spindle = s.motion.spindle ∧
    (tracerExcuse f s).motion.restNotice = s.motion.restNotice ∧
    (tracerExcuse f s).motion.override = s.motion.override ∧
    (tracerExcuse f s).motion.faultStanding = s.motion.faultStanding ∧
    (tracerExcuse f s).motion.faultCode = s.motion.faultCode := by
  unfold tracerExcuse
  (repeat' split) <;> simp

@[simp] theorem becomeExcused_motion (s : State) :
    (becomeExcused s).motion.held = s.motion.held ∧ (becomeExcused s).motion.restNotice = s.motion.restNotice ∧
    (becomeExcused s).motion.override = s.motion.override ∧
    (becomeExcused s).motion.faultStanding = s.motion.faultStanding ∧
    (becomeExcused s).motion.faultCode = s.motion.faultCode := by
  unfold becomeExcused
  dsimp only
  (repeat' split) <;> simp

@[simp] theorem carverExcuse_motion (f : Frame) (s : State) :
    (carverExcuse f s).motion.held = s.motion.held ∧ (carverExcuse f s).motion.restNotice = s.motion.restNotice ∧
    (carverExcuse f s).motion.override = s.motion.override ∧
    (carverExcuse f s).motion.faultStanding = s.motion.faultStanding ∧
    (carverExcuse f s).motion.faultCode = s.motion.faultCode := by
  unfold carverExcuse
  (repeat' split) <;> simp

@[simp] theorem takeExcuse_motion (f : Frame) (s : State) :
    (takeExcuse f s).motion.held = s.motion.held ∧ (takeExcuse f s).motion.restNotice = s.motion.restNotice ∧
    (takeExcuse f s).motion.override = s.motion.override ∧
    (takeExcuse f s).motion.faultStanding = s.motion.faultStanding ∧
    (takeExcuse f s).motion.faultCode = s.motion.faultCode := by
  unfold takeExcuse
  (repeat' split) <;> simp

@[simp] theorem resumeCarver_motion (s : State) :
    (resumeCarver s).motion.halt = s.motion.halt ∧ (resumeCarver s).motion.held = s.motion.held ∧
    (resumeCarver s).motion.restNotice = s.motion.restNotice ∧ (resumeCarver s).motion.override = s.motion.override ∧
    (resumeCarver s).motion.faultStanding = s.motion.faultStanding ∧
    (resumeCarver s).motion.faultCode = s.motion.faultCode := by
  simp [resumeCarver]

@[simp] theorem reachHeld_motion (s : State) :
    (reachHeld s).motion.outstanding = s.motion.outstanding ∧ (reachHeld s).motion.nextTag = s.motion.nextTag ∧
    (reachHeld s).motion.reference = s.motion.reference ∧ (reachHeld s).motion.refArrived = s.motion.refArrived ∧
    (reachHeld s).motion.halt = s.motion.halt ∧ (reachHeld s).motion.held = s.motion.held ∧
    (reachHeld s).motion.portLift = s.motion.portLift ∧ (reachHeld s).motion.closing = s.motion.closing ∧
    (reachHeld s).motion.spindle = s.motion.spindle ∧ (reachHeld s).motion.restNotice = s.motion.restNotice ∧
    (reachHeld s).motion.override = s.motion.override ∧ (reachHeld s).motion.faultStanding = s.motion.faultStanding ∧
    (reachHeld s).motion.faultCode = s.motion.faultCode := by
  unfold reachHeld
  (repeat' split) <;> simp

@[simp] theorem offerHeldFinish_motion (s : State) :
    (offerHeldFinish s).motion.outstanding = s.motion.outstanding ∧
    (offerHeldFinish s).motion.nextTag = s.motion.nextTag ∧
    (offerHeldFinish s).motion.reference = s.motion.reference ∧
    (offerHeldFinish s).motion.refArrived = s.motion.refArrived ∧ (offerHeldFinish s).motion.halt = s.motion.halt ∧
    (offerHeldFinish s).motion.held = s.motion.held ∧ (offerHeldFinish s).motion.waiting = s.motion.waiting ∧
    (offerHeldFinish s).motion.portLift = s.motion.portLift ∧ (offerHeldFinish s).motion.closing = s.motion.closing ∧
    (offerHeldFinish s).motion.spindle = s.motion.spindle ∧
    (offerHeldFinish s).motion.restNotice = s.motion.restNotice ∧
    (offerHeldFinish s).motion.override = s.motion.override ∧
    (offerHeldFinish s).motion.faultStanding = s.motion.faultStanding ∧
    (offerHeldFinish s).motion.faultCode = s.motion.faultCode := by
  unfold offerHeldFinish
  (repeat' split) <;> simp

@[simp] theorem resumeTracer_motion (s : State) :
    (resumeTracer s).motion.halt = s.motion.halt ∧ (resumeTracer s).motion.restNotice = s.motion.restNotice ∧
    (resumeTracer s).motion.override = s.motion.override ∧
    (resumeTracer s).motion.faultStanding = s.motion.faultStanding ∧
    (resumeTracer s).motion.faultCode = s.motion.faultCode := by
  simp [resumeTracer]

@[simp] theorem resumeJob_motion (s : State) :
    (resumeJob s).motion.halt = s.motion.halt ∧ (resumeJob s).motion.restNotice = s.motion.restNotice ∧
    (resumeJob s).motion.override = s.motion.override ∧ (resumeJob s).motion.faultStanding = s.motion.faultStanding ∧
    (resumeJob s).motion.faultCode = s.motion.faultCode := by
  unfold resumeJob
  dsimp only
  (repeat' split) <;> simp

@[simp] theorem takeResume_motion (f : Frame) (s : State) :
    (takeResume f s).motion.halt = s.motion.halt ∧ (takeResume f s).motion.restNotice = s.motion.restNotice ∧
    (takeResume f s).motion.override = s.motion.override ∧
    (takeResume f s).motion.faultStanding = s.motion.faultStanding ∧
    (takeResume f s).motion.faultCode = s.motion.faultCode := by
  unfold takeResume
  (repeat' split) <;> simp

@[simp] theorem beginDrain_motion (s : State) :
    (beginDrain s).motion.held = s.motion.held ∧ (beginDrain s).motion.restNotice = s.motion.restNotice ∧
    (beginDrain s).motion.override = s.motion.override ∧
    (beginDrain s).motion.faultStanding = s.motion.faultStanding ∧
    (beginDrain s).motion.faultCode = s.motion.faultCode := by
  unfold beginDrain
  (repeat' split) <;> simp

@[simp] theorem takeFinish_motion (f : Frame) (s : State) :
    (takeFinish f s).motion.held = s.motion.held ∧ (takeFinish f s).motion.restNotice = s.motion.restNotice ∧
    (takeFinish f s).motion.override = s.motion.override ∧
    (takeFinish f s).motion.faultStanding = s.motion.faultStanding ∧
    (takeFinish f s).motion.faultCode = s.motion.faultCode := by
  unfold takeFinish
  (repeat' split) <;> simp

@[simp] theorem creditFrame_motion (f : Frame) (s : State) :
    (creditFrame f s).motion.outstanding = s.motion.outstanding ∧
    (creditFrame f s).motion.nextTag = s.motion.nextTag ∧ (creditFrame f s).motion.reference = s.motion.reference ∧
    (creditFrame f s).motion.refArrived = s.motion.refArrived ∧ (creditFrame f s).motion.halt = s.motion.halt ∧
    (creditFrame f s).motion.held = s.motion.held ∧ (creditFrame f s).motion.portLift = s.motion.portLift ∧
    (creditFrame f s).motion.closing = s.motion.closing ∧ (creditFrame f s).motion.spindle = s.motion.spindle ∧
    (creditFrame f s).motion.restNotice = s.motion.restNotice ∧
    (creditFrame f s).motion.override = s.motion.override ∧
    (creditFrame f s).motion.faultStanding = s.motion.faultStanding ∧
    (creditFrame f s).motion.faultCode = s.motion.faultCode := by
  unfold creditFrame
  (repeat' split) <;> simp

@[simp] theorem relieve_motion (o : Override) (s : State) :
    (relieve o s).motion.outstanding = s.motion.outstanding ∧ (relieve o s).motion.nextTag = s.motion.nextTag ∧
    (relieve o s).motion.reference = s.motion.reference ∧ (relieve o s).motion.refArrived = s.motion.refArrived ∧
    (relieve o s).motion.halt = s.motion.halt ∧ (relieve o s).motion.held = s.motion.held ∧
    (relieve o s).motion.waiting = s.motion.waiting ∧ (relieve o s).motion.portLift = s.motion.portLift ∧
    (relieve o s).motion.closing = s.motion.closing ∧ (relieve o s).motion.spindle = s.motion.spindle ∧
    (relieve o s).motion.restNotice = s.motion.restNotice ∧ (relieve o s).motion.highTimer = s.motion.highTimer ∧
    (relieve o s).motion.lowTimer = s.motion.lowTimer ∧ (relieve o s).motion.stallTimer = s.motion.stallTimer ∧
    (relieve o s).motion.faultStanding = s.motion.faultStanding ∧ (relieve o s).motion.faultCode = s.motion.faultCode := by
  simp [relieve]

@[simp] theorem stallCarver_motion (s : State) :
    (stallCarver s).motion.held = s.motion.held ∧ (stallCarver s).motion.restNotice = s.motion.restNotice ∧
    (stallCarver s).motion.override = s.motion.override ∧
    (stallCarver s).motion.faultStanding = s.motion.faultStanding ∧
    (stallCarver s).motion.faultCode = s.motion.faultCode := by
  simp [stallCarver]

@[simp] theorem closeSweep_motion (e : Entry) (s : State) :
    (closeSweep e s).motion.held = s.motion.held ∧ (closeSweep e s).motion.waiting = s.motion.waiting ∧
    (closeSweep e s).motion.override = s.motion.override ∧
    (closeSweep e s).motion.faultStanding = s.motion.faultStanding ∧
    (closeSweep e s).motion.faultCode = s.motion.faultCode := by
  simp [closeSweep]

@[simp] theorem handArrival_motion (o : Outstanding) (probe : Probe) (s : State) :
    (handArrival o probe s).motion.outstanding = s.motion.outstanding ∧
    (handArrival o probe s).motion.nextTag = s.motion.nextTag ∧
    (handArrival o probe s).motion.reference = s.motion.reference ∧
    (handArrival o probe s).motion.refArrived = s.motion.refArrived ∧
    (handArrival o probe s).motion.held = s.motion.held ∧ (handArrival o probe s).motion.waiting = s.motion.waiting ∧
    (handArrival o probe s).motion.restNotice = s.motion.restNotice ∧
    (handArrival o probe s).motion.override = s.motion.override ∧
    (handArrival o probe s).motion.faultStanding = s.motion.faultStanding ∧
    (handArrival o probe s).motion.faultCode = s.motion.faultCode := by
  unfold handArrival
  (repeat' split) <;> simp

@[simp] theorem arriveOne_motion (o : Outstanding) (rest : List Outstanding) (probe : Probe) (s : State) :
    (arriveOne o rest probe s).motion.nextTag = s.motion.nextTag ∧
    (arriveOne o rest probe s).motion.reference = s.motion.reference ∧
    (arriveOne o rest probe s).motion.held = s.motion.held ∧
    (arriveOne o rest probe s).motion.waiting = s.motion.waiting ∧
    (arriveOne o rest probe s).motion.restNotice = s.motion.restNotice ∧
    (arriveOne o rest probe s).motion.override = s.motion.override ∧
    (arriveOne o rest probe s).motion.faultStanding = s.motion.faultStanding ∧
    (arriveOne o rest probe s).motion.faultCode = s.motion.faultCode := by
  simp [arriveOne]

@[simp] theorem arriveTag_motion (tag : Byte) (probe : Probe) (s : State) :
    (arriveTag tag probe s).motion.nextTag = s.motion.nextTag ∧
    (arriveTag tag probe s).motion.reference = s.motion.reference ∧
    (arriveTag tag probe s).motion.held = s.motion.held ∧ (arriveTag tag probe s).motion.waiting = s.motion.waiting ∧
    (arriveTag tag probe s).motion.restNotice = s.motion.restNotice ∧
    (arriveTag tag probe s).motion.override = s.motion.override ∧
    (arriveTag tag probe s).motion.faultStanding = s.motion.faultStanding ∧
    (arriveTag tag probe s).motion.faultCode = s.motion.faultCode := by
  unfold arriveTag
  (repeat' split) <;> simp

@[simp] theorem stopDrives_motion (s : State) :
    (stopDrives s).motion.outstanding = s.motion.outstanding ∧ (stopDrives s).motion.nextTag = s.motion.nextTag ∧
    (stopDrives s).motion.reference = s.motion.reference ∧ (stopDrives s).motion.refArrived = s.motion.refArrived ∧
    (stopDrives s).motion.held = s.motion.held ∧ (stopDrives s).motion.waiting = s.motion.waiting ∧
    (stopDrives s).motion.closing = s.motion.closing ∧ (stopDrives s).motion.restNotice = s.motion.restNotice ∧
    (stopDrives s).motion.override = s.motion.override ∧
    (stopDrives s).motion.faultStanding = s.motion.faultStanding ∧
    (stopDrives s).motion.faultCode = s.motion.faultCode := by
  simp [stopDrives]

@[simp] theorem stopInPlace_motion (s : State) :
    (stopInPlace s).motion.nextTag = s.motion.nextTag ∧ (stopInPlace s).motion.reference = s.motion.reference ∧
    (stopInPlace s).motion.refArrived = s.motion.refArrived ∧ (stopInPlace s).motion.halt = s.motion.halt ∧
    (stopInPlace s).motion.portLift = s.motion.portLift ∧ (stopInPlace s).motion.spindle = s.motion.spindle ∧
    (stopInPlace s).motion.restNotice = s.motion.restNotice ∧ (stopInPlace s).motion.override = s.motion.override ∧
    (stopInPlace s).motion.highTimer = s.motion.highTimer ∧ (stopInPlace s).motion.lowTimer = s.motion.lowTimer ∧
    (stopInPlace s).motion.stallTimer = s.motion.stallTimer ∧
    (stopInPlace s).motion.faultStanding = s.motion.faultStanding ∧
    (stopInPlace s).motion.faultCode = s.motion.faultCode := by
  simp [stopInPlace]

@[simp] theorem enterStopped_motion (s : State) :
    (enterStopped s).motion.nextTag = s.motion.nextTag ∧ (enterStopped s).motion.reference = s.motion.reference ∧
    (enterStopped s).motion.refArrived = s.motion.refArrived ∧ (enterStopped s).motion.halt = s.motion.halt ∧
    (enterStopped s).motion.portLift = s.motion.portLift ∧ (enterStopped s).motion.spindle = s.motion.spindle ∧
    (enterStopped s).motion.restNotice = s.motion.restNotice ∧ (enterStopped s).motion.override = s.motion.override ∧
    (enterStopped s).motion.faultStanding = s.motion.faultStanding ∧
    (enterStopped s).motion.faultCode = s.motion.faultCode := by
  simp [enterStopped]

@[simp] theorem stopPort_motion (s : State) :
    (stopPort s).motion.nextTag = s.motion.nextTag ∧ (stopPort s).motion.reference = s.motion.reference ∧
    (stopPort s).motion.refArrived = s.motion.refArrived ∧ (stopPort s).motion.restNotice = s.motion.restNotice ∧
    (stopPort s).motion.override = s.motion.override ∧ (stopPort s).motion.faultStanding = s.motion.faultStanding ∧
    (stopPort s).motion.faultCode = s.motion.faultCode := by
  unfold stopPort
  (repeat' split) <;> simp


end Sys2Proof.Machine
end

