-- ==== Sys2Proof/Laws/QueueFields.lean ====
section
/-! SUPPORT. Frame lemmas inside the Path Queue: the fields of it that an operation leaves as they are. -/

namespace Sys2Proof.Machine

open Sys2Proof

@[simp] theorem offerCreditTo_pq (dest : Byte) (s : State) :
    (offerCreditTo dest s).pq.free = s.pq.free ∧ (offerCreditTo dest s).pq.posted = s.pq.posted ∧
    (offerCreditTo dest s).pq.issued = s.pq.issued ∧ (offerCreditTo dest s).pq.expected = s.pq.expected ∧
    (offerCreditTo dest s).pq.released = s.pq.released ∧ (offerCreditTo dest s).pq.lastPass = s.pq.lastPass ∧
    (offerCreditTo dest s).pq.inPass = s.pq.inPass := by
  simp [offerCreditTo]

@[simp] theorem offerCredit_pq (s : State) :
    (offerCredit s).pq.free = s.pq.free ∧ (offerCredit s).pq.posted = s.pq.posted ∧
    (offerCredit s).pq.issued = s.pq.issued ∧ (offerCredit s).pq.expected = s.pq.expected ∧
    (offerCredit s).pq.released = s.pq.released ∧ (offerCredit s).pq.lastPass = s.pq.lastPass ∧
    (offerCredit s).pq.inPass = s.pq.inPass := by
  unfold offerCredit
  (repeat' split) <;> simp

@[simp] theorem offerOnGrowth_pq (s : State) :
    (offerOnGrowth s).pq.free = s.pq.free ∧ (offerOnGrowth s).pq.posted = s.pq.posted ∧
    (offerOnGrowth s).pq.issued = s.pq.issued ∧ (offerOnGrowth s).pq.expected = s.pq.expected ∧
    (offerOnGrowth s).pq.released = s.pq.released ∧ (offerOnGrowth s).pq.lastPass = s.pq.lastPass ∧
    (offerOnGrowth s).pq.inPass = s.pq.inPass := by
  unfold offerOnGrowth
  (repeat' split) <;> simp

@[simp] theorem issueEntry_pq (tag : Byte) (sp : Setpoint) (s : State) :
    (issueEntry tag sp s).pq.free = s.pq.free ∧ (issueEntry tag sp s).pq.expected = s.pq.expected ∧
    (issueEntry tag sp s).pq.released = s.pq.released ∧ (issueEntry tag sp s).pq.lastPass = s.pq.lastPass ∧
    (issueEntry tag sp s).pq.inPass = s.pq.inPass ∧ (issueEntry tag sp s).pq.creditTimer = s.pq.creditTimer ∧
    (issueEntry tag sp s).pq.freeAtOffer = s.pq.freeAtOffer := by
  unfold issueEntry
  (repeat' split) <;> simp

@[simp] theorem issue_pq (sp : Setpoint) (s : State) :
    (issue sp s).pq.free = s.pq.free ∧ (issue sp s).pq.expected = s.pq.expected ∧
    (issue sp s).pq.released = s.pq.released ∧ (issue sp s).pq.lastPass = s.pq.lastPass ∧
    (issue sp s).pq.inPass = s.pq.inPass ∧ (issue sp s).pq.creditTimer = s.pq.creditTimer ∧
    (issue sp s).pq.freeAtOffer = s.pq.freeAtOffer := by
  unfold issue
  (repeat' split) <;> simp

@[simp] theorem issuePassed_pq (s : State) :
    (issuePassed s).pq.free = s.pq.free ∧ (issuePassed s).pq.expected = s.pq.expected ∧
    (issuePassed s).pq.released = s.pq.released ∧ (issuePassed s).pq.lastPass = s.pq.lastPass ∧
    (issuePassed s).pq.inPass = s.pq.inPass ∧ (issuePassed s).pq.creditTimer = s.pq.creditTimer ∧
    (issuePassed s).pq.freeAtOffer = s.pq.freeAtOffer := by
  unfold issuePassed
  (repeat' split) <;> simp

@[simp] theorem checkAndIssue_pq (sp : Setpoint) (s : State) :
    (checkAndIssue sp s).pq.free = s.pq.free ∧ (checkAndIssue sp s).pq.expected = s.pq.expected ∧
    (checkAndIssue sp s).pq.released = s.pq.released ∧ (checkAndIssue sp s).pq.lastPass = s.pq.lastPass ∧
    (checkAndIssue sp s).pq.inPass = s.pq.inPass ∧ (checkAndIssue sp s).pq.creditTimer = s.pq.creditTimer ∧
    (checkAndIssue sp s).pq.freeAtOffer = s.pq.freeAtOffer := by
  simp [checkAndIssue]

@[simp] theorem endDrain_pq (s : State) :
    (endDrain s).pq.free = s.pq.free ∧ (endDrain s).pq.posted = s.pq.posted ∧ (endDrain s).pq.issued = s.pq.issued ∧
    (endDrain s).pq.expected = s.pq.expected ∧ (endDrain s).pq.released = s.pq.released ∧
    (endDrain s).pq.lastPass = s.pq.lastPass ∧ (endDrain s).pq.inPass = s.pq.inPass := by
  unfold endDrain
  (repeat' split) <;> simp

@[simp] theorem closingDone_pq (c : ClosingLift) (s : State) :
    (closingDone c s).pq.free = s.pq.free ∧ (closingDone c s).pq.posted = s.pq.posted ∧
    (closingDone c s).pq.issued = s.pq.issued ∧ (closingDone c s).pq.expected = s.pq.expected ∧
    (closingDone c s).pq.released = s.pq.released ∧ (closingDone c s).pq.lastPass = s.pq.lastPass ∧
    (closingDone c s).pq.inPass = s.pq.inPass := by
  unfold closingDone
  (repeat' split) <;> simp

@[simp] theorem pumpClosing_pq (s : State) :
    (pumpClosing s).pq.free = s.pq.free ∧ (pumpClosing s).pq.expected = s.pq.expected ∧
    (pumpClosing s).pq.released = s.pq.released ∧ (pumpClosing s).pq.lastPass = s.pq.lastPass ∧
    (pumpClosing s).pq.inPass = s.pq.inPass := by
  unfold pumpClosing
  (repeat' split) <;> simp

@[simp] theorem pumpPortLift_pq (s : State) :
    (pumpPortLift s).pq.free = s.pq.free ∧ (pumpPortLift s).pq.expected = s.pq.expected ∧
    (pumpPortLift s).pq.released = s.pq.released ∧ (pumpPortLift s).pq.lastPass = s.pq.lastPass ∧
    (pumpPortLift s).pq.inPass = s.pq.inPass ∧ (pumpPortLift s).pq.creditTimer = s.pq.creditTimer ∧
    (pumpPortLift s).pq.freeAtOffer = s.pq.freeAtOffer := by
  unfold pumpPortLift
  (repeat' split) <;> simp

@[simp] theorem pumpLifts_pq (s : State) :
    (pumpLifts s).pq.free = s.pq.free ∧ (pumpLifts s).pq.expected = s.pq.expected ∧
    (pumpLifts s).pq.released = s.pq.released ∧ (pumpLifts s).pq.lastPass = s.pq.lastPass ∧
    (pumpLifts s).pq.inPass = s.pq.inPass := by
  simp [pumpLifts]

@[simp] theorem pumpPort_pq (s : State) :
    (pumpPort s).pq.free = s.pq.free ∧ (pumpPort s).pq.expected = s.pq.expected ∧
    (pumpPort s).pq.released = s.pq.released ∧ (pumpPort s).pq.lastPass = s.pq.lastPass ∧
    (pumpPort s).pq.inPass = s.pq.inPass := by
  simp [pumpPort]

@[simp] theorem completeHead_pq (s : State) :
    (completeHead s).pq.issued = s.pq.issued ∧ (completeHead s).pq.expected = s.pq.expected ∧
    (completeHead s).pq.lastPass = s.pq.lastPass ∧ (completeHead s).pq.inPass = s.pq.inPass := by
  unfold completeHead
  (repeat' split) <;> simp

@[simp] theorem completeMarker_pq (e : Entry) (s : State) :
    (completeMarker e s).pq.issued = s.pq.issued ∧ (completeMarker e s).pq.expected = s.pq.expected ∧
    (completeMarker e s).pq.lastPass = s.pq.lastPass ∧ (completeMarker e s).pq.inPass = s.pq.inPass := by
  simp [completeMarker]

@[simp] theorem openPass_pq (e : Entry) (s : State) :
    (openPass e s).pq.issued = s.pq.issued ∧ (openPass e s).pq.expected = s.pq.expected ∧
    (openPass e s).pq.lastPass = s.pq.lastPass ∧ (openPass e s).pq.inPass = s.pq.inPass := by
  unfold openPass
  (repeat' split) <;> simp

@[simp] theorem completeResting_pq (e : Entry) (s : State) :
    (completeResting e s).pq.issued = s.pq.issued ∧ (completeResting e s).pq.expected = s.pq.expected ∧
    (completeResting e s).pq.lastPass = s.pq.lastPass ∧ (completeResting e s).pq.inPass = s.pq.inPass := by
  unfold completeResting
  (repeat' split) <;> simp

@[simp] theorem handHead_pq (e : Entry) (s : State) :
    (handHead e s).pq.issued = s.pq.issued ∧ (handHead e s).pq.expected = s.pq.expected ∧
    (handHead e s).pq.lastPass = s.pq.lastPass ∧ (handHead e s).pq.inPass = s.pq.inPass := by
  unfold handHead
  (repeat' split) <;> simp

@[simp] theorem completeIssued_pq (i : Issued) (rest : List Issued) (s : State) :
    (completeIssued i rest s).pq.posted = s.pq.posted ∧ (completeIssued i rest s).pq.expected = s.pq.expected ∧
    (completeIssued i rest s).pq.lastPass = s.pq.lastPass ∧ (completeIssued i rest s).pq.inPass = s.pq.inPass := by
  simp [completeIssued]

@[simp] theorem arriveEntry_pq (tag : Byte) (s : State) :
    (arriveEntry tag s).pq.posted = s.pq.posted ∧ (arriveEntry tag s).pq.expected = s.pq.expected ∧
    (arriveEntry tag s).pq.lastPass = s.pq.lastPass ∧ (arriveEntry tag s).pq.inPass = s.pq.inPass := by
  unfold arriveEntry
  (repeat' split) <;> simp

@[simp] theorem startJob_pq (s : State) :
    (startJob s).pq.free = s.pq.free ∧ (startJob s).pq.expected = s.pq.expected ∧
    (startJob s).pq.released = s.pq.released ∧ (startJob s).pq.lastPass = s.pq.lastPass ∧
    (startJob s).pq.inPass = s.pq.inPass := by
  unfold startJob
  dsimp only
  (repeat' split) <;> simp

@[simp] theorem takeStart_pq (f : Frame) (s : State) :
    (takeStart f s).pq.free = s.pq.free ∧ (takeStart f s).pq.expected = s.pq.expected ∧
    (takeStart f s).pq.released = s.pq.released ∧ (takeStart f s).pq.lastPass = s.pq.lastPass ∧
    (takeStart f s).pq.inPass = s.pq.inPass := by
  unfold takeStart
  (repeat' split) <;> simp

@[simp] theorem abortTracer_pq (s : State) :
    (abortTracer s).pq.free = s.pq.free ∧ (abortTracer s).pq.expected = s.pq.expected ∧
    (abortTracer s).pq.released = s.pq.released ∧ (abortTracer s).pq.lastPass = s.pq.lastPass ∧
    (abortTracer s).pq.inPass = s.pq.inPass := by
  unfold abortTracer
  dsimp only
  (repeat' split) <;> simp

@[simp] theorem resumeCarver_pq (s : State) :
    (resumeCarver s).pq.free = s.pq.free ∧ (resumeCarver s).pq.expected = s.pq.expected ∧
    (resumeCarver s).pq.released = s.pq.released ∧ (resumeCarver s).pq.lastPass = s.pq.lastPass ∧
    (resumeCarver s).pq.inPass = s.pq.inPass := by
  simp [resumeCarver]

@[simp] theorem resumeTracer_pq (s : State) :
    (resumeTracer s).pq.free = s.pq.free ∧ (resumeTracer s).pq.expected = s.pq.expected ∧
    (resumeTracer s).pq.released = s.pq.released ∧ (resumeTracer s).pq.lastPass = s.pq.lastPass ∧
    (resumeTracer s).pq.inPass = s.pq.inPass := by
  simp [resumeTracer]

@[simp] theorem resumeJob_pq (s : State) :
    (resumeJob s).pq.free = s.pq.free ∧ (resumeJob s).pq.expected = s.pq.expected ∧
    (resumeJob s).pq.released = s.pq.released ∧ (resumeJob s).pq.lastPass = s.pq.lastPass ∧
    (resumeJob s).pq.inPass = s.pq.inPass := by
  unfold resumeJob
  dsimp only
  (repeat' split) <;> simp

@[simp] theorem takeResume_pq (f : Frame) (s : State) :
    (takeResume f s).pq.free = s.pq.free ∧ (takeResume f s).pq.expected = s.pq.expected ∧
    (takeResume f s).pq.released = s.pq.released ∧ (takeResume f s).pq.lastPass = s.pq.lastPass ∧
    (takeResume f s).pq.inPass = s.pq.inPass := by
  unfold takeResume
  (repeat' split) <;> simp

@[simp] theorem beginDrain_pq (s : State) :
    (beginDrain s).pq.free = s.pq.free ∧ (beginDrain s).pq.expected = s.pq.expected ∧
    (beginDrain s).pq.released = s.pq.released ∧ (beginDrain s).pq.lastPass = s.pq.lastPass ∧
    (beginDrain s).pq.inPass = s.pq.inPass := by
  unfold beginDrain
  (repeat' split) <;> simp

@[simp] theorem takeFinish_pq (f : Frame) (s : State) :
    (takeFinish f s).pq.free = s.pq.free ∧ (takeFinish f s).pq.expected = s.pq.expected ∧
    (takeFinish f s).pq.released = s.pq.released ∧ (takeFinish f s).pq.lastPass = s.pq.lastPass ∧
    (takeFinish f s).pq.inPass = s.pq.inPass := by
  unfold takeFinish
  (repeat' split) <;> simp

@[simp] theorem closeSweep_pq (e : Entry) (s : State) :
    (closeSweep e s).pq.expected = s.pq.expected ∧ (closeSweep e s).pq.lastPass = s.pq.lastPass ∧
    (closeSweep e s).pq.inPass = s.pq.inPass := by
  simp [closeSweep]

@[simp] theorem handArrival_pq (o : Outstanding) (probe : Probe) (s : State) :
    (handArrival o probe s).pq.posted = s.pq.posted ∧ (handArrival o probe s).pq.expected = s.pq.expected ∧
    (handArrival o probe s).pq.lastPass = s.pq.lastPass ∧ (handArrival o probe s).pq.inPass = s.pq.inPass := by
  unfold handArrival
  (repeat' split) <;> simp

@[simp] theorem arriveOne_pq (o : Outstanding) (rest : List Outstanding) (probe : Probe) (s : State) :
    (arriveOne o rest probe s).pq.posted = s.pq.posted ∧ (arriveOne o rest probe s).pq.expected = s.pq.expected ∧
    (arriveOne o rest probe s).pq.lastPass = s.pq.lastPass ∧ (arriveOne o rest probe s).pq.inPass = s.pq.inPass := by
  simp [arriveOne]

@[simp] theorem arriveTag_pq (tag : Byte) (probe : Probe) (s : State) :
    (arriveTag tag probe s).pq.posted = s.pq.posted ∧ (arriveTag tag probe s).pq.expected = s.pq.expected ∧
    (arriveTag tag probe s).pq.lastPass = s.pq.lastPass ∧ (arriveTag tag probe s).pq.inPass = s.pq.inPass := by
  unfold arriveTag
  (repeat' split) <;> simp

@[simp] theorem countTick_pq (s : State) :
    (countTick s).pq.free = s.pq.free ∧ (countTick s).pq.posted = s.pq.posted ∧
    (countTick s).pq.issued = s.pq.issued ∧ (countTick s).pq.expected = s.pq.expected ∧
    (countTick s).pq.released = s.pq.released ∧ (countTick s).pq.lastPass = s.pq.lastPass ∧
    (countTick s).pq.inPass = s.pq.inPass ∧ (countTick s).pq.freeAtOffer = s.pq.freeAtOffer := by
  simp [countTick]

end Sys2Proof.Machine
end

