-- ==== Sys2Proof/Laws/TransmitQueue.lean ====
section
/-! SUPPORT. The order of the transmit queue (R13): what putting a frame at its place does to the queue. -/

namespace Sys2Proof.Machine

open Sys2Proof

theorem TxFrame.before_trans {a b c : TxFrame} (hab : a.before b = true) (hbc : b.before c = true) :
    a.before c = true := by
  simp only [TxFrame.before, decide_eq_true_eq] at *
  omega

/-- Of two frames of different classes, or of different ages, one stands before the other. -/
theorem TxFrame.before_of_not {a b : TxFrame} (h : a.before b ≠ true) (hd : a.kind.cls = b.kind.cls → a.age ≠ b.age) :
    b.before a = true := by
  simp only [TxFrame.before, ne_eq, decide_eq_true_eq] at *
  by_cases hc : a.kind.cls = b.kind.cls
  · have := hd hc
    omega
  · omega

/-- The queue holds the frame put at its place, and what it held. -/
theorem place_perm (f : TxFrame) (l : List TxFrame) : (place f l).Perm (f :: l) := by
  induction l with
  | nil => exact .refl _
  | cons g rest ih =>
    unfold place
    split
    · exact .refl _
    · exact (List.Perm.cons g ih).trans (List.Perm.swap f g rest)

theorem mem_place {f g : TxFrame} {l : List TxFrame} : g ∈ place f l ↔ g = f ∨ g ∈ l :=
  (place_perm f l).mem_iff.trans List.mem_cons

@[simp] theorem length_place (f : TxFrame) (l : List TxFrame) : (place f l).length = l.length + 1 :=
  (place_perm f l).length_eq

/-- How many frames of the queue have a property, after a frame is put at its place. -/
theorem length_filter_place (p : TxFrame → Bool) (f : TxFrame) (l : List TxFrame) :
    ((place f l).filter p).length = (if p f then 1 else 0) + (l.filter p).length := by
  rw [((place_perm f l).filter p).length_eq, List.filter_cons]
  split
  · rw [List.length_cons, Nat.add_comm]
  · rw [Nat.zero_add]

/-- A frame put at its place keeps the order, where no frame of its class has its age (R13). -/
theorem sorted_place {f : TxFrame} {l : List TxFrame} (h : l.Pairwise fun a b => a.before b = true)
    (hf : ∀ g ∈ l, f.kind.cls = g.kind.cls → f.age ≠ g.age) : (place f l).Pairwise fun a b => a.before b = true := by
  induction l with
  | nil => exact List.pairwise_singleton _ _
  | cons g rest ih =>
    obtain ⟨hg, hr⟩ := List.pairwise_cons.1 h
    unfold place
    split
    · refine List.pairwise_cons.2 ⟨fun x hx => ?_, h⟩
      obtain rfl | hx := List.mem_cons.1 hx
      · assumption
      · exact TxFrame.before_trans ‹_› (hg x hx)
    · refine List.pairwise_cons.2 ⟨fun x hx => ?_, ih hr fun x hx => hf x (List.mem_cons_of_mem _ hx)⟩
      obtain rfl | hx := mem_place.1 hx
      · exact TxFrame.before_of_not ‹_› (hf g List.mem_cons_self)
      · exact hg x hx

end Sys2Proof.Machine
end

