-- ==== Sys2Proof/WellFormed.lean ====
section
/-! DEFINITION. Which commands the outside can send: the operand ranges the manual states for its inputs.
Every command has a meaning whether or not it is well-formed; the check says what a real wire, drive or pin delivers. -/

namespace Sys2Proof

/-- A value that fits a 3-byte length (section 1.6.1). -/
def inLengthRange (i : Int) : Bool := decide (-8388608 ≤ i ∧ i ≤ 8388607)

/-- The bytes of one whole frame: four header bytes, as many payload bytes as the length byte gives (32 at most),
and the check byte (R1). -/
def wholeFrame (bytes : List Byte) : Bool :=
  match bytes with
  | _ :: _ :: _ :: len :: rest => decide (len.toNat ≤ 32 ∧ rest.length = len.toNat + 1)
  | _ => false

/-- The operand ranges of the commands. -/
def Instr.wellFormed : Instr → Bool
  | .frameReceived bytes => wholeFrame bytes
  | .entrySilent carver => decide (carver < 32)
  | .actualPositionChange x y _ => inLengthRange x && inLengthRange y
  | .loadChange load _ => decide (load ≤ 200)
  | .pinReset => true
  | .leaveReset _ => true
  | .memoryTestEnd _ => true
  | .busIdle _ => true
  | .courtesyHoldEnd => true
  | .arbitrationLoss => true
  | .transmitFailure _ => true
  | .frameSent _ => true
  | .reset _ => true
  | .unusedFrameTaken => true
  | .join => true
  | .job => true
  | .start => true
  | .abort => true
  | .excuse => true
  | .resume => true
  | .clear => true
  | .finish => true
  | .query => true
  | .credit => true
  | .trace => true
  | .reach => true
  | .reachTimerExpiry => true
  | .viewStale _ => true
  | .settleTimerExpiry => true
  | .waitTimerExpiry => true
  | .enrolmentTimerExpiry => true
  | .tailTimerExpiry => true
  | .creditTimerExpiry => true
  | .emission => true
  | .probeReport _ => true
  | .passStartButton => true
  | .passEndButton => true
  | .headHandedOn => true
  | .setpointIssue => true
  | .arrived _ _ => true
  | .sweepEnd => true
  | .halted => true
  | .driveFaultReport _ => true
  | .faultCleared => true
  | .spinUpEnd => true
  | .highLoadExpiry => true
  | .lowLoadExpiry => true
  | .stall => true
  | .stopSensed => true
  | .stopReleased => true
  | .badFrame => true

end Sys2Proof
end

