-- ==== Sys2Proof/Tests/Slice0.lean ====
section
/-! SUPPORT. Tests: the manual's worked figures, one-step checks of commands, the smoke test of well-formedness, and for
every statement with hypotheses a witness that meets them. -/

namespace Sys2Proof.Tests

open Sys2Proof Sys2Proof.Machine

/-! ## Small stations -/

/-- The feed rates of the test jobs. -/
def feeds : Feeds := ⟨1500, 300, 3000, 2400⟩

/-- A plan of two steps: ROUGH, DRY to a floor of 6,000, then one LETTER pass. -/
def plan : List PlanStep := [⟨.rough, 2000, 2000, 6000, 2, 3, .dry⟩, ⟨.letter, 6000, 0, 6000, 0, 1, .once⟩]

/-- The job of carver station 4 in section 8.10, with the indexing of section 9.1. -/
def carverWork : CarverJob where
  tracer := 1
  snum := 3
  sden := 4
  mirror := true
  reversed := true
  xOff := 400000
  yOff := 50000
  dOff := -200
  phase := 32768
  dMax := 120000
  letterFactor := 443
  letterLimit := 5000
  baseX := 300000
  baseY := 40000
  shift := 12
  faces := [0, 16384]
  plan := plan

/-- A job record around the work of a role. -/
def record (w : Work) : JobRecord where
  id := 310
  halfLeft := 40000
  halfRight := 50000
  gap := 6000
  xMin := 0
  xMax := 1200000
  yMin := 0
  yMax := 600000
  clearance := -3000
  feeds := feeds
  work := w
  clamped := []

def carverRecord : JobRecord := record (.carver carverWork)

/-- A tracer's job on a small window, enrolling carvers 4 and 5. -/
def tracerWork (mode : Mode) : TracerJob where
  mode := mode
  u0 := 0
  u1 := 1000
  v0 := 0
  v1 := 1000
  spacing := 500
  stepovers := [100, 200, 400, 800]
  passLimit := 3
  useStore := false
  faces := [0, 16384]
  enrol := [4, 5]

def tracerRecord (mode : Mode) : JobRecord := record (.tracer (tracerWork mode))

/-- The straps of a station. -/
def straps (n : Fin 32) (role : Role) : Straps := ⟨n, role, 0, 1, .m1, false, true⟩

/-- Carver station 4 in a state, out of reset, with no job. -/
def bareCarver (st : StationState) : State :=
  { State.reset with
    straps := straps 4 .carver
    bus := { Bus.afterReset with rxPhase := .waitIdle }
    job := { JobStore.afterReset with state := st } }

/-- Carver station 4 in a state, holding its job. -/
def carver (st : StationState) : State :=
  let s := bareCarver st
  { s with job := { s.job with record := some carverRecord, halfLeft := 40000, halfRight := 50000 } }

/-- Tracer station 1 in a state, holding a job. -/
def tracer (mode : Mode) (st : StationState) : State :=
  { State.reset with
    straps := straps 1 .tracer
    bus := { Bus.afterReset with rxPhase := .waitIdle }
    job := { JobStore.afterReset with
      state := st, record := some (tracerRecord mode), halfLeft := 40000, halfRight := 50000 } }

/-- A frame of the job's id 310 in front of other payload bytes. -/
def frame (k : Kind) (src : Nat) (payload : List Byte) : Frame := ⟨k, src, 255, put16 310 ++ payload⟩

/-- A frame in the receive buffer. -/
def got (f : Frame) (s : State) : State := { s with bus := { s.bus with rx := [f] } }

/-- The state a command leads to. -/
def after (c : Instr) (s : State) : State :=
  match exec c s with
  | .next t => t
  | .fault _ => s
  | .refused _ => s

/-! ## Well-formedness -/

theorem test_short_frame_is_ill_formed : Instr.wellFormed (.frameReceived [1, 2, 3]) = false := by decide

theorem test_carver_number_is_ill_formed : Instr.wellFormed (.entrySilent 32) = false := by decide

theorem test_far_position_is_ill_formed : Instr.wellFormed (.actualPositionChange 8388608 0 0) = false := by decide

theorem test_load_is_ill_formed : Instr.wellFormed (.loadChange 201 false) = false := by decide

theorem test_whole_frame_is_well_formed : Instr.wellFormed (.frameReceived [0x5E, 7, 4, 0, 0x67]) = true := by decide

/-! ## Worked figures of the manual -/

/-- Section 13.8: the check byte of station 30's RESET of carver 4, and what carver 4 reads. -/
theorem test_worked_check_byte : checkByte [0x5E#8, 7, 4, 0] = 0x67#8 ∧ checkStep 255 0x5E#8 = 0xBF#8 := by decide +kernel

theorem test_worked_frame_reads : readFrame [0x5E#8, 7, 4, 0, 0x67#8] = some ⟨.reset, 30, 4, []⟩ := by decide +kernel

theorem test_changed_bit_fails_the_check : readFrame [0x5E#8, 7, 5, 0, 0x67#8] = none := by decide +kernel

/-- A record entry of the tests. -/
def entry (kind : EntryKind) (u v depth : Int) (width : Nat) : Entry :=
  ⟨kind, false, 1, 1, u, v, depth, 16384, width, 0, false⟩

/-- A setpoint in which the carriage may stand. -/
def setpoint (origin : Origin) (cutting : Bool) (cell : Option Nat) : Setpoint where
  x := 309999
  y := 49996
  depth := 5000
  angle := 16384
  feed := if cutting then .cut else .lift
  origin := origin
  traced := some 16384
  cutting := cutting
  air := false
  cell := cell
  marks := Marks.none

/-- The candidate of an entry of station 4. -/
def candidate (floor : Int) (kind : StepKind) (e : Entry) : Setpoint :=
  transform carverRecord carverWork floor kind (setpoint .entry true none) e

/-- Section 8.10, a surface point. -/
theorem test_surface_point :
    candidate 6000 .rough (entry .surface 120001 (-5) 10001 0) =
      { setpoint .entry true none with x := 309999, y := 49996, depth := 6000 } := by decide

/-- Section 8.10, a letter stroke under three floors and kinds, and one that is capped. -/
theorem test_letter_stroke :
    (candidate 6000 .letter (entry .stroke 120001 (-5) 10001 1500)).depth = 6000 ∧
    (candidate 15000 .letter (entry .stroke 120001 (-5) 10001 1500)).depth = 9246 ∧
    (candidate 6000 .rough (entry .stroke 120001 (-5) 10001 1500)).depth = 6000 ∧
    (candidate 15000 .letter (entry .stroke 120001 (-5) 10001 4000)).depth = 12300 ∧
    (candidate 15000 .letter (entry .stroke 120001 (-5) 10001 4000)).marks = ⟨false, false, true, false⟩ := by decide

/-- Section 8.10, ties and the mirror. -/
theorem test_ties_and_mirror :
    lateral carverWork (entry .surface 2 (-2) 0 0) = (399998, 49998) ∧
    (lateral carverWork (entry .surface (-2) 0 0 0)).1 = 400002 := by decide

/-- Section 8.10, a deep target in a later pass, and a surface above the blank. -/
theorem test_depth_limits :
    (candidate 20000 .rough (entry .surface 120001 (-5) 170000 0)).depth = 20000 ∧
    (candidate 20000 .rough (entry .surface 120001 (-5) 170000 0)).marks = ⟨false, false, false, true⟩ ∧
    (candidate 6000 .rough (entry .surface 0 0 (-9001) 0)).depth = -3000 ∧
    (candidate 6000 .rough (entry .surface 0 0 (-9001) 0)).cutting = false := by decide

/-- Section 8.10, beyond the travel window. -/
theorem test_out_of_travel :
    let sp := candidate 6000 .rough (entry .surface (-1100000) 800000 0 0)
    (sp.x, sp.y, sp.depth) = (1200000, 600000, -3000) ∧ sp.marks = ⟨false, true, false, false⟩ := by decide

/-- Section 9.1, the worked indexing. -/
theorem test_worked_indexing :
    carverWork.cellOf 309999 49996 (some 16384) = some (cellNumber 1 2 2) ∧
    carverWork.cellOf 315000 49996 (some 16384) = some (cellNumber 1 2 3) ∧
    carverWork.cellOf 299000 49996 (some 0) = none ∧
    carverWork.cellOf 562144 49996 (some 0) = none ∧
    carverWork.cellOf 562143 49996 (some 0) = some (cellNumber 0 2 63) ∧
    carverWork.cellOf 309999 49996 (some 32768) = none := by decide

/-- Section 9.7, pass 2: a gap-marked cell is not raised by its sweep; pass 3 raises it. -/
theorem test_worked_sweep :
    Cell.sweep ⟨4000, some 7300, true, true⟩ = ⟨4000, none, false, false⟩ ∧
    Cell.sweep ⟨4000, some 7300, true, false⟩ = ⟨7300, none, false, false⟩ := by decide

/-! ## One step of a command -/

theorem test_reset_then_leave : (after (.leaveReset (straps 4 .carver)) State.reset).selfTest = some 1 := by decide

theorem test_failed_memory :
    (after (.memoryTestEnd false) (after (.leaveReset (straps 4 .carver)) State.reset)).job.state = .failed := by decide

theorem test_start_runs_the_carver :
    (after .start (got (frame .start 30 []) (carver .armed))).job.state = .running ∧
    (after .start (got (frame .start 30 []) (carver .armed))).motion.spindle = .spinningUp 20000 := by decide

theorem test_start_of_another_job_is_stray :
    (after .start (got ⟨.start, 30, 255, put16 311⟩ (carver .armed))).cond.count .strayControls = 1 := by decide

theorem test_abort_discards : (after .abort (got (frame .abort 30 []) (carver .done))).job.record = none := by decide

/-- Section 3.8: a FINISH in EXCUSED is discarded. -/
theorem test_finish_in_excused :
    (after .finish (got (frame .finish 1 []) (carver .excused))).cond = ConditionUnit.afterReset := by decide

/-- Section 3.7: a JOB segment in ARMED is refused BUSY. -/
theorem test_job_is_busy :
    (after .job (got ⟨.job, 30, 4, put16 311 ++ [0, 1, 0, 84, 0, 0]⟩ (carver .armed))).job.refusal =
      some ⟨311, .busy, 0⟩ := by decide

theorem test_reach_of_own_number :
    (after .reach (got ⟨.reach, 4, 255, List.replicate 15 0⟩ (carver .idle))).cond.has .duplicateNumber = true := by decide

theorem test_overrun_of_the_receive_buffer :
    let full := { carver .idle with bus := { Bus.afterReset with rxPhase := .ready, rx := List.replicate 4 (frame .start 3 []) } }
    (after (.frameReceived (wireBytes 3 .start 255 (put16 310))) full).cond.count .receiveOverruns = 1 := by decide +kernel

theorem test_stall_suspends :
    let s := carver .running
    (after .stall { s with motion := { s.motion with stallTimer := some 0 } }).job.state = .suspended := by decide

theorem test_stop_sensed : (after .stopSensed (carver .running)).job.state = .stopped := by decide

theorem test_idle_station_ticks : (idle (carver .idle)).now = 1 ∧ (idle (carver .idle)).pending = [] := by decide

/-! ## Witnesses: a state and operands that meet the hypotheses of each statement -/

/-- A setpoint outstanding under a tag. -/
def out (tag : Byte) (sp : Setpoint) : Outstanding := ⟨tag, sp, 1500⟩

/-- A queued frame of an age. -/
def queued (k : Kind) (age : Nat) : TxFrame := ⟨k, 255, [], age⟩

/-- A station with a frame in transmission. -/
def sending (x : Sending) (s : State) : State :=
  { s with bus := { s.bus with rxPhase := .inFrame, sending := some x, offers := 9 } }

/-- A lag-table entry of the tests. -/
def lag (carver : Nat) (wants : Bool) (completed : Nat) : LagEntry where
  carver := carver
  capacity := 240
  released := 0
  last := .running
  completed := completed
  wants := wants
  cls := 2
  free := 240
  lastHeard := 0
  silent := false
  dropped := false
  presumed := false

/-- A trace record of the tests. -/
def traceRecord (seq : Seq) (kind : RecordKind) : TraceRecord := ⟨seq, 1, kind, 10, 20, 30, 0, 0, 2, 0⟩

/-- A tracer with its Pacer set. -/
def paced (st : StationState) (p : Pacer) : State := { tracer .raster st with pacer := p }

/-- A carver with its motion port set. -/
def moving (st : StationState) (m : Motion) : State := { carver st with motion := m }

theorem witness_StepTakesTheFrontCommand :
    (∃ (s : State) (c : Instr) (rest : List Instr), s.pending = c :: rest ∧ c = Instr.halted) ∧ ∃ s : State, s.pending = [] :=
  ⟨⟨{ carver .idle with pending := [.halted, .stall] }, .halted, [.stall], rfl, rfl⟩, carver .idle, rfl⟩

theorem witness_CommandsWriteOnlyTheirBlocks : ∃ s t : State, exec .stopSensed s = .next t :=
  ⟨carver .running, after .stopSensed (carver .running), rfl⟩

/-- A bus with three places in order, the second of two TRACE frames behind a REACH in transmission. -/
def busyBus : Bus :=
  { Bus.afterReset with
    queue := [queued .trace 0, queued .trace 2], sending := some ⟨queued .reach 1, some ⟨3, 255⟩⟩, offers := 4 }

theorem witness_StepKeepsTheTransmitQueue :
    ∃ s t : State, s.bus = busyBus ∧ s.bus.QueueForm ∧ step s = .next t :=
  ⟨{ carver .idle with bus := busyBus }, idle { carver .idle with bus := busyBus }, rfl,
    ⟨by decide, by decide, by decide, by decide, by decide, fun k h => by cases k <;> first | decide | exact absurd h (by decide), by
      intro x h _
      cases h
      rfl, by decide⟩, rfl⟩

/-- A carver with a cell cut, an entry posted and a frame received. -/
def busyCarver : State :=
  let s := got (frame .start 30 []) (carver .running)
  { s with
    pq := { s.pq with free := 239, posted := [entry .surface 0 0 0 0] }
    map := { s.map with cells := [(4226, ⟨4000, none, false, false⟩)] } }

theorem witness_StepKeepsTheBuffersBounded : ∃ s t : State, s.Bounded ∧ s.map.cells ≠ [] ∧ step s = .next t :=
  ⟨busyCarver, idle busyCarver,
    ⟨by decide, by decide, by decide, by decide, by decide, by decide, by decide, by decide, by decide⟩, by decide, rfl⟩

/-- A carver that has just been stopped. -/
def stoppedCarver : State := after .stopSensed (carver .running)

theorem settled_stoppedCarver : stoppedCarver.Settled where
  noRecord := by decide
  record := by decide
  role := by
    intro r h
    have h' : carverRecord = r := Option.some.inj h
    subst h'
    rfl
  widths := by
    intro r h
    have h' : carverRecord = r := Option.some.inj h
    subst h'
    decide
  assembly := by decide
  back := by
    intro a h
    cases h
  finishing := by decide
  selfTest := by decide
  pacer := by decide
  enrolTimer := by decide
  decision := by decide
  stallTimer := by decide
  check := by decide
  announce := by decide
  settleTimer := by decide
  waitTimer := by decide
  one := by decide
  remembered := by decide
  still := by decide

theorem witness_StepKeepsTheStationSettled : ∃ s t : State, s.Settled ∧ s.job.state = .stopped ∧ step s = .next t :=
  ⟨stoppedCarver, idle stoppedCarver, settled_stoppedCarver, rfl, rfl⟩

/-- The busy carver with a condition set, in MUTE, pulling the line. -/
def pullingCarver : State :=
  { busyCarver with
    bus := { busyCarver.bus with mute := true, drivePull := true }
    cond := { ConditionUnit.afterReset with set := Cond.bedStop.mask } }

theorem witness_OnlyTheNamedCommandsUndo :
    ∃ (c : Instr) (s t : State), exec c s = .next t ∧ c ≠ .pinReset ∧ (∀ p, c ≠ .reset p) ∧ c ≠ .clear ∧ c ≠ .job ∧
      s.cond.counters.length = 15 ∧ (∀ n ∈ s.cond.counters, n ≤ 65535) ∧ s.cond.has .bedStop = true ∧
      s.bus.mute = true ∧ s.bus.drivePull = true ∧ s.map.wf ∧ (s.map.read 4226).cleared = 4000 :=
  ⟨.stall, pullingCarver, after .stall pullingCarver, rfl, by decide, fun _ h => (by cases h), by decide, by decide,
    by decide, by decide, by decide, by decide, by decide, by decide, by decide⟩

/-- Section 8.10's surface point meets the Transform's hypotheses; so do the same figures at the other kinds. -/
theorem witness_TransformFollowsItsRules :
    1 ≤ carverWork.sden ∧ RoundsHalfAway 90001 (120001 * carverWork.snum) carverWork.sden ∧
      RoundsHalfAway (-4) (-5 * carverWork.snum) carverWork.sden ∧
      RoundsDown 7500 (10001 * carverWork.snum) carverWork.sden ∧
      RoundsDown 1946 (1500 * carverWork.snum * carverWork.letterFactor) (carverWork.sden * 256) ∧
      RoundsHalfAway (-2) (-2 * carverWork.snum) carverWork.sden ∧
      carverRecord.xMin ≤ carverRecord.xMax ∧ carverRecord.yMin ≤ carverRecord.yMax := by
  unfold RoundsHalfAway RoundsDown
  decide

/-- Section 9.1's indexing: a tracked position at the map's edge, one beyond it, and one of no face. -/
theorem witness_AirTestFollowsItsRules :
    carverWork.faces.Nodup ∧ RoundsDown 63 (562143 - carverWork.baseX) (2 ^ carverWork.shift) ∧
      RoundsDown 64 (562144 - carverWork.baseX) (2 ^ carverWork.shift) ∧
      RoundsDown (-1) (299000 - carverWork.baseX) (2 ^ carverWork.shift) ∧
      RoundsDown 2 (49996 - carverWork.baseY) (2 ^ carverWork.shift) ∧ carverWork.faces[1]? = some 16384 ∧
      (32768 : Angle) ∉ carverWork.faces := by
  unfold RoundsDown
  decide

theorem witness_ResetsHoldAndReleaseTheStation :
    State.reset.job.state = .held ∧ (straps 4 .carver).selfCheck = true ∧
      ({ straps 4 .carver with selfCheck := false } : Straps).selfCheck = false ∧ (carver .idle).job.state ≠ .held ∧
      ({ Bus.afterReset with resetDue := true } : Bus).resetDue = true ∧ (carver .idle).bus.resetDue = false := by decide

theorem witness_MemoryTestEndsStarting :
    ∃ s : State, s.selfTest = some 1 ∧ s.roster.entries.length = 32 ∧ s.bus.queue = [] ∧ s.bus.sending = none ∧
      s.bus.mute = false ∧ s.cond.risen = none ∧ s.inputs.driveFault = none ∧ s.job.state = .starting :=
  ⟨after (.leaveReset (straps 4 .carver)) State.reset, by decide⟩

theorem witness_MemoryTestEndsStarting_last :
    ∃ s : State, s.selfTest = some 2 ∧ s.roster.entries.length = 32 ∧ s.bus.queue = [] ∧ s.cond.risen = none :=
  ⟨after (.memoryTestEnd true) (after (.leaveReset (straps 4 .carver)) State.reset), by decide⟩

theorem witness_ContentionStartsTheHeadFrame :
    ∃ s : State, ∃ f rest, s.bus.sending = none ∧ s.bus.rxPhase = .ready ∧ s.bus.hold = true ∧ s.bus.queue = f :: rest ∧
      s.bus.mute = false ∧ (s.bus.hold && !(s.bus.rxPhase == .ready && true)) = false :=
  ⟨{ carver .idle with bus := { Bus.afterReset with rxPhase := .ready, hold := true, queue := [queued .reach 0] } },
    queued .reach 0, [], by decide⟩

theorem witness_ContentionStartsTheHeadFrame_held :
    ∃ s : State, s.bus.sending = none ∧ s.bus.rxPhase ≠ .off ∧ s.bus.queue = [] :=
  ⟨carver .idle, by decide⟩

theorem witness_ReadFrameTakesExactlyWireBytes :
    ∃ f : Frame, f.src < 32 ∧ f.kind.allows f.payload.length = true :=
  ⟨⟨.reply, 31, 30, List.replicate 32 0⟩, by decide⟩

theorem witness_LostAttemptsKeepTheFrame :
    (∃ s : State, ∃ x, s.bus.sending = some x ∧ s.bus.failures = 14) ∧ ∃ s : State, ∃ x, s.bus.sending = some x ∧ s.bus.failures = 15 :=
  let s (n : Nat) : State := { carver .idle with
    bus := { Bus.afterReset with sending := some ⟨queued .trace 1, none⟩, failures := n } }
  ⟨⟨s 14, _, rfl, rfl⟩, s 15, _, rfl, rfl⟩

theorem witness_FrameSentFreesItsPlace :
    ∃ s : State, ∃ x, s.bus.sending = some x ∧ x.again.isSome = true ∧ s.pacer.finishDue = false ∧ s.gen.due = [] ∧
      s.roster.joinDue = none :=
  ⟨sending ⟨queued .reach 1, some ⟨3, 255⟩⟩ (carver .idle), ⟨queued .reach 1, some ⟨3, 255⟩⟩, by decide⟩

/-- A tracer that sends a TRACE while five general places are held. -/
def fullTracer : State :=
  let s := sending ⟨queued .trace 0, none⟩ (tracer .raster .running)
  { s with
    bus := { s.bus with queue := [queued .trace 1, queued .trace 2, queued .trace 3, queued .join 4] } }

theorem witness_FrameSentFreesItsPlace_finish :
    ∃ s : State, ∃ x, s.bus.sending = some x ∧ x.frame.kind.isReport = false ∧ x.again = none ∧ s.bus.mute = false ∧
      s.bus.generalHeld ≤ 5 ∧ s.pacer.finishDue = true ∧ s.isRunning = true :=
  ⟨{ fullTracer with pacer := { Pacer.afterReset with finishDue := true } }, ⟨queued .trace 0, none⟩, by decide⟩

theorem witness_FrameSentFreesItsPlace_trace :
    ∃ s : State, ∃ x r rest, s.bus.sending = some x ∧ x.frame.kind.isReport = false ∧ x.again = none ∧ s.bus.mute = false ∧
      s.bus.generalHeld ≤ 5 ∧ s.pacer.finishDue = false ∧ s.isRunning = true ∧ s.straps.role = .tracer ∧
      s.gen.phase ≠ .awaitStart ∧ (s.bus.queue.filter fun f => f.kind == .trace).length < 4 ∧
      s.tracerJob.isSome = true ∧ s.gen.due = r :: rest ∧ s.pacer.allows r.seq = true :=
  ⟨{ fullTracer with gen := { Generator.afterReset with due := [traceRecord 240 .surface] }
                     pacer := { Pacer.afterReset with phase := .passing, lag := [lag 4 true 0] } },
    ⟨queued .trace 0, none⟩, traceRecord 240 .surface, [], by decide⟩

theorem witness_FrameSentFreesItsPlace_join :
    ∃ s : State, ∃ x a, s.bus.sending = some x ∧ x.frame.kind.isReport = false ∧ x.again = none ∧ s.bus.mute = false ∧
      s.bus.generalHeld ≤ 5 ∧ s.pacer.finishDue = false ∧ s.gen.due = [] ∧ s.roster.joinDue = some a :=
  ⟨{ fullTracer with roster := { Roster.afterReset with joinDue := some true } }, ⟨queued .trace 0, none⟩, true,
    by decide⟩

theorem witness_ReceivedFramesAreSettled :
    (∃ s : State, ∃ f bytes, s.listening = true ∧ s.bus.sending = none ∧ readFrame bytes = some f ∧
      f.dest = byteOf s.straps.number.val ∧ s.bus.rx.length < 4 ∧ f.kind = .reset) ∧
    (∃ s : State, ∃ f bytes, s.listening = true ∧ s.bus.sending.isSome = true ∧ readFrame bytes = some f ∧ f.dest = 255 ∧
      4 ≤ s.bus.rx.length) ∧
    ∃ s : State, s.listening = true ∧ s.bus.sending.isSome = true ∧ readFrame [] = none :=
  let own := sending ⟨queued .trace 0, none⟩ (carver .idle)
  ⟨⟨{ carver .idle with bus := { Bus.afterReset with rxPhase := .ready } }, ⟨.reset, 30, 4, []⟩,
    [0x5E, 7, 4, 0, 0x67], by decide +kernel⟩,
    ⟨{ own with bus := { own.bus with rx := List.replicate 4 (frame .start 3 []) } }, ⟨.start, 4, 255, put16 310⟩,
      wireBytes 4 .start 255 (put16 310), by decide +kernel⟩, own, by decide +kernel⟩

theorem witness_UntakenFramesHaveNoFurtherEffect :
    (∃ s : State, ∃ f rest, s.bus.rx = f :: rest ∧ f.kind = .alert) ∧ (carver .idle).bus.rx.head?.map (·.kind) ≠ some .join :=
  ⟨⟨got ⟨.alert, 3, 255, List.replicate 8 0⟩ (carver .idle), _, _, rfl, rfl⟩, by decide⟩

/-! Jobs (chapter 3). -/

/-- A JOB segment of job 311 to carver 4: index, flags, then its data. -/
def segment (index flags : Byte) (data : List Byte) : Frame := ⟨.job, 30, 4, put16 311 ++ [index, flags] ++ data⟩

theorem witness_JobSegmentsAreRefusedOrAssembled_refused :
    (∃ s : State, ∃ f rest, s.bus.rx = f :: rest ∧ f.kind = .job ∧ f.dest ≠ 255 ∧ s.job.state ∈ [.armed, .failed]) ∧
    (∃ s : State, ∃ f rest, s.bus.rx = f :: rest ∧ f.kind = .job ∧ f.dest ≠ 255 ∧ s.job.state ∈ [.ready, .idle, .done] ∧
      byteAt f.payload 3 % 2 = 0) ∧
    ∃ s : State, ∃ f rest, s.bus.rx = f :: rest ∧ f.kind = .job ∧ f.dest = 255 :=
  ⟨⟨got (segment 0 1 []) (carver .armed), _, _, rfl, by decide⟩,
    ⟨got (segment 1 2 [5]) (bareCarver .idle), _, _, rfl, by decide⟩,
    got ⟨.job, 30, 255, put16 311 ++ [0, 1]⟩ (carver .armed), _, _, rfl, by decide⟩

/-- Carver 4 in LOADING with some bytes of job 311. -/
def loading (total : Nat) (data : List Byte) : State :=
  let s := bareCarver .loading
  { s with job := { s.job with assembly := some ⟨311, total, 0, data, .idle⟩ } }

/-- A continuing segment out of order, in LOADING. -/
theorem witness_JobSegmentsAreRefusedOrAssembled_dropped :
    ∃ s : State, ∃ f rest a, s.bus.rx = f :: rest ∧ f.kind = .job ∧ f.dest ≠ 255 ∧ s.job.state = .loading ∧
      s.job.assembly = some a ∧ byteAt f.payload 3 % 2 = 0 ∧ byteAt f.payload 2 ≠ a.lastIndex + 1 ∧ a.back ≠ .running :=
  ⟨got (segment 2 2 [7]) (loading 4 [0, 4, 1]), _, _, _, rfl, rfl, by decide, rfl, rfl, by decide⟩

theorem witness_JobSegmentsAreRefusedOrAssembled :
    (∃ s : State, ∃ f rest, s.bus.rx = f :: rest ∧ f.kind = .job ∧ f.dest ≠ 255 ∧ byteAt f.payload 3 / 2 % 2 = 1 ∧
      s.job.state ∈ [.ready, .idle, .done, .loading] ∧ byteAt f.payload 3 % 2 = 1 ∧ byteAt f.payload 2 = 0 ∧
      1 ≤ u16At f.payload 0 ∧ 2 ≤ (f.payload.drop 4).length ∧ u16At f.payload 4 = 336 ∧ (f.payload.drop 4).length ≤ 336) ∧
    ∃ s : State, ∃ f rest a, s.bus.rx = f :: rest ∧ f.kind = .job ∧ f.dest ≠ 255 ∧ byteAt f.payload 3 / 2 % 2 = 1 ∧
      s.job.assembly = some a ∧ s.job.state = .loading ∧ byteAt f.payload 3 % 2 = 0 ∧ u16At f.payload 0 = a.jobId ∧
      byteAt f.payload 2 = a.lastIndex + 1 ∧ byteAt f.payload 2 ≤ 11 ∧
      a.data.length + (f.payload.drop 4).length ≤ a.total :=
  ⟨⟨got (segment 0 3 [1, 80, 0]) (bareCarver .ready), _, _, rfl, by decide⟩,
    got (segment 1 2 [7]) (loading 4 [0, 4, 1]), _, _, _, rfl, rfl, by decide, by decide, rfl, by decide⟩

/-- The 84 data bytes of a carver's job with one face and one plan step, as section 3.7 loads one (section 13.6). -/
def carverData : List Byte :=
  [0, 84, 1] ++ put24 40000 ++ put24 50000 ++ put24 6000 ++ put24 0 ++ put24 1200000 ++ put24 0 ++ put24 600000
    ++ put24 (16777216 - 3000) ++ put16 1500 ++ put16 300 ++ put16 3000 ++ put16 2400 ++ [1] ++ put16 3 ++ put16 4 ++ [1]
    ++ put24 400000 ++ put24 50000 ++ put24 0 ++ put16 0 ++ put24 120000 ++ put16 443 ++ put24 5000 ++ put24 300000
    ++ put24 40000 ++ [12, 1] ++ put16 0 ++ [1] ++ [0] ++ put24 2000 ++ put24 2000 ++ put24 6000 ++ [2, 3, 1]

theorem test_carver_data_length : carverData.length = 84 := by decide

theorem witness_JobAssemblyEndsInArmedOrRefused :
    (∃ s : State, ∃ f rest a, s.bus.rx = f :: rest ∧ f.kind = .job ∧ f.dest ≠ 255 ∧ s.job.assembly = some a ∧
      s.job.state = .loading ∧ byteAt f.payload 3 % 4 = 0 ∧ u16At f.payload 0 = a.jobId ∧
      byteAt f.payload 2 = a.lastIndex + 1 ∧ byteAt f.payload 2 ≤ 11 ∧
      (a.data ++ f.payload.drop 4).length = a.total ∧
      validate s.straps.number.val s.straps.role a.jobId (a.data ++ f.payload.drop 4) = none) ∧
    ∃ s : State, ∃ f rest a, s.bus.rx = f :: rest ∧ f.kind = .job ∧ f.dest ≠ 255 ∧ s.job.assembly = some a ∧
      s.job.state = .loading ∧ byteAt f.payload 3 % 4 = 0 ∧ u16At f.payload 0 = a.jobId ∧
      byteAt f.payload 2 = a.lastIndex + 1 ∧ (a.data ++ f.payload.drop 4).length < a.total :=
  ⟨⟨got (segment 1 0 (carverData.drop 60)) (loading 84 (carverData.take 60)), _, _, _, rfl, rfl, by decide, rfl, rfl,
    by decide⟩, got (segment 1 0 [7]) (loading 84 (carverData.take 60)), _, _, _, rfl, rfl, by decide, rfl, rfl, by decide⟩

theorem witness_StartRunsTheArmedStation :
    (∃ s : State, ∃ f rest r c, s.bus.rx = f :: rest ∧ f.kind = .start ∧ s.job.state = .armed ∧ s.job.record = some r ∧
      u16At f.payload 0 = r.id ∧ s.motion.closing = none ∧ r.work = .carver c ∧ s.straps.role = .carver) ∧
    ∃ s : State, ∃ f rest r w, s.bus.rx = f :: rest ∧ f.kind = .start ∧ s.job.state = .armed ∧ s.job.record = some r ∧
      u16At f.payload 0 = r.id ∧ s.motion.closing = none ∧ r.work = .tracer w ∧ s.straps.role = .tracer :=
  ⟨⟨got (frame .start 30 []) (carver .armed), _, _, _, _, rfl, rfl, rfl, rfl, by decide, rfl, rfl, rfl⟩,
    got (frame .start 30 []) (tracer .raster .armed), _, _, _, _, rfl, rfl, rfl, rfl, by decide, rfl, rfl, rfl⟩

theorem witness_UntakenFramesHaveNoFurtherEffect_stray :
    (∃ s : State, ∃ f rest, s.bus.rx = f :: rest ∧ f.kind = .start ∧ s.job.state ≠ .armed) ∧
    (∃ s : State, ∃ f rest, s.bus.rx = f :: rest ∧ f.kind = .abort ∧ s.job.state ∈ [.ready, .idle, .failed]) ∧
    (∃ s : State, ∃ f rest, s.bus.rx = f :: rest ∧ f.kind = .excuse ∧ s.straps.role = .tracer ∧
      byteAt f.payload 2 ∉ (s.tracerJob.map (·.enrol)).getD []) ∧
    (∃ s : State, ∃ f rest, s.bus.rx = f :: rest ∧ f.kind = .excuse ∧ s.straps.role = .carver ∧
      byteAt f.payload 2 = s.straps.number.val ∧ s.job.state ∉ [.armed, .running, .stopped, .suspended, .excused, .done]) ∧
    (∃ s : State, ∃ f rest, s.bus.rx = f :: rest ∧ f.kind = .resume ∧ s.job.state ≠ .stopped ∧
      s.holdsId (u16At f.payload 0) = true) ∧
    (∃ s : State, ∃ f rest, s.bus.rx = f :: rest ∧ f.kind = .finish ∧ s.straps.role = .tracer) ∧
    (∃ s : State, ∃ f rest, s.bus.rx = f :: rest ∧ f.kind = .trace ∧ s.straps.role = .tracer) ∧
    ∃ s : State, ∃ f rest, s.bus.rx = f :: rest ∧ f.kind = .trace ∧ s.straps.role = .carver ∧
      s.job.state ∉ [.running, .stopped] :=
  ⟨⟨got (frame .start 30 []) (carver .running), _, _, rfl, by decide⟩,
    ⟨got (frame .abort 30 []) (bareCarver .idle), _, _, rfl, by decide⟩,
    ⟨got (frame .excuse 30 [6]) (tracer .raster .running), _, _, rfl, by decide⟩,
    ⟨got (frame .excuse 30 [4]) (bareCarver .idle), _, _, rfl, by decide⟩,
    ⟨got (frame .resume 30 []) (carver .running), _, _, rfl, by decide⟩,
    ⟨got (frame .finish 30 []) (tracer .raster .running), _, _, rfl, by decide⟩,
    ⟨got ⟨.trace, 1, 255, List.replicate 18 1⟩ (tracer .raster .running), _, _, rfl, by decide⟩,
    got ⟨.trace, 1, 255, List.replicate 18 1⟩ (carver .done), _, _, rfl, by decide⟩

/-- A tracer whose job is done, two passes traced and the first stored, with the next job's assembly begun. -/
def reloading : State :=
  let s := tracer .raster .loading
  { s with
    job := { s.job with assembly := some ⟨311, 84, 0, [], .done⟩ }
    pacer := { s.pacer with pass := 2 }
    store := { s.store with state := .complete } }

theorem witness_AbortDiscardsTheJob :
    (∃ s : State, ∃ f rest r c, s.bus.rx = f :: rest ∧ f.kind = .abort ∧ s.job.state = .stopped ∧
      s.holdsId (u16At f.payload 0) = true ∧ s.job.record = some r ∧ r.work = .carver c ∧ s.motion.closing = none) ∧
    (∃ s : State, ∃ f rest r w, s.bus.rx = f :: rest ∧ f.kind = .abort ∧ s.job.state = .running ∧
      s.holdsId (u16At f.payload 0) = true ∧ s.job.record = some r ∧ r.work = .tracer w) ∧
    (∃ s : State, ∃ f rest, s.bus.rx = f :: rest ∧ f.kind = .abort ∧ s.job.state = .loading ∧ u16At f.payload 0 = 0 ∧
      s.straps.role = .tracer ∧ s.pacer.pass = 2) ∧
    ∃ s : State, ∃ f rest, s.bus.rx = f :: rest ∧ f.kind = .abort ∧ s.job.state = .loading ∧ u16At f.payload 0 = 0 :=
  ⟨⟨got (frame .abort 30 []) (carver .stopped), _, _, _, _, rfl, rfl, rfl, by decide, rfl, rfl, rfl⟩,
    ⟨got (frame .abort 30 []) (tracer .raster .running), _, _, _, _, rfl, rfl, rfl, by decide, rfl, rfl⟩,
    ⟨got ⟨.abort, 30, 255, [0, 0]⟩ reloading, _, _, rfl, by decide⟩,
    got ⟨.abort, 30, 255, [0, 0]⟩ (loading 84 []), _, _, rfl, by decide⟩

/-- R90, R93: the abort of an assembly begun in DONE ends the job before, and leaves the store to be read. -/
theorem test_abort_in_loading_ends_the_pass :
    (after .abort (got ⟨.abort, 30, 255, [0, 0]⟩ reloading)).pacer.pass = 0 ∧
      (after .abort (got ⟨.abort, 30, 255, [0, 0]⟩ reloading)).store.state = .complete := by decide

theorem witness_ExcuseRemovesTheCarver :
    (∃ s : State, ∃ f rest r w, s.bus.rx = f :: rest ∧ f.kind = .excuse ∧ s.job.state ∈ [.armed, .running, .stopped] ∧
      s.job.record = some r ∧ u16At f.payload 0 = r.id ∧ r.work = .tracer w ∧ s.straps.role = .tracer ∧
      byteAt f.payload 2 ∈ w.enrol) ∧
    ∃ s : State, ∃ f rest r c, s.bus.rx = f :: rest ∧ f.kind = .excuse ∧ s.job.state ∈ [.armed, .running, .stopped] ∧
      s.job.record = some r ∧ u16At f.payload 0 = r.id ∧ r.work = .carver c ∧ s.straps.role = .carver ∧
      byteAt f.payload 2 = s.straps.number.val :=
  ⟨⟨got (frame .excuse 30 [4]) (tracer .raster .running), _, _, _, _, rfl, rfl, by decide, rfl, by decide, rfl, rfl,
    by decide⟩,
    got (frame .excuse 30 [4]) (carver .running), _, _, _, _, rfl, rfl, by decide, rfl, by decide, rfl, rfl, by decide⟩

/-- A station stopped out of a state, its line released. -/
def stoppedFrom (st : StationState) (s : State) : State :=
  { s with job := { s.job with state := .stopped, remembered := st } }

theorem witness_ResumeReturnsToTheRememberedState :
    (∃ s : State, ∃ f rest r c, s.bus.rx = f :: rest ∧ f.kind = .resume ∧ s.job.state = .stopped ∧
      s.job.record = some r ∧ u16At f.payload 0 = r.id ∧ s.bus.sensedLow = false ∧ s.job.remembered = .running ∧
      s.motion.closing = none ∧ r.work = .carver c ∧ s.straps.role = .carver) ∧
    (∃ s : State, ∃ f rest r, s.bus.rx = f :: rest ∧ f.kind = .resume ∧ s.job.state = .stopped ∧
      s.job.record = some r ∧ u16At f.payload 0 = 0 ∧ s.bus.sensedLow = false ∧ s.job.remembered = .armed) ∧
    ∃ s : State, ∃ f rest r, s.bus.rx = f :: rest ∧ f.kind = .resume ∧ s.job.state = .stopped ∧
      s.job.record = some r ∧ u16At f.payload 0 = r.id ∧ s.bus.sensedLow = true ∧ s.cond.has .resumeRefused = false :=
  ⟨⟨got (frame .resume 30 []) (stoppedFrom .running (carver .running)), _, _, _, _, rfl, rfl, rfl, rfl, by decide, rfl, rfl,
    rfl, rfl, rfl⟩,
    ⟨got ⟨.resume, 30, 255, [0, 0]⟩ (stoppedFrom .armed (carver .armed)), _, _, _, rfl, rfl, rfl, rfl, by decide, rfl, rfl⟩,
    got (frame .resume 30 []) stoppedCarver, _, _, _, rfl, rfl, rfl, rfl, by decide, rfl, by decide⟩

theorem witness_ClearClearsTheNamedConditions :
    (∃ s : State, ∃ f rest, s.bus.rx = f :: rest ∧ f.kind = .clear ∧ s.holdsId (u16At f.payload 0) = true ∧
      s.cond.has .bedStop = true) ∧
    ∃ s : State, ∃ f rest, s.bus.rx = f :: rest ∧ f.kind = .clear ∧ u16At f.payload 0 ≠ 0 ∧
      s.holdsId (u16At f.payload 0) = false :=
  ⟨⟨got (frame .clear 30 [0, 0, 0, 128]) stoppedCarver, _, _, rfl, by decide⟩,
    got (frame .clear 30 [0, 0, 0, 128]) (bareCarver .idle), _, _, rfl, by decide⟩

/-- What the cases of FinishSetsTheFinishingFlag have in common. -/
abbrev finishes (s : State) : Prop :=
  s.bus.rx = [frame .finish 1 []] ∧ s.straps.role = .carver ∧ s.job.record = some carverRecord ∧
    u16At (frame .finish 1 []).payload 0 = carverRecord.id ∧ carverWork.tracer = 1

/-- In STOPPED, a second time, in DONE, with a lift on its way, and with the carriage in the lift already. -/
theorem witness_FinishSetsTheFinishingFlag :
    (∃ s : State, finishes s ∧ s.job.state = .stopped ∧ s.job.finishing = false ∧ s.motion.closing = none ∧
      s.motion.portLift = none ∧ s.motion.waiting = []) ∧
    (∃ s : State, finishes s ∧ s.job.state = .running ∧ s.job.finishing = true) ∧
    (∃ s : State, finishes s ∧ s.job.state ∈ [.suspended, .excused, .done]) ∧
    (∃ s : State, finishes s ∧ s.job.state = .running ∧ s.job.finishing = false ∧ s.pq.posted = [] ∧ s.pq.issued = [] ∧
      s.guard.atCheck = none ∧ s.guard.passed = none ∧ s.motion.outstanding ≠ []) ∧
    ∃ s : State, ∃ ref, finishes s ∧ s.job.state = .running ∧ s.job.finishing = false ∧ s.pq.posted = [] ∧
      s.pq.issued = [] ∧ s.guard.atCheck = none ∧ s.guard.passed = none ∧ s.motion.outstanding = [] ∧
      s.motion.refArrived = true ∧ s.motion.reference = some ref ∧ ref.feed = .lift ∧ ref.depth = carverRecord.clearance :=
  let run (m : Motion) : State := got (frame .finish 1 []) (moving .running m)
  let again := run Motion.afterReset
  ⟨⟨got (frame .finish 1 []) (carver .stopped), by decide⟩,
    ⟨{ again with job := { again.job with finishing := true } }, by decide⟩,
    ⟨got (frame .finish 1 []) (carver .done), by decide⟩,
    ⟨run { Motion.afterReset with outstanding := [out 0 (setpoint .jobStartLift false none)] }, by decide⟩,
    run { Motion.afterReset with
      reference := some { setpoint .jobStartLift false none with depth := -3000 }, refArrived := true }, _, by decide,
    rfl, rfl, rfl, rfl, rfl, rfl, rfl, rfl, rfl, rfl, rfl⟩

theorem witness_QueryIsAnsweredOnce :
    (∃ s : State, ∃ f rest, s.bus.rx = f :: rest ∧ f.kind = .query ∧ f.dest ≠ 255 ∧ s.bus.mute = false ∧
      s.bus.generalHeld < 5 ∧ byteAt f.payload 0 = 3 ∧ s.straps.role = .carver) ∧
    (∃ s : State, ∃ f rest, s.bus.rx = f :: rest ∧ f.kind = .query ∧ f.dest ≠ 255 ∧ s.bus.mute = true) ∧
    (∃ s : State, ∃ f rest left, s.bus.rx = f :: rest ∧ f.kind = .query ∧ f.dest ≠ 255 ∧ s.map.sweeping = true ∧
      s.map.sweepTimer = some left) ∧
    ∃ s : State, ∃ f rest, s.bus.rx = f :: rest ∧ f.kind = .query ∧ f.dest = 255 :=
  ⟨⟨got ⟨.query, 30, 4, [3]⟩ (carver .running), _, _, rfl, by decide⟩,
    ⟨got ⟨.query, 30, 4, [1]⟩ pullingCarver, _, _, rfl, by decide⟩,
    ⟨got ⟨.query, 30, 4, [4]⟩ { carver .running with map := CutMap.afterReset.startSweep }, _, _, 33, rfl, by decide⟩,
    got ⟨.query, 30, 255, []⟩ (carver .running), _, _, rfl, by decide⟩

/-! The tracer (chapters 4 to 6). -/

/-- A tracer in ENROLLING with a lag table. -/
def enrolling (l : List LagEntry) : State :=
  paced .running { Pacer.afterReset with phase := .enrolling, enrolTimer := some 0, lag := l }

theorem witness_CreditAdmitsACarver :
    ∃ s : State, ∃ f rest r w, s.bus.rx = f :: rest ∧ f.kind = .credit ∧ s.straps.role = .tracer ∧
      s.job.record = some r ∧ r.work = .tracer w ∧ s.pacer.phase = .enrolling ∧ s.pacer.decision = none ∧
      s.pacer.finishDue = false ∧ f.src ∈ w.enrol ∧ (∀ e ∈ s.pacer.lag, e.carver ≠ f.src) ∧ u16At f.payload 0 = r.id ∧
      byteAt f.payload 2 ∈ [4, 5, 7] ∧ u16At f.payload 3 = 0 ∧ byteAt f.payload 6 = 0 ∧ byteAt f.payload 5 = 240 ∧
      byteAt f.payload 7 ≤ 1 ∧ byteAt f.payload 8 ≤ 3 ∧ ∃ k ∈ w.enrol, k ≠ f.src ∧ ∀ e ∈ s.pacer.lag, e.carver ≠ k :=
  ⟨got (frame .credit 4 [5, 0, 0, 240, 0, 1, 2]) (enrolling []), _, _, _, _, rfl, rfl, rfl, rfl, rfl, rfl, rfl, rfl,
    by decide⟩

theorem witness_CreditUpdatesItsEntry :
    (∃ s : State, ∃ f rest r e, s.bus.rx = f :: rest ∧ f.kind = .credit ∧ s.straps.role = .tracer ∧
      s.job.record = some r ∧ s.pacer.phase = .passing ∧ s.pacer.lag.find? (fun e => e.carver == f.src) = some e ∧
      e.dropped = false ∧ byteAt f.payload 7 ≤ 1 ∧ byteAt f.payload 8 ≤ 3 ∧ u16At f.payload 0 = r.id ∧
      byteAt f.payload 2 ∈ [4, 5, 7]) ∧
    (∃ s : State, ∃ f rest r, s.bus.rx = f :: rest ∧ f.kind = .credit ∧ s.job.record = some r ∧
      s.pacer.phase = .passing ∧ (s.pacer.lag.find? fun e => e.carver == f.src).isSome = true ∧
      u16At f.payload 0 = r.id ∧ byteAt f.payload 2 ∈ [6, 8, 9]) ∧
    ∃ s : State, ∃ f rest r, s.bus.rx = f :: rest ∧ f.kind = .credit ∧ s.job.record = some r ∧
      s.pacer.phase = .passing ∧ (s.pacer.lag.find? fun e => e.carver == f.src).isSome = true ∧ u16At f.payload 0 ≠ r.id :=
  let s : State := paced .running { Pacer.afterReset with phase := .passing, lag := [lag 4 true 0] }
  ⟨⟨got (frame .credit 4 [5, 0, 0, 240, 0, 1, 2]) s, _, _, _, lag 4 true 0, rfl, rfl, rfl, rfl, rfl, rfl, rfl, by decide⟩,
    ⟨got (frame .credit 4 [8, 0, 0, 240, 0, 1, 2]) s, _, _, _, rfl, rfl, rfl, rfl, by decide⟩,
    got ⟨.credit, 4, 255, [0, 1, 5, 0, 0, 240, 0, 1, 2]⟩ s, _, _, _, rfl, rfl, rfl, rfl, by decide⟩

theorem witness_PacerTimersEnd_enrolment :
    (∃ s : State, ∃ r w, s.job.record = some r ∧ r.work = .tracer w ∧ s.pacer.enrolTimer.isSome = true ∧
      s.pacer.phase = .enrolling ∧ s.pacer.decision = none ∧ s.pacer.finishDue = false ∧ s.job.state ≠ .stopped ∧
      s.pacer.lag = []) ∧
    (∃ s : State, ∃ r w e, s.job.record = some r ∧ r.work = .tracer w ∧ s.pacer.enrolTimer.isSome = true ∧
      s.pacer.phase = .enrolling ∧ s.pacer.decision = none ∧ s.pacer.finishDue = false ∧ s.job.state ≠ .stopped ∧
      w.passLimit ≠ 0 ∧ e ∈ s.pacer.lag ∧ e.dropped = false ∧ e.wants = true ∧
      (∀ x ∈ s.pacer.lag, x.dropped = false → x.wants = true → e.cls ≤ x.cls) ∧ e.cls ≤ 3 ∧
      ∃ k ∈ w.enrol, ∀ e ∈ s.pacer.lag, e.carver ≠ k) ∧
    (∃ s : State, ∃ r w, s.job.record = some r ∧ r.work = .tracer w ∧ s.pacer.enrolTimer.isSome = true ∧
      s.pacer.phase = .enrolling ∧ s.job.state = .running ∧ s.pacer.lag ≠ [] ∧
      (∀ e ∈ s.pacer.lag, e.dropped = true ∨ e.wants = false) ∧ s.bus.mute = false ∧ s.bus.generalHeld < 5) ∧
    ∃ s : State, ∃ r w, s.job.record = some r ∧ r.work = .tracer w ∧ s.pacer.enrolTimer.isSome = true ∧
      s.pacer.phase = .enrolling ∧ s.job.state = .stopped :=
  ⟨⟨enrolling [], _, _, rfl, rfl, by decide⟩, ⟨enrolling [lag 4 true 0], _, _, lag 4 true 0, rfl, rfl, by decide⟩,
    ⟨enrolling [lag 4 false 0], _, _, rfl, rfl, by decide⟩,
    stoppedFrom .running (enrolling []), _, _, rfl, rfl, by decide⟩

theorem witness_PacerTimersEnd_silent :
    ∃ s : State, ∃ e, s.pacer.phase ≠ .off ∧ s.pacer.lag.find? (fun e => e.carver == 4) = some e ∧ e.dropped = false ∧
      e.silent = false ∧ s.job.state = .running :=
  ⟨enrolling [lag 4 true 0], lag 4 true 0, by decide⟩

/-- A tracer in COLLECTING pass 1. -/
def collecting (st : StationState) (l : List LagEntry) : State :=
  paced st { Pacer.afterReset with phase := .collecting, pass := 1, tailTimer := some 0, lag := l }

theorem witness_PacerTimersEnd :
    (∃ s : State, ∃ r w, s.job.record = some r ∧ r.work = .tracer w ∧ s.pacer.tailTimer.isSome = true ∧
      s.pacer.phase = .collecting ∧ s.pacer.finishDue = false ∧
      ∃ e ∈ s.pacer.lag, e.dropped = false ∧ e.completed < s.pacer.pass) ∧
    (∃ s : State, ∃ r w e, s.job.record = some r ∧ r.work = .tracer w ∧ s.pacer.tailTimer.isSome = true ∧
      s.pacer.phase = .collecting ∧ s.pacer.finishDue = false ∧
      (∀ e ∈ s.pacer.lag, e.dropped = false → s.pacer.pass ≤ e.completed) ∧ s.job.state ≠ .stopped ∧
      s.pacer.pass ≠ w.passLimit ∧ e ∈ s.pacer.lag ∧ e.dropped = false ∧ e.wants = true ∧
      (∀ x ∈ s.pacer.lag, x.dropped = false → x.wants = true → e.cls ≤ x.cls) ∧ e.cls ≤ 3) ∧
    (∃ s : State, ∃ r w, s.job.record = some r ∧ r.work = .tracer w ∧ s.pacer.tailTimer.isSome = true ∧
      s.pacer.phase = .collecting ∧ s.pacer.finishDue = false ∧
      (∀ e ∈ s.pacer.lag, e.dropped = false → s.pacer.pass ≤ e.completed) ∧ s.job.state = .running ∧
      s.bus.mute = false ∧ s.bus.generalHeld < 5 ∧ ∀ e ∈ s.pacer.lag, e.dropped = true ∨ e.wants = false) ∧
    ∃ s : State, ∃ r w, s.job.record = some r ∧ r.work = .tracer w ∧ s.pacer.tailTimer.isSome = true ∧
      s.pacer.phase = .collecting ∧ s.pacer.finishDue = false ∧
      (∀ e ∈ s.pacer.lag, e.dropped = false → s.pacer.pass ≤ e.completed) ∧ s.job.state = .stopped :=
  ⟨⟨collecting .running [lag 4 true 0], _, _, rfl, rfl, by decide⟩,
    ⟨collecting .running [lag 4 true 1], _, _, lag 4 true 1, rfl, rfl, by decide⟩,
    ⟨collecting .running [lag 4 false 1], _, _, rfl, rfl, by decide⟩,
    collecting .stopped [lag 4 true 1], _, _, rfl, rfl, by decide⟩

/-- A tracer with a record due, its store recording, and the furthest sequence its one carver allows. -/
def emitting (st : StationState) (seq : Seq) : State :=
  let s := paced st { Pacer.afterReset with phase := .passing, pass := 1, lag := [lag 4 true 0] }
  { s with
    gen := { Generator.afterReset with due := [traceRecord seq .surface] }
    store := { TraceStore.afterReset with state := .recording } }

theorem witness_EmissionPassesTheGate :
    (∃ s : State, ∃ r rest j w, s.gen.due = r :: rest ∧ s.job.record = some j ∧ j.work = .tracer w ∧
      s.straps.role = .tracer ∧ s.job.state = .running ∧ s.gen.phase ≠ .awaitStart ∧ s.bus.mute = false ∧
      s.bus.generalHeld < 5 ∧ s.bus.tracesHeld < 4 ∧
      (∀ e ∈ s.pacer.lag, e.dropped = false → e.silent = false ∧ (r.seq - e.released).toNat ≤ e.capacity) ∧
      s.store.state = .recording ∧ r.kind ∈ [.surface, .stroke, .lift] ∧ s.store.cursor = none ∧
      s.store.records.length < 16384) ∧
    ∃ s : State, ∃ r rest, s.gen.due = r :: rest ∧
      ¬ ∀ e ∈ s.pacer.lag, e.dropped = false → e.silent = false ∧ (r.seq - e.released).toNat ≤ e.capacity :=
  ⟨⟨emitting .running 240, traceRecord 240 .surface, [], _, _, rfl, rfl, rfl, by decide⟩,
    emitting .running 241, traceRecord 241 .surface, [], rfl, by decide⟩

/-- A store that already holds its 16,384 records. -/
theorem witness_EmissionPassesTheGate_full :
    ∃ s : State, ∃ r rest, s.gen.due = r :: rest ∧ s.store.state = .recording ∧ r.kind = .surface ∧
      s.store.cursor = none ∧ 16384 ≤ s.store.records.length :=
  let s : State := emitting .running 240
  ⟨{ s with store := { s.store with records := List.replicate 16384 ⟨.surface, 0, 0, 0, 0, 0⟩ } },
    traceRecord 240 .surface, [], rfl, rfl, rfl, rfl, by rw [List.length_replicate]⟩

/-- A FOLLOW tracer in a phase of its Generator. -/
def following (p : GenPhase) (on : Bool) : State :=
  { tracer .follow .running with gen := { Generator.afterReset with phase := p, following := on, tableArrived := true } }

/-- A probe report at a point, in the groove. -/
def probeAt (u : Int) : ProbeReport := ⟨u, 0, 100, true, false, 40⟩

theorem witness_TheStylusIsFollowed :
    ∃ s : State, ∃ r w, s.straps.role = .tracer ∧ s.job.record = some r ∧ r.work = .tracer w ∧ w.mode = .follow ∧
      s.gen.phase = .inPass ∧ s.gen.due = [] ∧ s.job.state ≠ .stopped ∧ s.gen.following = true ∧
      w.u0 ≤ (probeAt 500).u ∧ (probeAt 500).u ≤ w.u1 ∧ w.v0 ≤ (probeAt 500).v ∧ (probeAt 500).v ≤ w.v1 ∧
      w.spacing ≤ (distance ⟨0, 0⟩ ⟨500, 0⟩ : Int) ∧ (distance ⟨0, 0⟩ ⟨499, 0⟩ : Int) < w.spacing ∧
      w.u1 < (probeAt 1001).u :=
  ⟨following .inPass true, _, _, rfl, rfl, rfl, by decide⟩

theorem witness_TheStylusIsFollowed_phases :
    (following .awaitStart false).gen.phase = .awaitStart ∧ (following .inPass false).gen.following = false ∧
      (following .quiet false).gen.phase ≠ .awaitStart ∧ (following .quiet false).gen.phase ≠ .inPass ∧
      ({ following .inPass true with gen := { Generator.afterReset with due := [traceRecord 1 .stroke] } } : State).gen.due ≠
        [] := by decide

theorem witness_TheStylusIsFollowed_buttons :
    (∃ s : State, ∃ r w, s.straps.role = .tracer ∧ s.job.record = some r ∧ r.work = .tracer w ∧ w.mode = .follow ∧
      s.gen.phase = .awaitStart ∧ s.gen.tableArrived = true ∧ s.job.state = .running) ∧
    ∃ s : State, ∃ r w, s.straps.role = .tracer ∧ s.job.record = some r ∧ r.work = .tracer w ∧ w.mode = .follow ∧
      s.gen.phase = .inPass ∧ s.gen.due = [] ∧ s.job.state ≠ .stopped ∧ s.gen.following = true :=
  ⟨⟨following .awaitStart false, _, _, rfl, rfl, rfl, by decide⟩, following .inPass true, _, _, rfl, rfl, rfl, by decide⟩

/-! The carver (chapters 7 to 10). -/

/-- A TRACE from the tracer of station 4's job: a SURFACE of pass 1. -/
def trace (seq : Nat) (pass kind : Byte) : Frame :=
  ⟨.trace, 1, 255, put16 seq ++ [pass, kind] ++ List.replicate 14 0⟩

/-- Carver 4 RUNNING in pass 1, expecting sequence 5, with some free slots. -/
def inPass (free : Nat) : State :=
  let s := carver .running
  { s with pq := { s.pq with expected := 5, released := 4, lastPass := 1, inPass := true, free } }

/-- The hypotheses of TraceIsPostedOrDiscarded on a state and the frame in its buffer, with the distances d and a. -/
abbrev tracesInto (s : State) (x : TraceRecord) (d a : Nat) : Prop :=
  s.bus.rx = [⟨.trace, 1, 255, s.bus.rx.flatMap (·.payload)⟩] ∧ s.straps.role = .carver ∧
    s.job.record = some carverRecord ∧ s.job.state = .running ∧ s.job.finishing = false ∧
    readTrace (s.bus.rx.flatMap (·.payload)) = some x ∧ x.pass ≠ 0 ∧
    (x.seq - s.pq.expected).toNat = d ∧ (x.seq - s.pq.released).toNat = a

/-- In order, after the greatest gap, beyond it, stale, and with one slot too few. -/
theorem witness_TraceIsPostedOrDiscarded :
    (∃ x, tracesInto (got (trace 5 1 1) (inPass 1)) x 0 1) ∧
    (∃ x, tracesInto (got (trace 1027 1 1) (inPass 2)) x 1022 1023) ∧
    (∃ x, tracesInto (got (trace 1028 1 1) (inPass 2)) x 1023 1024) ∧
    (∃ x, tracesInto (got (trace 5 1 4) (inPass 2)) x 0 1 ∧ x.kind = .passStart ∧ x.pass = 1) ∧
    (∃ x, tracesInto (got (trace 6 1 1) (inPass 1)) x 1 2) :=
  ⟨⟨⟨5, 1, .surface, 0, 0, 0, 0, 0, 0, 0⟩, by decide⟩, ⟨⟨1027, 1, .surface, 0, 0, 0, 0, 0, 0, 0⟩, by decide⟩,
    ⟨⟨1028, 1, .surface, 0, 0, 0, 0, 0, 0, 0⟩, by decide⟩, ⟨⟨5, 1, .passStart, 0, 0, 0, 0, 0, 0, 0⟩, by decide⟩,
    ⟨⟨6, 1, .surface, 0, 0, 0, 0, 0, 0, 0⟩, by decide⟩⟩

/-- Carver 4 RUNNING with an entry at the head and a reference setpoint. -/
def atHead (e : Entry) : State :=
  let s := moving .running { Motion.afterReset with reference := some (setpoint .jobStartLift false none) }
  { s with
    pq := { s.pq with posted := [e], free := 239 }
    seq := { s.seq with counter := 3, floor := 2000, openPass := some 1 } }

/-- The hypotheses HeadMarkersAndRest and HeadEntryGoesToTheGuard share. -/
abbrev headMay (s : State) (e : Entry) : Prop :=
  s.pq.posted = [e] ∧ s.straps.role = .carver ∧ s.job.record = some carverRecord ∧ s.carverJob = some carverWork ∧
    s.seq.index = some 0 ∧ carverWork.plan[0]? = some ⟨.rough, 2000, 2000, 6000, 2, 3, .dry⟩ ∧ s.job.state = .running ∧
    s.map.sweeping = false ∧ s.seq.phase = .none ∧ s.motion.portLift = none ∧ s.motion.closing = none ∧
    s.seq.resting = false

theorem witness_HeadMarkersAndRest :
    (∃ s : State, headMay s (entry .passStart 0 0 0 0) ∧ s.pq.issued = []) ∧
    (∃ s : State, headMay s (entry .passEnd 0 0 0 0) ∧ s.pq.issued = []) ∧
    ∃ s : State, headMay s (entry .passStart 0 0 0 0) ∧ s.pq.issued ≠ [] :=
  let waiting : State := atHead (entry .passStart 0 0 0 0)
  ⟨⟨atHead (entry .passStart 0 0 0 0), by decide⟩, ⟨atHead (entry .passEnd 0 0 0 0), by decide⟩,
    { waiting with pq := { waiting.pq with
        issued := [⟨entry .lift 0 0 0 0, 0, setpoint .entry false none, false⟩] } }, by decide⟩

theorem witness_HeadMarkersAndRest_resting :
    ∃ s : State, ∃ e rest, s.pq.posted = e :: rest ∧ s.straps.role = .carver ∧ s.job.state = .running ∧
      s.map.sweeping = false ∧ s.seq.phase = .none ∧ s.motion.portLift = none ∧ s.seq.resting = true ∧
      s.pq.issued = [] ∧ e.kind = .passEnd :=
  let s : State := atHead (entry .passEnd 0 0 0 0)
  ⟨{ s with seq := { s.seq with resting := true, index := none } }, entry .passEnd 0 0 0 0, [], by decide⟩

theorem witness_HeadEntryGoesToTheGuard :
    (∃ s : State, headMay s (entry .surface 120001 (-5) 10001 0) ∧
      s.motion.reference = some (setpoint .jobStartLift false none) ∧ s.pq.issued.length < 2 ∧ s.guard.atCheck = none ∧
      s.guard.passed = none ∧
      Interval.hull s.guard.claim ⟨309999 - carverRecord.halfLeft, 309999 + carverRecord.halfRight⟩ = s.guard.claim) ∧
    ∃ s : State, headMay s (entry .surface 120001 (-5) 10001 0) ∧
      s.motion.reference = some (setpoint .jobStartLift false none) ∧ s.guard.passed ≠ none :=
  let s : State := atHead (entry .surface 120001 (-5) 10001 0)
  ⟨⟨{ s with guard := { s.guard with claim := ⟨269999, 359999⟩ } }, by decide⟩,
    { s with guard := { s.guard with passed := some (setpoint .entry true none) } }, by decide⟩

/-- Carver 4 with a cutting setpoint passed and its spindle on. -/
def passedCut (low : Bool) : State :=
  let s := atHead (entry .surface 120001 (-5) 10001 0)
  { s with
    bus := { s.bus with sensedLow := low }
    motion := { s.motion with spindle := .on, outstanding := [out 255 (setpoint .jobStartLift false none)] }
    guard := { s.guard with passed := some (setpoint .entry true (some 4226)) } }

theorem witness_PassedSetpointIsIssued :
    (∃ s : State, ∃ sp r e rest, s.guard.passed = some sp ∧ sp.origin = .entry ∧ s.job.record = some r ∧
      s.pq.posted = e :: rest ∧ s.motion.closing = none ∧ s.motion.portLift = none ∧ s.motion.waiting = [] ∧
      s.motion.halt = .moving ∧ s.motion.outstanding.length < 2 ∧ s.bus.sensedLow = false ∧ sp.cutting = true ∧
      s.motion.spindle = .on ∧ s.cond.counters.length = 15) ∧
    ∃ s : State, ∃ sp r e rest, s.guard.passed = some sp ∧ sp.origin = .entry ∧ s.job.record = some r ∧
      s.pq.posted = e :: rest ∧ s.motion.closing = none ∧ s.motion.portLift = none ∧ s.motion.waiting = [] ∧
      s.bus.sensedLow = true :=
  ⟨⟨passedCut false, setpoint .entry true (some 4226), _, _, _, rfl, rfl, rfl, rfl, by decide⟩,
    passedCut true, setpoint .entry true (some 4226), _, _, _, rfl, rfl, rfl, rfl, by decide⟩

/-- Carver 4 with one issued entry outstanding under a tag. -/
def issuedOne (tag : Byte) : State :=
  let s := atHead (entry .passEnd 0 0 0 0)
  let sp := setpoint .entry true (some 4226)
  { s with
    pq := { s.pq with free := 238, issued := [⟨entry .surface 120001 (-5) 10001 0, tag, sp, false⟩] }
    motion := { s.motion with outstanding := [out tag sp] } }

theorem witness_ArrivalCompletesTheEntry :
    (∃ s : State, ∃ o more i behind, s.motion.outstanding = o :: more ∧ o.sp.origin = .entry ∧
      s.pq.issued = i :: behind ∧ i.tag = o.tag ∧ i.sp = o.sp ∧ i.emptied = false ∧ s.guard.passed = none ∧
      s.guard.atCheck = none ∧ s.motion.closing = none ∧ s.motion.portLift = none ∧ s.job.finishing = false ∧
      s.motion.waiting = [] ∧ s.seq.openPass.isSome = true ∧ s.seq.resting = false ∧ o.sp.cutting = true ∧
      o.sp.cell = some 4226) ∧
    ∃ s : State, (∀ o ∈ s.motion.outstanding, o.tag ≠ 0) ∧ s.motion.closing = none ∧ s.motion.portLift = none ∧
      s.motion.waiting = [] :=
  ⟨⟨issuedOne 255, out 255 (setpoint .entry true (some 4226)), [],
    ⟨entry .surface 120001 (-5) 10001 0, 255, setpoint .entry true (some 4226), false⟩, [], by decide⟩,
    issuedOne 255, by decide⟩

/-- Carver 4 sweeping at the end of a pass, with one cell cut in it. -/
def sweeping (index counter : Nat) : State :=
  let s := atHead (entry .passEnd 0 0 0 0)
  { s with
    map := { CutMap.afterReset with cells := [(4226, ⟨4000, some 7300, true, false⟩)], sweeping := true }
    seq := { s.seq with phase := .sweeping, index := some index, counter } }

theorem witness_SweepEndDecidesThePass :
    (∃ s : State, ∃ e rest c k p, s.map.sweeping = true ∧ s.map.wf ∧ s.pq.posted = e :: rest ∧ s.carverJob = some c ∧
      s.seq.index = some k ∧ c.plan[k]? = some p ∧ s.seq.counter = 1 ∧ (c.plan[k + 1]?).isSome = true) ∧
    (∃ s : State, ∃ e rest c k p, s.map.sweeping = true ∧ s.map.wf ∧ s.pq.posted = e :: rest ∧ s.carverJob = some c ∧
      s.seq.index = some k ∧ c.plan[k]? = some p ∧ s.seq.counter = 2 ∧ p.advance = .dry ∧ s.seq.running.broken = false) ∧
    ∃ s : State, ∃ e rest c k p, s.map.sweeping = true ∧ s.map.wf ∧ s.pq.posted = e :: rest ∧ s.carverJob = some c ∧
      s.seq.index = some k ∧ c.plan[k]? = some p ∧ p.advance = .once ∧ c.plan[k + 1]? = none :=
  ⟨⟨sweeping 0 1, _, _, carverWork, 0, _, rfl, by decide, rfl, rfl, rfl, rfl, rfl, rfl⟩,
    ⟨sweeping 0 2, _, _, carverWork, 0, _, rfl, by decide, rfl, rfl, rfl, rfl, rfl, rfl, rfl⟩,
    sweeping 1 1, _, _, carverWork, 1, _, rfl, by decide, rfl, rfl, rfl, rfl, rfl, rfl⟩

theorem witness_ReportAndGuardTimersEnd_reports :
    ∃ s : State, ∃ c, s.carverJob = some c ∧ s.pq.creditTimer.isSome = true ∧ s.job.state ∈ [.running, .stopped] ∧
      s.guard.reachTimer.isSome = true ∧ s.job.state ∉ [.held, .starting] ∧ s.bus.mute = false :=
  let s := carver .running
  ⟨{ s with pq := { s.pq with creditTimer := some 0 }, guard := { s.guard with reachTimer := some 0 } }, carverWork,
    by decide⟩

/-! Motion, spindle and the Guard (chapters 11 and 12). -/

/-- The closing lift of the test job. -/
def retract : ClosingLift := ⟨-3000, 2400, .lift, false⟩

theorem witness_HaltedAndReleasedLetAPendingLiftGo :
    (∃ s : State, s.motion.halt = .halting true ∧ s.motion.portLift = none ∧ s.motion.closing = some retract ∧
      s.guard.atCheck = none ∧ s.guard.passed = none ∧ s.bus.sensedLow = false ∧ s.motion.outstanding ≠ [] ∧
      s.motion.refArrived = false ∧ s.motion.waiting = []) ∧
    (∃ s : State, s.motion.halt = .halting false ∧ s.motion.portLift = none ∧ s.motion.closing = none ∧
      s.motion.waiting = []) ∧
    ∃ s : State, s.motion.halt = .moving ∧ s.motion.closing = none ∧ s.motion.portLift = none ∧ s.motion.waiting = [] :=
  ⟨⟨moving .suspended { Motion.afterReset with
      halt := .halting true, closing := some retract, outstanding := [out 0 (setpoint .entry true none)] }, by decide⟩,
    ⟨moving .stopped { Motion.afterReset with halt := .halting false }, by decide⟩, carver .running, by decide⟩

theorem witness_DriveFaultStopsTheStation :
    (carver .running).job.state ∉ [.held, .starting] ∧ (carver .running).motion.faultStanding = false ∧
      State.reset.job.state ∈ [.held, .starting] ∧
      (moving .running { Motion.afterReset with faultStanding := true }).motion.faultStanding = true := by decide

/-- A carver with a neighbour heard on the right at a place. -/
def beside (lo : Int) : State :=
  let s := carver .running
  { s with guard := { s.guard with
      right := ⟨some 6, some ⟨⟨⟨lo, lo + 90000⟩, none⟩, 0, false⟩⟩
      claim := ⟨300000, 390000⟩ } }

/-- The carriage at x 340,000 occupies 300,000 to 390,000; half the guard gap is 3,000. -/
theorem witness_PositionMovesTheClaimAndTestsBreach :
    (∃ s : State, ∃ r h, s.job.record = some r ∧ (s.guard.view .right).heard = some h ∧ h.stale = false ∧
      2 * gapTo .right ⟨340000 - s.halfWidths.1, 340000 + s.halfWidths.2⟩ h.seen.claim < r.gap ∧
      s.guard.rightArmed = true ∧ s.motion.halt = .moving ∧ s.motion.outstanding = [] ∧ s.guard.atCheck = none ∧
      s.guard.passed = none) ∧
    ∃ s : State, ∃ r h, s.job.record = some r ∧ (s.guard.view .right).heard = some h ∧ h.stale = false ∧
      r.gap ≤ 2 * gapTo .right ⟨340000 - s.halfWidths.1, 340000 + s.halfWidths.2⟩ h.seen.claim :=
  ⟨⟨beside 392999, _, _, rfl, rfl, rfl, by decide⟩, beside 393000, _, _, rfl, rfl, rfl, by decide⟩

theorem witness_LoadTimersFollowTheLoad_readings :
    ∃ s : State, s.motion.spindle = .spinningUp 0 ∧ s.straps.role = .carver ∧ s.job.state = .running :=
  ⟨moving .running { Motion.afterReset with spindle := .spinningUp 0 }, by decide⟩

theorem witness_LoadTimersFollowTheLoad :
    ∃ s : State, s.motion.highTimer.isSome = true ∧ s.motion.lowTimer.isSome = true ∧ s.motion.override = .p50 ∧
      s.loadWatched = true :=
  ⟨moving .running { Motion.afterReset with
    highTimer := some 0, lowTimer := some 0, override := .p50, spindle := .on }, by decide⟩

theorem witness_StallSuspendsTheCarver :
    ∃ s : State, ∃ r c, s.motion.stallTimer.isSome = true ∧ s.job.record = some r ∧ r.work = .carver c ∧
      s.motion.outstanding ≠ [] ∧ s.motion.waiting = [] ∧ s.bus.mute = false :=
  ⟨moving .running { Motion.afterReset with
    stallTimer := some 0, outstanding := [out 0 (setpoint .entry true none)] }, _, _, rfl, rfl, rfl, by decide⟩

theorem witness_StopSensedStopsTheStation :
    ((carver .running).job.state ≠ .held ∧ (carver .running).bus.sensedLow = false) ∧
    (carver .stopped).job.state = .stopped ∧ (carver .armed).job.state = .armed ∧
    (carver .suspended).job.state ∉ [.armed, .running, .stopped] ∧ (carver .suspended).bus.sensedLow = false := by decide

/-- A closing lift outstanding alone, and one pending behind it. -/
theorem witness_StopSensedStopsTheStation_lifts :
    (∃ s : State, ∃ o, s.motion.closing = none ∧ s.motion.outstanding = [] ++ o :: [] ∧
      o.sp.origin = .closingLift ⟨-3000, 2400, .lift, false⟩) ∧
    ∃ s : State, s.motion.closing.isSome = true ∧ s.motion.outstanding ≠ [] :=
  let one : Motion := { Motion.afterReset with outstanding := [out 0 (setpoint (.closingLift retract) false none)] }
  ⟨⟨moving .suspended one, _, rfl, rfl, rfl⟩, moving .suspended { one with closing := some retract }, rfl, by decide⟩

/-- Carver 4 SUSPENDED with its retract pending at a low level, the carriage inside its claim. -/
def lowSuspended (arrived : Bool) : State :=
  let s := moving .suspended { Motion.afterReset with
    closing := some retract, reference := some { setpoint .entry false none with depth := -3000 }, refArrived := arrived }
  { s with
    bus := { s.bus with sensedLow := true }, guard := { s.guard with claim := ⟨-40000, 50000⟩ }
    inputs := { s.inputs with lineLow := true } }

/-- A carver stopped by its own pull, which ended some ticks ago. -/
def pulled (ticks : Nat) : State :=
  let s := stoppedFrom .running (carver .running)
  { s with bus := { s.bus with sensedLow := true, filter := ticks } }

theorem witness_HaltedAndReleasedLetAPendingLiftGo_released :
    (∃ s : State, s.bus.sensedLow = true ∧ s.bus.drivePull = false ∧ s.bus.breachPull = false ∧
      s.inputs.lineLow = true ∧ s.motion.closing = some retract ∧ s.job.state ∉ [.stopped, .armed] ∧
      s.motion.portLift = none ∧ s.motion.waiting = [] ∧ s.motion.outstanding = [] ∧ s.motion.halt = .moving ∧
      s.guard.atCheck = none ∧ s.guard.passed = none ∧ s.guard.claim.lo ≤ s.occupied.lo ∧
      s.occupied.hi ≤ s.guard.claim.hi ∧ s.motion.refArrived = false) ∧
    (∃ s : State, ∃ ref, s.bus.sensedLow = true ∧ s.motion.closing = some retract ∧ s.motion.reference = some ref ∧
      s.motion.refArrived = true ∧ ref.feed = .lift ∧ ref.depth = retract.level) ∧
    (∃ s : State, s.bus.sensedLow = true ∧ s.job.state = .stopped ∧ s.bus.drivePull = false ∧ s.inputs.lineLow = false ∧
      100 ≤ s.bus.filter) ∧
    ∃ s : State, s.bus.sensedLow = true ∧ s.bus.drivePull = false ∧ s.inputs.lineLow = false ∧ s.bus.filter < 100 :=
  ⟨⟨lowSuspended false, by decide⟩, ⟨lowSuspended true, _, by decide, rfl, rfl, rfl, by decide⟩,
    ⟨pulled 100, by decide⟩, pulled 99, by decide⟩

/-- A REACH of station 6 on rail 0 claiming from a place on, with no announce. -/
def reach (src : Nat) (rail : Byte) (lo : Nat) : Frame :=
  ⟨.reach, src, 255, [rail] ++ put24 lo ++ put24 (lo + 90000) ++ List.replicate 8 0⟩

theorem witness_ReachWritesTheView :
    (∃ s : State, ∃ f rest, s.bus.rx = f :: rest ∧ f.kind = .reach ∧ f.src ≠ s.straps.number.val ∧
      byteAt f.payload 0 % 128 = s.straps.rail.val ∧ s.guard.right.station = some f.src ∧
      s.guard.left.station ≠ some f.src ∧ s.guard.phase = .none) ∧
    (∃ s : State, ∃ f rest, s.bus.rx = f :: rest ∧ f.kind = .reach ∧ f.src ≠ s.straps.number.val ∧
      byteAt f.payload 0 % 128 = s.straps.rail.val ∧ s.guard.left.station = some f.src ∧
      s.guard.right.station ≠ some f.src ∧ s.guard.phase = .none) ∧
    (∃ s : State, ∃ f rest, s.bus.rx = f :: rest ∧ f.kind = .reach ∧ f.src = s.straps.number.val) ∧
    ∃ s : State, ∃ f rest, s.bus.rx = f :: rest ∧ f.kind = .reach ∧ f.src ≠ s.straps.number.val ∧
      byteAt f.payload 0 % 128 ≠ s.straps.rail.val :=
  let s : State := carver .running
  ⟨⟨got (reach 6 0 400000) (beside 392999), _, _, rfl, by decide⟩,
    ⟨got (reach 6 0 400000) { s with guard := { s.guard with left := ⟨some 6, none⟩ } }, _, _, rfl, by decide⟩,
    ⟨got (reach 4 0 400000) s, _, _, rfl, by decide⟩, got (reach 6 1 400000) s, _, _, rfl, by decide⟩

/-- Carver 4 waiting at the check of a setpoint at x 309,999, whose N goes beyond its claim on the left; the neighbour on its
right is told from the one on its left. -/
def waiting (left : View) : State :=
  let s := beside 500000
  { s with guard := { s.guard with
      left := left, claim := ⟨300000, 390000⟩, atCheck := some (setpoint .entry true none), phase := .wait, side := .left
      waitTimer := some 9 } }

/-- A check in GUARD_WAIT on the side of the REACH, and a breach of it: the carriage at 0 occupies −40,000 to 50,000. -/
theorem witness_ReachWritesTheView_rechecks :
    (∃ s : State, ∃ f rest sp, s.bus.rx = f :: rest ∧ f.kind = .reach ∧ f.src ≠ s.straps.number.val ∧
      byteAt f.payload 0 % 128 = s.straps.rail.val ∧ s.guard.left.station = some f.src ∧ s.guard.side = .left ∧
      s.guard.phase = .wait ∧ s.guard.announce = none ∧ s.guard.atCheck = some sp ∧
      s.job.record = some carverRecord ∧ min s.guard.claim.lo (sp.x - carverRecord.halfLeft) < s.guard.claim.lo ∧
      max s.guard.claim.hi (sp.x + carverRecord.halfRight) = s.guard.claim.hi) ∧
    ∃ s : State, ∃ f rest, s.bus.rx = f :: rest ∧ f.kind = .reach ∧ f.src ≠ s.straps.number.val ∧
      byteAt f.payload 0 % 128 = s.straps.rail.val ∧ s.guard.right.station = some f.src ∧
      s.guard.left.station ≠ some f.src ∧ s.job.record = some carverRecord ∧ s.guard.rightArmed = true ∧
      2 * ((lengthAt f.payload 1 : Int) - (s.inputs.x + s.halfWidths.2)) < carverRecord.gap :=
  ⟨⟨got (reach 7 0 100000) (waiting ⟨some 7, none⟩), _, _, _, rfl, rfl, by decide, by decide, rfl, rfl, rfl, rfl, rfl, rfl,
      by decide, by decide⟩,
    got (reach 6 0 52999) (beside 500000), _, _, rfl, rfl, by decide, by decide, rfl, by decide, rfl, rfl, by decide⟩

/-- A halted report, and an arrival, that change the claim while a setpoint waits at the check. -/
theorem witness_HaltedAndReleasedLetAPendingLiftGo_rechecks :
    ∃ s : State, ∃ r sp, s.motion.halt = .halting false ∧ s.motion.closing = none ∧ s.motion.portLift = none ∧
      s.motion.waiting = [] ∧ s.guard.passed = none ∧ s.job.record = some r ∧ s.guard.phase = .wait ∧
      s.guard.atCheck = some sp ∧ s.guard.announce = none ∧ needed r s.inputs.x s.motion.outstanding ≠ s.guard.claim :=
  let s := waiting ⟨some 7, none⟩
  ⟨{ s with motion := { s.motion with halt := .halting false } }, _, _, rfl, rfl, rfl, rfl, rfl, rfl, rfl, rfl, rfl,
    by decide⟩

/-- Carver 4 settling 300,000 to 400,000 toward station 6 on its right. -/
def settling (heard : Bool) (timer : Option Nat) (reply : Option Seen) : State :=
  let s := beside 500000
  { s with guard := { s.guard with
      announce := some ⟨300000, 400000⟩, atCheck := some (setpoint .entry true none), phase := .settle, side := .right
      settleTimer := timer, heard, reply } }

/-- What the cases of ReachSettlesTheAnnounce have in common, with the neighbour's claim beginning at lo. -/
abbrev settlesOn (s : State) (lo : Nat) : Prop :=
  s.bus.rx = [reach 6 0 lo] ∧ s.straps.number.val ≠ 6 ∧ byteAt (reach 6 0 lo).payload 0 % 128 = s.straps.rail.val ∧
    s.job.record = some carverRecord ∧ s.guard.announce = some ⟨300000, 400000⟩ ∧
    s.guard.atCheck = some (setpoint .entry true none) ∧ s.guard.phase = .settle ∧ s.guard.side = .right ∧
    s.guard.left.station = none ∧ s.guard.right.station = some 6 ∧ lengthAt (reach 6 0 lo).payload 1 = lo ∧
    byteAt (reach 6 0 lo).payload 0 < 128

/-- The guard gap is 6,000: a claim from 406,000 on is clear, one from 405,999 on is not. -/
theorem witness_ReachSettlesTheAnnounce :
    (∃ s : State, settlesOn s 405999 ∧ (405999 - 400000 : Int) < carverRecord.gap ∧ s.guard.waitExpired = false) ∧
    (∃ s : State, settlesOn s 406000 ∧ carverRecord.gap ≤ (406000 - 400000 : Int) ∧ s.guard.heard = true ∧
      s.guard.settleTimer = none) ∧
    ∃ s : State, settlesOn s 406000 ∧ s.guard.heard = false :=
  ⟨⟨got (reach 6 0 405999) (settling true none none), by decide⟩,
    ⟨got (reach 6 0 406000) (settling true none none), by decide⟩,
    got (reach 6 0 406000) (settling false (some 3) none), by decide⟩

theorem witness_ReportAndGuardTimersEnd_stale :
    (∃ s : State, ∃ h, (s.guard.view .right).heard = some h ∧ h.stale = false ∧ s.guard.phase = .settle ∧
      s.guard.side = .right) ∧
    ∃ s : State, ∃ h, (s.guard.view .right).heard = some h ∧ h.stale = false ∧ s.guard.phase ≠ .settle :=
  ⟨⟨settling true none none, _, rfl, by decide⟩, beside 392999, _, rfl, by decide⟩

theorem witness_ReportAndGuardTimersEnd :
    (∃ s : State, ∃ n sp v, s.guard.announce = some n ∧ s.guard.atCheck = some sp ∧ s.guard.phase = .settle ∧
      s.guard.settleTimer.isSome = true ∧ s.guard.reply = some v ∧ s.guardGap ≤ gapTo s.guard.side n v.claim ∧
      v.announce = none) ∧
    (∃ s : State, ∃ n sp, s.guard.announce = some n ∧ s.guard.atCheck = some sp ∧ s.guard.phase = .settle ∧
      s.guard.settleTimer.isSome = true ∧ s.guard.reply = none) ∧
    ∃ s : State, s.guard.waitTimer.isSome = true :=
  let s := carver .running
  ⟨⟨settling true (some 0) (some ⟨⟨406000, 496000⟩, none⟩), _, _, _, rfl, rfl, rfl, rfl, rfl, by decide⟩,
    ⟨settling true (some 0) none, _, _, rfl, rfl, by decide⟩,
    { s with guard := { s.guard with waitTimer := some 0 } }, rfl⟩

/-- A JOIN of a carver, by its answer flag. -/
def join (src : Nat) (answer : Byte) : Frame := ⟨.join, src, 255, [0xB6, 1, 0, 2, 0, 240, 0, answer]⟩

theorem witness_JoinWritesTheEntry :
    (∃ s : State, ∃ f rest p, s.bus.rx = f :: rest ∧ f.kind = .join ∧ readJoin f.payload = some p ∧
      f.src ≠ s.straps.number.val ∧ byteAt f.payload 7 = 0 ∧ s.roster.joinDue = none ∧
      (∀ g ∈ s.bus.queue, g.kind ≠ .join) ∧ s.bus.mute = false ∧ s.bus.generalHeld < 5) ∧
    (∃ s : State, ∃ f rest p, s.bus.rx = f :: rest ∧ f.kind = .join ∧ readJoin f.payload = some p ∧
      f.src ≠ s.straps.number.val ∧ byteAt f.payload 7 = 1 ∧ s.straps.role = .carver) ∧
    (∃ s : State, ∃ f rest p, s.bus.rx = f :: rest ∧ f.kind = .join ∧ readJoin f.payload = some p ∧
      f.src = s.straps.number.val) ∧
    ∃ s : State, ∃ f rest, s.bus.rx = f :: rest ∧ f.kind = .join ∧ readJoin f.payload = none :=
  ⟨⟨got (join 6 0) (carver .idle), _, _, ⟨.carver, 0, 2, 0, 240, 0, 0⟩, rfl, by decide⟩,
    ⟨got (join 6 1) (carver .idle), _, _, ⟨.carver, 0, 2, 0, 240, 0, 0⟩, rfl, by decide⟩,
    ⟨got (join 4 0) (carver .idle), _, _, ⟨.carver, 0, 2, 0, 240, 0, 0⟩, rfl, by decide⟩,
    got ⟨.join, 6, 255, List.replicate 8 0⟩ (carver .idle), _, _, rfl, by decide⟩

/-! The clauses this sitting's statements add. -/

/-- A frame of each report kind, to be filled. -/
theorem witness_ReportsAreFilledFromTheState :
    (∃ s : State, ∃ a, s.guard.announce = some a ∧ s.bus.sending.isSome = true) ∧
    (∃ s : State, ∃ r c p, s.job.record = some r ∧ r.work = .carver c ∧ s.seq.index = some 1 ∧ c.plan[1]? = some p) ∧
    (∃ s : State, ∃ r c p, s.job.record = some r ∧ r.work = .carver c ∧ s.seq.index = none ∧ c.plan.getLast? = some p) ∧
    ∃ s : State, s.cond.risen = some .bedStop ∧ s.guard.announce = none ∧ s.bus.sending = none :=
  let s := carver .running
  ⟨⟨sending ⟨queued .reach 1, none⟩ { s with guard := { s.guard with announce := some ⟨1, 2⟩ } }, _, rfl, rfl⟩,
    ⟨{ s with seq := { s.seq with index := some 1 } }, _, _, _, rfl, rfl, rfl, rfl⟩,
    ⟨{ s with seq := { s.seq with index := none } }, _, _, _, rfl, rfl, rfl, rfl⟩,
    { s with cond := { s.cond with risen := some .bedStop } }, by decide⟩

theorem witness_LampsAndBrakeShowTheState :
    (∃ s : State, s.job.state = .starting ∧ s.selfTest = some 3 ∧ s.bus.mute = false) ∧
    (∃ s : State, s.job.state ≠ .held ∧ s.bus.mute = true) ∧
    (∃ s : State, ∃ r w, s.job.record = some r ∧ r.work = .tracer w ∧ s.straps.role = .tracer ∧ w.mode = .follow ∧
      s.gen.phase = .inPass ∧ s.gen.due ≠ [] ∧ s.gateOpen = false) ∧
    ∃ s : State, ∃ r w, s.job.record = some r ∧ r.work = .tracer w ∧ s.straps.role = .tracer ∧ w.mode = .raster :=
  let s : State := { tracer .follow .running with
    gen := { Generator.afterReset with phase := .inPass, due := [traceRecord 1 .stroke] } }
  ⟨⟨{ bareCarver .starting with selfTest := some 3 }, by decide⟩, ⟨pullingCarver, by decide⟩,
    ⟨{ s with bus := { s.bus with mute := true } }, _, _, rfl, rfl, by decide⟩,
    tracer .raster .running, _, _, rfl, rfl, by decide⟩

theorem witness_JobAssemblyEndsInArmedOrRefused_single :
    ∃ s : State, ∃ f rest, s.bus.rx = f :: rest ∧ f.kind = .job ∧ f.dest ≠ 255 ∧ byteAt f.payload 3 / 2 % 2 = 0 ∧
      byteAt f.payload 3 % 2 = 1 ∧ s.job.state = .done ∧ byteAt f.payload 2 = 0 ∧ 1 ≤ u16At f.payload 0 ∧
      f.payload.drop 4 = carverData ∧ u16At f.payload 4 = 84 ∧ s.job.assembly = none :=
  ⟨got (segment 0 1 carverData) (carver .done), _, _, rfl, by decide⟩

/-- The 66 data bytes of a FOLLOW tracer's job with one face and two carvers (section 13.6). -/
def tracerData : List Byte :=
  [0, 66, 0] ++ put24 40000 ++ put24 50000 ++ put24 6000 ++ put24 0 ++ put24 1200000 ++ put24 0 ++ put24 600000
    ++ put24 (16777216 - 3000) ++ put16 1500 ++ put16 300 ++ put16 3000 ++ put16 2400 ++ [1] ++ put24 0 ++ put24 1000
    ++ put24 0 ++ put24 1000 ++ put24 500 ++ put16 100 ++ put16 200 ++ put16 400 ++ put16 800 ++ [3, 1, 1] ++ put16 0
    ++ [2, 4, 5]

theorem witness_RecordsAreClamped :
    validate 4 .carver 311 carverData = none ∧ validate 1 .tracer 311 tracerData = none ∧
      carverData.length = 84 ∧ tracerData.length = 67 := by decide

theorem witness_StartRunsTheArmedStation_lift :
    (∃ s : State, s.job.state = .armed ∧ s.motion.halt = .moving ∧ s.motion.outstanding.length < 2 ∧
      s.bus.sensedLow = false ∧ s.guard.atCheck = none ∧ s.guard.passed = none ∧ s.guard.claim.lo ≤ s.occupied.lo ∧
      s.occupied.hi ≤ s.guard.claim.hi) ∧
    ∃ s : State, s.job.state = .armed ∧ s.bus.sensedLow = true ∧ s.guard.atCheck = none ∧ s.guard.passed = none :=
  let s := carver .armed
  ⟨⟨{ s with guard := { s.guard with claim := ⟨-40000, 50000⟩ } }, by decide⟩,
    { s with bus := { s.bus with sensedLow := true } }, by decide⟩

/-- A tracer stopped out of RUNNING with its line released and a move held. -/
def heldTracer (p : Pacer) (g : Generator) : State :=
  let s := got (frame .resume 30 []) (stoppedFrom .running (tracer .follow .running))
  { s with
    pacer := p, gen := g
    motion := { s.motion with held := [setpoint (.tracerMove .turntable) false none] } }

theorem settled_heldTracer (p : Pacer) (g : Generator) (hp : p.phase ≠ .off) :
    (heldTracer p g).Settled where
  noRecord h := by simp [heldTracer, got, stoppedFrom] at h
  record _ := rfl
  role r h := by
    have h' : tracerRecord .follow = r := Option.some.inj h
    subst h'
    rfl
  widths r h := by
    have h' : tracerRecord .follow = r := Option.some.inj h
    subst h'
    exact ⟨rfl, rfl⟩
  assembly := by simp [heldTracer, got, stoppedFrom, tracer, JobStore.afterReset]
  back a h := by cases h
  finishing h := by cases h
  selfTest h := by cases h
  pacer _ := ⟨rfl, .inr ⟨rfl, rfl⟩⟩
  enrolTimer _ := hp
  decision _ := hp
  stallTimer h := by cases h
  check := ⟨fun _ => rfl, fun _ => rfl⟩
  announce := ⟨fun h => (by cases h), fun h => (by cases h)⟩
  settleTimer h := by cases h
  waitTimer h := by cases h
  one h := by cases h
  remembered _ := .inr rfl
  still _ := ⟨rfl, rfl, rfl, rfl, rfl, rfl, rfl, rfl⟩

/-- With no decision and a hold that can end; with a FINISH that waits; with each decision held. -/
theorem witness_ResumeRestartsTheTracer :
    ∀ p ∈ [({ Pacer.afterReset with phase := .passing, pass := 1, lag := [lag 4 true 0] } : Pacer),
        { Pacer.afterReset with phase := .collecting, pass := 3, lag := [lag 4 false 3], finishDue := true },
        { Pacer.afterReset with phase := .enrolling, decision := some .enrolment },
        { Pacer.afterReset with phase := .enrolling, lag := [lag 4 true 0], decision := some .enrolment },
        { Pacer.afterReset with phase := .collecting, pass := 1, lag := [lag 4 true 1], decision := some .collection }],
      ∃ s : State, ∃ f rest r w, s.Settled ∧ s.bus.rx = f :: rest ∧ f.kind = .resume ∧ s.job.state = .stopped ∧
        s.bus.sensedLow = false ∧ s.job.remembered = .running ∧ s.straps.role = .tracer ∧ s.job.record = some r ∧
        u16At f.payload 0 = r.id ∧ r.work = .tracer w ∧ s.pacer = p ∧ s.motion.held ≠ [] ∧ s.gen.phase = .inPass ∧
        s.gen.due = [] ∧ s.gen.following = true ∧ 2 * w.spacing < (s.gen.acc : Int) ∧ s.bus.generalHeld < 5 := by
  intro p hp
  have h : p.phase ≠ .off := by revert p; decide
  exact ⟨heldTracer p { Generator.afterReset with phase := .inPass, following := true, acc := 1001 }, _, _, _, _,
    settled_heldTracer p _ h, rfl, rfl, rfl, rfl, rfl, rfl, rfl, by decide +revert, rfl, rfl, by decide +revert, rfl, rfl,
    rfl, (by decide : (2 * 500 : Int) < 1001), by decide +revert⟩

/-- A lag entry and a roster entry asked for, and a cell behind a running sweep. -/
theorem witness_ReplyHoldsTheSectionAskedFor :
    (∃ s : State, ∃ e, s.straps.role = .tracer ∧ s.pacer.lag[0]? = some e ∧ s.pacer.lag.length ≤ 1) ∧
    (∃ s : State, ∃ p, s.roster.entries.getD 4 none = some p ∧ s.roster.entries.getD 5 none = none) ∧
    (∃ s : State, s.straps.role = .carver ∧ s.map.failed = none ∧ s.map.sweeping = true) ∧
    ∃ s : State, ∃ x, s.job.refusal = some x :=
  ⟨⟨enrolling [lag 4 true 0], _, rfl, rfl, by decide⟩,
    ⟨after (.leaveReset (straps 4 .carver)) State.reset, _, rfl, by decide⟩, ⟨sweeping 0 1, by decide⟩,
    after .job (got (segment 0 1 []) (carver .armed)), _, rfl⟩

/-- A whole enrol list, in RUNNING and in STOPPED, and a carver restarted before. -/
theorem witness_CreditAdmitsACarver_complete :
    (∃ s : State, ∃ f rest w, s.bus.rx = f :: rest ∧ s.tracerJob = some w ∧ s.job.state = .running ∧
      s.pacer.phase = .enrolling ∧ f.src ∉ s.pacer.restarted ∧ (∀ e ∈ s.pacer.lag, e.carver ≠ f.src) ∧
      ∀ k ∈ w.enrol, k = f.src ∨ ∃ e ∈ s.pacer.lag, e.carver = k) ∧
    (∃ s : State, ∃ f rest w, s.bus.rx = f :: rest ∧ s.tracerJob = some w ∧ s.job.state = .stopped ∧
      ∀ k ∈ w.enrol, k = f.src ∨ ∃ e ∈ s.pacer.lag, e.carver = k) ∧
    ∃ s : State, ∃ f rest, s.bus.rx = f :: rest ∧ s.pacer.phase = .enrolling ∧ f.src ∈ s.pacer.restarted :=
  let s := got (frame .credit 5 [5, 0, 0, 240, 0, 1, 2]) (enrolling [lag 4 true 0])
  ⟨⟨s, _, _, _, rfl, rfl, by decide⟩, ⟨stoppedFrom .running s, _, _, _, rfl, rfl, by decide⟩,
    { s with pacer := { s.pacer with restarted := [5] } }, _, _, rfl, by decide⟩

/-- In COLLECTING after the tail timer's end: a CREDIT that completes the pass, one that is presumed to, one that lags on, and
one of a carver that has left; in ENROLLING, and in DONE. -/
theorem witness_CreditsCloseAPassAndAreReported :
    (∀ b ∈ ([[5, 0, 0, 240, 1, 1, 2], [5, 0, 0, 240, 0, 1, 2], [5, 0, 0, 239, 0, 1, 2], [8, 0, 0, 240, 0, 1, 2]] : List (List Byte)),
      ∃ s : State, ∃ f rest r w e, s.bus.rx = f :: rest ∧ f.kind = .credit ∧ s.straps.role = .tracer ∧
        s.job.record = some r ∧ r.work = .tracer w ∧ s.pacer.lag.find? (fun e => e.carver == f.src) = some e ∧
        f.payload = put16 310 ++ b ∧ e.dropped = false ∧ s.pacer.finishDue = false ∧ s.pacer.phase = .collecting ∧
        s.pacer.tailExpired = true ∧ s.job.state = .running) ∧
    ∃ s : State, ∃ f rest e, s.bus.rx = f :: rest ∧ f.kind = .credit ∧ s.straps.role = .tracer ∧
      s.pacer.lag.find? (fun e => e.carver == f.src) = some e ∧ s.pacer.phase = .off ∧ s.job.state = .done := by
  refine ⟨fun b _ => ?_, ?_⟩
  · exact ⟨got (frame .credit 4 b) (paced .running { Pacer.afterReset with
      phase := .collecting, pass := 1, tailExpired := true, lag := [lag 4 true 0] }), _, _, _, _, _, rfl, rfl, rfl, rfl,
      rfl, rfl, rfl, rfl, rfl, rfl, rfl, rfl⟩
  · exact ⟨got (frame .credit 4 [5, 0, 0, 240, 0, 1, 2]) (paced .done { Pacer.afterReset with lag := [lag 4 true 0] }), _, _,
      _, rfl, rfl, rfl, rfl, rfl, rfl⟩

/-- A RUNNING RASTER tracer of class 2 with a record due, in a phase and at a point of its grid of 3 columns and 3 rows. -/
def gated (p : GenPhase) (r : TraceRecord) (row col face : Nat) (lag : List LagEntry) : State :=
  let s := paced .running { Pacer.afterReset with phase := .passing, pass := 1, lag }
  { s with gen := { Generator.afterReset with phase := p, current := some ⟨1, 2⟩, due := [r], row, col, face } }

/-- The record next due, of a kind. -/
def dueRecord (kind : RecordKind) : TraceRecord := traceRecord 1 kind

theorem witness_EmissionPassesTheGate_kinds :
    (∃ s : State, ∃ r rest, s.gen.due = r :: rest ∧ s.store.state = .empty ∧ r.kind = .passStart ∧ s.gateOpen = true ∧
      s.store.cursor = none) ∧
    ∃ s : State, ∃ r rest, s.gen.due = r :: rest ∧ s.store.state = .recording ∧ r.kind = .passEnd ∧ s.gateOpen = true ∧
      s.store.cursor = none :=
  let s := gated .quiet (dueRecord .passEnd) 0 0 0 [lag 4 true 0]
  ⟨⟨gated .quiet (dueRecord .passStart) 0 0 0 [lag 4 true 0], _, _, rfl, rfl, rfl, by decide, rfl⟩,
    { s with store := { s.store with state := .recording } }, _, _, rfl, rfl, rfl, by decide, rfl⟩

/-- The last point of a row, the last of a face, and a point in between; the window is 2 spacings by 2 stepovers of 400. -/
theorem witness_RasterEmissionMovesTheCarriage :
    ∀ q ∈ [(0, 0, 0), (0, 2, 0), (2, 2, 0), (2, 2, 1)],
      ∃ s : State, ∃ r rest j w p cls stepover, s.gen.due = r :: rest ∧ s.job.record = some j ∧ j.work = .tracer w ∧
        w.mode = .raster ∧ s.gateOpen = true ∧ s.store.cursor = none ∧ r.kind ≠ .passEnd ∧
        s.gen.current = some ⟨p, cls⟩ ∧ w.stepovers[cls]? = some stepover ∧ w.u0 ≤ w.u1 ∧ w.v0 ≤ w.v1 ∧
        RoundsDown 2 (w.u1 - w.u0) w.spacing.toNat ∧ RoundsDown 2 (w.v1 - w.v0) stepover ∧
        (s.gen.row, s.gen.col, s.gen.face) = q := by
  intro q hq
  refine ⟨gated .atSample (dueRecord .surface) q.1 q.2.1 q.2.2 [lag 4 true 0], _, _, _, _, _, _, 400, rfl, rfl, rfl, rfl,
    ?_, rfl, by decide, rfl, rfl, by decide, by decide, ?_, ?_, rfl⟩
  · revert q
    decide
  · unfold RoundsDown
    decide
  · unfold RoundsDown
    decide

/-- With a carver that has still to complete the pass, with none, and at a replay's end. -/
theorem witness_PassEndBeginsCollection :
    (∀ n ∈ [0, 1], ∃ s : State, ∃ r rest j w, s.gen.due = r :: rest ∧ s.job.record = some j ∧ j.work = .tracer w ∧
      s.gateOpen = true ∧ s.store.cursor = none ∧ r.kind = .passEnd ∧ s.pacer.finishDue = false ∧
      s.pacer.lag = [lag 4 true n] ∧ s.pacer.pass = 1) ∧
    ∃ s : State, ∃ r rest, s.gen.due = r :: rest ∧ s.gateOpen = true ∧ s.store.state = .complete ∧
      s.store.cursor = some .passEnd ∧ r.kind = .passEnd :=
  let s := gated .quiet (dueRecord .passEnd) 0 0 0 [lag 4 true 0]
  ⟨fun n h => ⟨gated .quiet (dueRecord .passEnd) 0 0 0 [lag 4 true n], _, _, _, _, rfl, rfl, rfl, by revert n; decide, rfl,
      rfl, rfl, rfl, rfl⟩,
    { s with store := { s.store with state := .complete, cursor := some .passEnd } }, _, _, rfl, by decide, rfl, rfl, rfl⟩

/-- At the PASS_START of a replay of two records, after its first one, and after its last. -/
theorem witness_ReplayFollowsTheRecording :
    ∀ next ∈ [0, 1, 2], ∃ s : State, ∃ r rest j w, s.gen.due = r :: rest ∧ s.job.record = some j ∧ j.work = .tracer w ∧
      s.gateOpen = true ∧ s.store.state = .complete ∧ s.store.records.length = 2 ∧
      s.store.cursor = (if next = 0 then some .passStart else some (.record (next - 1))) := by
  intro next h
  let s := gated .quiet (dueRecord .surface) 0 0 0 [lag 4 true 0]
  refine ⟨{ s with store := { s.store with
      state := .complete, records := List.replicate 2 ⟨.surface, 1, 2, 3, 0, 0⟩
      cursor := if next = 0 then some .passStart else some (.record (next - 1)) } }, _, _, _, _, rfl, rfl, rfl, ?_, rfl, rfl,
    rfl⟩
  revert next
  decide

/-- A hold ends at the emission of the last record that waited. -/
theorem witness_TheStylusIsFollowed_holdEnds :
    ∃ s : State, ∃ x, s.gen.due = [x] ∧ s.gateOpen = true ∧ s.store.cursor = none ∧ s.gen.phase = .inPass ∧
      x.kind ≠ .passEnd ∧ s.gen.exitPoint = some ⟨900, 0⟩ :=
  let s := following .inPass false
  ⟨{ s with gen := { s.gen with due := [dueRecord .stroke], exitPoint := some ⟨900, 0⟩ }
            pacer := { Pacer.afterReset with phase := .passing, lag := [lag 4 true 0] } }, dueRecord .stroke, by decide⟩

/-- A move of each kind outstanding under tag 9. -/
theorem witness_TracerMovesArrive :
    ∀ q ∈ [(Move.face, GenPhase.faceMove), (.sample, .sampleMove), (.turntable, .awaitStart), (.comeback, .quiet)],
      ∃ s : State, ∃ r w o more p cls stepover, s.job.record = some r ∧ r.work = .tracer w ∧
        s.motion.outstanding = o :: more ∧ o.sp.origin = .tracerMove q.1 ∧ s.gen.phase = q.2 ∧ s.motion.closing = none ∧
        s.motion.portLift = none ∧ s.gen.current = some ⟨p, cls⟩ ∧ w.stepovers[cls]? = some stepover ∧
        w.mode = .raster := by
  intro q _
  let s := gated q.2 (dueRecord .lift) 1 1 0 []
  exact ⟨{ s with motion := { s.motion with outstanding := [out 9 (setpoint (.tracerMove q.1) false none)] } }, _, _, _, _,
    _, _, 400, rfl, rfl, rfl, rfl, rfl, rfl, rfl, rfl, rfl, rfl⟩

/-- A lift of each kind outstanding at a carver that drains. -/
theorem witness_LiftsArrive :
    ∀ g ∈ [Origin.jobStartLift, .resumeLift true, .resumeLift false, .closingLift retract,
        .closingLift { retract with drain := true }],
      ∃ s : State, ∃ o more c, s.motion.outstanding = o :: more ∧ s.motion.closing = none ∧ s.motion.portLift = none ∧
        s.carverJob = some c ∧ o.sp.origin = g ∧ s.job.finishing = true ∧ s.job.state = .running := by
  intro g _
  let s := moving .running { Motion.afterReset with outstanding := [out 9 (setpoint g false none)], spindle := .on }
  exact ⟨{ s with job := { s.job with finishing := true } }, _, _, _, rfl, rfl, rfl, rfl, rfl, rfl, rfl⟩

/-- The retract of an ABORT in IDLE, a tracer's park and job-start lift, and a lift arriving before a setpoint that waits. -/
theorem witness_LiftsArrive_others :
    (∃ s : State, ∃ o more, s.motion.outstanding = o :: more ∧ s.motion.closing = none ∧ s.motion.portLift = none ∧
      o.sp.origin = .closingLift retract ∧ s.job.state = .idle ∧ s.job.record = none ∧ s.motion.halt = .moving ∧
      s.guard.passed = none ∧ s.guard.phase ≠ .wait ∧ s.motion.waiting = [] ∧ more = []) ∧
    (∀ g ∈ [Origin.jobStartLift, .closingLift retract], ∃ s : State, ∃ o more, s.motion.outstanding = o :: more ∧
      s.motion.closing = none ∧ s.motion.portLift = none ∧ o.sp.origin = g ∧ s.straps.role = .tracer) ∧
    ∃ s : State, ∃ o more r sp, s.motion.outstanding = o :: more ∧ s.motion.closing = none ∧ s.motion.portLift = none ∧
      o.sp.origin = .jobStartLift ∧ s.motion.halt = .moving ∧ s.guard.passed = none ∧ s.guard.atCheck = some sp ∧
      s.guard.phase = .wait ∧ s.guard.announce = none ∧ s.job.record = some r ∧ needed r s.inputs.x more ≠ s.guard.claim := by
  let b := bareCarver .idle
  let w := waiting ⟨some 7, none⟩
  let x := tracer .raster .running
  refine ⟨⟨{ b with motion := { b.motion with outstanding := [out 9 (setpoint (.closingLift retract) false none)] } }, _, _,
    rfl, rfl, rfl, rfl, rfl, rfl, rfl, rfl, by decide, rfl, rfl⟩, fun g _ => ?_,
    { w with motion := { w.motion with outstanding := [out 9 (setpoint .jobStartLift false none)] } }, _, _, _, _, rfl, rfl,
    rfl, rfl, rfl, rfl, rfl, rfl, rfl, rfl, by decide⟩
  exact ⟨{ x with motion := { x.motion with outstanding := [out 9 (setpoint g false none)] } }, _, _, rfl, rfl, rfl, rfl, rfl⟩

/-- Carver 4 at a surface point whose interval, 269,999 to 359,999, takes the claim 300,000 to 359,999 beyond itself on the
left. -/
def growing (left : View) : State :=
  let s := atHead (entry .surface 120001 (-5) 10001 0)
  { s with guard := { s.guard with claim := ⟨300000, 359999⟩, left := left } }

/-- No neighbour there, one whose reach ends the guard gap of 6,000 before N, and one a micrometre nearer. -/
theorem witness_ACheckBeyondTheClaimAnnouncesOrWaits :
    ∀ v ∈ [(⟨none, none⟩ : View), ⟨some 6, some ⟨⟨⟨0, 263999⟩, none⟩, 0, false⟩⟩,
        ⟨some 6, some ⟨⟨⟨0, 264000⟩, none⟩, 0, false⟩⟩],
      ∃ s : State, headMay s (entry .surface 120001 (-5) 10001 0) ∧
        s.motion.reference = some (setpoint .jobStartLift false none) ∧ s.pq.issued.length < 2 ∧ s.guard.atCheck = none ∧
        s.guard.passed = none ∧ s.guard.announce = none ∧ s.guard.left = v ∧
        min s.guard.claim.lo (309999 - carverRecord.halfLeft) = 269999 ∧ s.guard.claim.lo = 300000 ∧
        max s.guard.claim.hi (309999 + carverRecord.halfRight) = s.guard.claim.hi := by
  intro v hv
  refine ⟨growing v, ?_, rfl, ?_, rfl, rfl, rfl, rfl, ?_⟩ <;> revert v <;> decide

/-- A GAP_LIFT before a surface record, and a closing lift, each passed. -/
theorem witness_PassedSetpointIsIssued_lifts :
    (∃ s : State, ∃ sp r e b rest, s.guard.passed = some sp ∧ s.job.record = some r ∧ sp.origin = .entry ∧
      sp.cutting = false ∧ s.pq.posted = e :: b :: rest ∧ e.kind = .gapLift ∧ b.kind = .surface ∧ b.synthetic = false ∧
      s.map.wf ∧ s.motion.halt = .moving ∧ s.bus.sensedLow = false ∧ s.job.state = .running) ∧
    ∃ s : State, ∃ sp r, s.guard.passed = some sp ∧ s.job.record = some r ∧ sp.origin = .closingLift retract ∧
      s.motion.closing = none ∧ s.motion.portLift = none ∧ s.motion.waiting = [] ∧ s.motion.halt = .moving ∧
      s.bus.sensedLow = false :=
  let s := atHead (entry .gapLift 0 0 0 0)
  let x := carver .suspended
  ⟨⟨{ s with
      pq := { s.pq with posted := [entry .gapLift 0 0 0 0, entry .surface 120001 (-5) 10001 0], free := 238 }
      guard := { s.guard with passed := some (setpoint .entry false (some 4226)) } }, _, _, _, _, _, rfl, rfl, rfl, rfl, rfl,
      rfl, rfl, rfl, by decide⟩,
    { x with guard := { x.guard with passed := some (setpoint (.closingLift retract) false none) } }, _, _, rfl, rfl, rfl,
    rfl, rfl, rfl, rfl, rfl⟩

/-- An entry emptied before its report, and two issued entries of which the newer reports. -/
theorem witness_ArrivalCompletesTheEntry_more :
    (∃ s : State, ∃ o more i behind, s.motion.outstanding = o :: more ∧ o.sp.origin = .entry ∧
      s.pq.issued = i :: behind ∧ i.tag = o.tag ∧ i.sp = o.sp ∧ i.emptied = true) ∧
    ∃ s : State, ∃ o o₂ i i₂, s.motion.outstanding = [o, o₂] ∧ o.sp.origin = .entry ∧ s.pq.issued = [i, i₂] ∧
      i.tag = o.tag ∧ i.sp = o.sp ∧ o₂.tag ≠ o.tag ∧ o₂.sp.origin = .entry ∧ i₂.tag = o₂.tag ∧ i.emptied = false ∧
      i₂.emptied = false ∧ s.guard.passed = none ∧ s.guard.atCheck = none ∧ s.motion.closing = none ∧
      s.motion.portLift = none ∧ s.job.finishing = false ∧ s.motion.waiting = [] :=
  let s := issuedOne 255
  let sp := setpoint .entry true (some 4226)
  let i (tag : Byte) (b : Bool) : Issued := ⟨entry .surface 120001 (-5) 10001 0, tag, sp, b⟩
  ⟨⟨{ s with pq := { s.pq with issued := [i 255 true] } }, _, _, _, _, rfl, rfl, rfl, rfl, rfl, rfl⟩,
    { s with pq := { s.pq with issued := [i 255 false, i 0 false] }, motion := { s.motion with outstanding := [out 255 sp, out 0 sp] } },
    _, _, _, _, rfl, rfl, rfl, rfl, rfl, by decide, rfl, rfl, rfl, rfl, rfl, rfl, rfl, rfl, rfl, rfl⟩

/-- A carver with a lag entry that joins again at a tracer, and a neighbour found anew on the own rail. -/
theorem witness_JoinWritesTheEntry_rejoins :
    (∃ s : State, ∃ f rest p q, s.bus.rx = f :: rest ∧ f.kind = .join ∧ readJoin f.payload = some p ∧
      f.src ≠ s.straps.number.val ∧ byteAt f.payload 7 = 0 ∧ s.roster.entries.getD f.src none = some q ∧
      s.straps.role = .tracer ∧ s.pacer.phase ≠ .off ∧ ∃ e ∈ s.pacer.lag, e.carver = f.src) ∧
    ∃ s : State, ∃ f rest p, s.bus.rx = f :: rest ∧ f.kind = .join ∧ readJoin f.payload = some p ∧
      f.src ≠ s.straps.number.val ∧ byteAt f.payload 7 ≤ 1 ∧ p.rail = s.straps.rail.val ∧ s.guard.right.station = some 6 ∧
      s.guard.phase = .settle ∧ s.guard.side = .right :=
  let s := got (join 4 0) (paced .running { Pacer.afterReset with phase := .passing, lag := [lag 4 true 0] })
  ⟨⟨{ s with roster := { s.roster with entries := s.roster.entries.set 4 (some ⟨.carver, 0, 2, 0, 240, 0, 0⟩) } }, _, _,
      ⟨.carver, 0, 2, 0, 240, 0, 0⟩, _, rfl, rfl, rfl, by decide, by decide, rfl, by decide⟩,
    got (join 6 0) (settling true none none), _, _, ⟨.carver, 0, 2, 0, 240, 0, 0⟩, rfl, by decide⟩

/-- A JOIN of a new left neighbour while a setpoint waits at the check toward the left. -/
theorem witness_JoinWritesTheEntry_rechecks :
    ∃ s : State, ∃ f rest p sp, s.bus.rx = f :: rest ∧ f.kind = .join ∧ readJoin f.payload = some p ∧
      f.src ≠ s.straps.number.val ∧ byteAt f.payload 7 ≤ 1 ∧ p.rail = s.straps.rail.val ∧ s.guard.phase = .wait ∧
      s.guard.side = .left ∧ s.guard.announce = none ∧ s.guard.atCheck = some sp ∧ s.job.record = some carverRecord ∧
      neighbour .right (after .join s) = s.guard.right.station ∧ s.guard.right.station ≠ some f.src ∧
      neighbour .left (after .join s) = some f.src ∧ s.guard.left.station ≠ some f.src :=
  let s := waiting ⟨some 7, none⟩
  let here : State := { s with guard := { s.guard with right := ⟨none, none⟩ } }
  ⟨got ⟨.join, 6, 255, [0xB6, 1, 0, 0, 0, 240, 0, 1]⟩ here, _, _, ⟨.carver, 0, 0, 0, 240, 0, 0⟩, _, rfl, rfl, rfl, by decide,
    by decide, rfl, rfl, rfl, rfl, rfl, rfl, by decide, by decide, by decide, by decide⟩

/-! One step of a command, where a reset, a second stop or a frame of the station's own is concerned. -/

/-- R34: code 2 of a failed Cut Map memory is the second code lamp, and the state lamp flashes red. -/
theorem test_failed_lamps :
    let s := after (.memoryTestEnd false) (after (.memoryTestEnd true) (after (.leaveReset (straps 4 .carver)) State.reset))
    (lampLevels s).first = false ∧ (lampLevels s).second = true ∧ (lampLevels s).green = false := by decide

/-- R173: a stop sensed a second time changes nothing of the moves held. -/
theorem test_second_stop_keeps_the_held_moves :
    let s := heldTracer { Pacer.afterReset with phase := .passing } Generator.afterReset
    (after .stopSensed s).motion.held = s.motion.held := by decide

/-- R7: an own frame to all read back with a full buffer counts an overrun. -/
theorem test_own_frame_finds_the_buffer_full :
    let s := sending ⟨queued .trace 0, none⟩ (carver .idle)
    let full : State := { s with bus := { s.bus with rx := List.replicate 4 (frame .start 3 []) } }
    (after (.frameReceived (wireBytes 4 .start 255 (put16 310))) full).cond.count .receiveOverruns = 1 := by
  decide +kernel

/-- R46: in ARMED a passed setpoint waits. -/
theorem test_armed_port_issues_nothing :
    let s := carver .armed
    let x : State := { s with guard := { s.guard with passed := some (setpoint .jobStartLift false none) } }
    (after .setpointIssue x).motion.outstanding = [] := by decide

/-- R20: the tenth tick at which the others pull the line senses the stop, and a tick of high level starts the count afresh. -/
theorem test_filter_counts_the_raw_level :
    let s := carver .running
    let low (n : Nat) (ahead : List Bool) : State := countTick { s with
      bus := { s.bus with filter := n }, inputs := { s.inputs with lineAhead := ahead } }
    timersDue (low 9 [true]) = [.stopSensed] ∧ timersDue (low 8 [true]) = [] ∧ (low 9 [false]).bus.filter = 0 := by decide

/-- R20: while another pulls the line the end of the station's own pull releases nothing. -/
theorem test_another_pull_holds_the_line :
    let s := pulled 99
    let tick (b : Bool) : State := countTick { s with inputs := { s.inputs with lineAhead := [b] } }
    timersDue (tick true) = [] ∧ timersDue (tick false) = [.stopReleased] := by decide

/-- R52, R168: a FINISH that finds the carriage in the lift and nothing to drain ends in DONE at once. -/
theorem test_finish_with_nothing_to_drain :
    (after .finish (got (frame .finish 1 []) (moving .running { Motion.afterReset with
      reference := some { setpoint .jobStartLift false none with depth := -3000 }, refArrived := true }))).job.state =
        .done := by decide

end Sys2Proof.Tests
end

/-! SUPPORT. The checks of a job record (R41 to R44): what each check tests at its places in the record's bytes, and that
validation answers with the first one that fails. -/

namespace Sys2Proof.Machine

open Sys2Proof

/-! ## The first failing check of a list -/

/-- The code is that of the first failure that holds, of failures in their order. -/
def FirstFailing (order : List (Prop × JobCode)) (code : JobCode) : Prop :=
  ∃ (before after : List (Prop × JobCode)) (p : Prop), order = before ++ (p, code) :: after ∧ p ∧ ∀ c ∈ before, ¬ c.1

/-- A check and a failure that say the same: the check answers false exactly when the failure holds, with one code. -/
def Detects (check : Bool × JobCode) (failure : Prop × JobCode) : Prop :=
  (check.1 = false ↔ failure.1) ∧ check.2 = failure.2

theorem not_firstFailing_nil (code : JobCode) : ¬ FirstFailing [] code := by
  rintro ⟨before, after, p, h, -⟩
  simp at h

theorem firstFailing_cons_of_holds {p : Prop} (hp : p) (c code : JobCode) (order : List (Prop × JobCode)) :
    FirstFailing ((p, c) :: order) code ↔ c = code := by
  constructor
  · rintro ⟨before, after, q, h, -, hbefore⟩
    cases before with
    | nil =>
      obtain ⟨hhead, -⟩ := List.cons.inj h
      exact congrArg Prod.snd hhead
    | cons b before =>
      obtain ⟨hhead, -⟩ := List.cons.inj h
      exact absurd hp (hhead.symm ▸ hbefore b List.mem_cons_self :)
  · rintro rfl
    exact ⟨[], order, p, rfl, hp, by simp⟩

theorem firstFailing_cons_of_not {p : Prop} (hp : ¬ p) (c code : JobCode) (order : List (Prop × JobCode)) :
    FirstFailing ((p, c) :: order) code ↔ FirstFailing order code := by
  constructor
  · rintro ⟨before, after, q, h, hq, hbefore⟩
    cases before with
    | nil =>
      obtain ⟨hhead, -⟩ := List.cons.inj h
      have hpq : p = q := congrArg Prod.fst hhead
      exact absurd (hpq ▸ hq) hp
    | cons b before =>
      obtain ⟨-, htail⟩ := List.cons.inj h
      exact ⟨before, after, q, htail, hq, fun x hx => hbefore x (List.mem_cons_of_mem b hx)⟩
  · rintro ⟨before, after, q, rfl, hq, hbefore⟩
    exact ⟨(p, c) :: before, after, q, rfl, hq, List.forall_mem_cons.2 ⟨hp, hbefore⟩⟩

theorem firstFailure_eq_none_iff {checks : List (Bool × JobCode)} {order : List (Prop × JobCode)}
    (h : List.Forall₂ Detects checks order) : firstFailure checks = none ↔ ∀ c ∈ order, ¬ c.1 := by
  induction h with
  | nil => simp [firstFailure]
  | @cons check failure checks order hhead _ ih =>
    obtain ⟨ok, code⟩ := check
    rw [List.forall_mem_cons, ← ih, ← hhead.1]
    cases ok <;> simp [firstFailure]

theorem firstFailure_eq_some_iff {checks : List (Bool × JobCode)} {order : List (Prop × JobCode)}
    (h : List.Forall₂ Detects checks order) (code : JobCode) :
    firstFailure checks = some code ↔ FirstFailing order code := by
  induction h with
  | nil => simp [firstFailure, not_firstFailing_nil]
  | @cons check failure checks order hhead _ ih =>
    obtain ⟨ok, c⟩ := check
    obtain ⟨p, c'⟩ := failure
    obtain ⟨hp, hc : c = c'⟩ := hhead
    subst hc
    cases ok with
    | false => simp [firstFailure, firstFailing_cons_of_holds (hp.1 rfl)]
    | true => simpa [firstFailure, firstFailing_cons_of_not (fun h => absurd (hp.2 h) (by simp))] using ih

/-! ## Lists read from the bytes -/

theorem byteAt_lt (d : List Byte) (k : Nat) : byteAt d k < 256 := (d.getD k 0).isLt

theorem u16At_lt (d : List Byte) (k : Nat) : u16At d k < 65536 := by
  have hhigh := byteAt_lt d k
  have hlow := byteAt_lt d (k + 1)
  unfold u16At
  omega

/-- Two bytes hold an angle whole, so equal angles are equal fields. -/
theorem angle_u16At_inj (d : List Byte) (j k : Nat) :
    BitVec.ofNat 16 (u16At d j) = BitVec.ofNat 16 (u16At d k) ↔ u16At d j = u16At d k := by
  rw [← BitVec.toNat_inj, BitVec.toNat_ofNat, BitVec.toNat_ofNat, Nat.mod_eq_of_lt (u16At_lt d j),
    Nat.mod_eq_of_lt (u16At_lt d k)]

theorem distinct_iff_nodup {α : Type} [DecidableEq α] (l : List α) : distinct l = true ↔ l.Nodup := by
  induction l with
  | nil => simp [distinct]
  | cons a l ih => simp [distinct, ih]

/-- Two of the first n values are equal. -/
def Repeats {α : Type} (n : Nat) (f : Nat → α) : Prop := ∃ i j : Nat, i < j ∧ j < n ∧ f i = f j

theorem distinct_map_range_eq_false_iff {α : Type} [DecidableEq α] (f : Nat → α) (n : Nat) :
    distinct ((List.range n).map f) = false ↔ Repeats n f := by
  rw [← Bool.not_eq_true, distinct_iff_nodup, List.Nodup, List.pairwise_map, List.pairwise_iff_getElem]
  simp only [List.length_range, List.getElem_range]
  push Not
  constructor
  · rintro ⟨i, j, -, hj, hij, heq⟩
    exact ⟨i, j, hij, hj, heq⟩
  · rintro ⟨i, j, hij, hj, heq⟩
    exact ⟨i, j, hij.trans hj, hj, hij, heq⟩

/-! ## What each check tests (R42 to R44) -/

theorem roleField_eq_false_iff (role : Role) (d : List Byte) :
    decide (byteAt d 2 = roleCode role) = false ↔ byteAt d 2 ≠ (if role = .tracer then 0 else 1) := by
  rw [decide_eq_false_iff_not]
  cases role <;> simp [roleCode]

/-- The common fields' windows fail (R41). -/
def WindowFails (d : List Byte) : Prop :=
  lengthAt d 3 < 0 ∨ lengthAt d 6 < 0 ∨ lengthAt d 15 < lengthAt d 12 ∨ lengthAt d 21 < lengthAt d 18

theorem windowOk_recordOf_eq_false_iff (id : Nat) (d : List Byte) (work : Work) :
    windowOk (recordOf id d work) = false ↔ WindowFails d := by
  rw [windowOk, decide_eq_false_iff_not, WindowFails]
  simp only [recordOf]
  omega

theorem facesOk_anglesAt_eq_false_iff (d : List Byte) (off n : Nat) :
    facesOk (anglesAt d off n) = false ↔
      n < 1 ∨ 8 < n ∨ Repeats n (fun i => u16At d (off + 2 * i)) := by
  rw [facesOk, Bool.and_eq_false_iff, anglesAt, distinct_map_range_eq_false_iff]
  simp only [Repeats, angle_u16At_inj, decide_eq_false_iff_not, List.length_map, List.length_range, ← or_assoc]
  exact or_congr_left (by omega)

theorem tracerLengthOk_eq_false_iff (d : List Byte) :
    tracerLengthOk d = false ↔
      d.length ≤ 61 ∨ d.length ≤ 62 + 2 * byteAt d 61 ∨
        d.length ≠ 63 + 2 * byteAt d 61 + byteAt d (62 + 2 * byteAt d 61) := by
  simp only [tracerLengthOk, Bool.and_eq_false_iff, decide_eq_false_iff_not, Nat.not_lt, or_assoc, ne_eq]

theorem carverLengthOk_eq_false_iff (d : List Byte) :
    carverLengthOk d = false ↔
      d.length ≤ 67 ∨ d.length ≤ 68 + 2 * byteAt d 67 ∨
        d.length ≠ 69 + 2 * byteAt d 67 + 13 * byteAt d (68 + 2 * byteAt d 67) := by
  simp only [carverLengthOk, Bool.and_eq_false_iff, decide_eq_false_iff_not, Nat.not_lt, or_assoc, ne_eq]

/-- A record has four stepovers (R42). -/
theorem stepoversOk_four_eq_false_iff (f : Nat → Nat) :
    stepoversOk [f 0, f 1, f 2, f 3] = false ↔
      (∃ i < 4, f i < 50 ∨ 50000 < f i) ∨ (∃ i < 3, f (i + 1) ≤ f i) := by
  simp only [stepoversOk, Bool.and_eq_false_iff, decide_eq_false_iff_not, Nat.exists_lt_succ_right, Nat.not_lt_zero,
    false_and, exists_false, false_or, Nat.zero_add, Nat.reduceAdd]
  omega

theorem tracerWindow_eq_false_iff (id : Nat) (d : List Byte) (work : Work) :
    (windowOk (recordOf id d work) && decide ((tracerOf d).u0 ≤ (tracerOf d).u1 ∧ (tracerOf d).v0 ≤ (tracerOf d).v1)
        && stepoversOk (tracerOf d).stepovers) = false ↔
      WindowFails d ∨ lengthAt d 39 < lengthAt d 36 ∨ lengthAt d 45 < lengthAt d 42 ∨
        (∃ i < 4, u16At d (51 + 2 * i) < 50 ∨ 50000 < u16At d (51 + 2 * i)) ∨
        (∃ i < 3, u16At d (51 + 2 * (i + 1)) ≤ u16At d (51 + 2 * i)) := by
  have hsteps := stepoversOk_four_eq_false_iff fun i => u16At d (51 + 2 * i)
  have hrange : decide ((tracerOf d).u0 ≤ (tracerOf d).u1 ∧ (tracerOf d).v0 ≤ (tracerOf d).v1) = false ↔
      lengthAt d 39 < lengthAt d 36 ∨ lengthAt d 45 < lengthAt d 42 := by
    rw [decide_eq_false_iff_not]
    simp only [tracerOf]
    omega
  rw [Bool.and_eq_false_iff, Bool.and_eq_false_iff, windowOk_recordOf_eq_false_iff, hrange, or_assoc, or_assoc]
  exact or_congr_right (or_congr_right (or_congr_right hsteps))

theorem tracerPlanOk_tracerOf_eq_false_iff (own : Nat) (d : List Byte) :
    let faces := byteAt d 61
    let count := byteAt d (62 + 2 * faces)
    let enrolled (i : Nat) : Nat := byteAt d (63 + 2 * faces + i)
    tracerPlanOk own d (tracerOf d) = false ↔
      1 < byteAt d 35 ∨ count < 1 ∨ 16 < count ∨ (∃ i < count, 31 < enrolled i ∨ enrolled i = own) ∨
        Repeats count enrolled ∨ byteAt d 59 < 1 ∨ 1 < byteAt d 60 := by
  intro faces count enrolled
  have hall : ((List.range count).map enrolled).all (fun k => decide (k < 32 ∧ k ≠ own)) = false ↔
      ∃ i < count, 31 < enrolled i ∨ enrolled i = own := by
    simp only [List.all_eq_false, List.mem_map, List.mem_range, decide_eq_true_eq, exists_exists_and_eq_and]
    exact exists_congr fun i => and_congr_right fun _ => by omega
  have hdistinct := distinct_map_range_eq_false_iff enrolled count
  have henrol : (tracerOf d).enrol = (List.range count).map enrolled := rfl
  simp only [tracerPlanOk, henrol, Bool.and_eq_false_iff, hall, hdistinct, decide_eq_false_iff_not, List.length_map,
    List.length_range, not_and_or, not_le, or_assoc]
  exact Iff.rfl

theorem carverTracer_eq_false_iff (own : Nat) (d : List Byte) :
    decide ((carverOf d).tracer < 32 ∧ (carverOf d).tracer ≠ own) = false ↔ 31 < byteAt d 35 ∨ byteAt d 35 = own := by
  rw [decide_eq_false_iff_not]
  simp only [carverOf]
  omega

theorem scaleOk_carverOf_eq_false_iff (d : List Byte) :
    scaleOk (carverOf d) = false ↔
      u16At d 36 < 1 ∨ 4096 < u16At d 36 ∨ u16At d 38 < 1 ∨ 4096 < u16At d 38 ∨ 16 * u16At d 36 < u16At d 38 ∨
        16 * u16At d 38 < u16At d 36 ∨ u16At d 55 < 64 ∨ 2048 < u16At d 55 ∨ lengthAt d 57 < 0 := by
  rw [scaleOk, Bool.and_eq_false_iff, decide_eq_false_iff_not, decide_eq_false_iff_not]
  simp only [carverOf]
  omega

theorem carverWindow_eq_false_iff (id : Nat) (d : List Byte) (work : Work) :
    (windowOk (recordOf id d work)
        && decide (1 ≤ (carverOf d).dMax ∧ 8 ≤ (carverOf d).shift ∧ (carverOf d).shift ≤ 15)) = false ↔
      WindowFails d ∨ lengthAt d 52 < 1 ∨ byteAt d 66 < 8 ∨ 15 < byteAt d 66 := by
  rw [Bool.and_eq_false_iff, windowOk_recordOf_eq_false_iff, decide_eq_false_iff_not]
  simp only [carverOf]
  exact or_congr_right (by omega)

theorem stepKindOf_eq_none_iff (n : Nat) : stepKindOf n = none ↔ 2 < n := by
  rcases n with _ | _ | _ | n <;> simp [stepKindOf]

theorem advanceOf_eq_none_iff (n : Nat) : advanceOf n = none ↔ 3 < n := by
  rcases n with _ | _ | _ | _ | n <;> simp [advanceOf]

/-- The plan step at an offset fails (R44). -/
def PlanStepFails (d : List Byte) (off : Nat) : Prop :=
  2 < byteAt d off ∨ lengthAt d (off + 4) < 0 ∨ lengthAt d (off + 7) < lengthAt d (off + 1) ∨
    3 < byteAt d (off + 10) ∨ byteAt d (off + 11) < 1 ∨ 64 < byteAt d (off + 11) ∨ 3 < byteAt d (off + 12)

theorem planEntryOk_planStepAt_eq_false_iff (d : List Byte) (off : Nat) :
    planEntryOk (planStepAt d off) = false ↔ PlanStepFails d off := by
  rw [PlanStepFails, ← stepKindOf_eq_none_iff, ← advanceOf_eq_none_iff (byteAt d (off + 12)), planStepAt]
  cases stepKindOf (byteAt d off) with
  | none => simp [planEntryOk]
  | some kind =>
    cases advanceOf (byteAt d (off + 12)) with
    | none => simp [planEntryOk]
    | some advance =>
      simp only [planEntryOk, PlanStep.ok, decide_eq_false_iff_not, reduceCtorEq, false_or, or_false]
      omega

theorem planOk_planAt_eq_false_iff (d : List Byte) (off n : Nat) :
    planOk (planAt d off n) = false ↔ n < 1 ∨ 12 < n ∨ ∃ i < n, PlanStepFails d (off + 13 * i) := by
  simp only [planOk, planAt, Bool.and_eq_false_iff, List.all_eq_false, List.mem_map, List.mem_range,
    exists_exists_and_eq_and, Bool.not_eq_true, planEntryOk_planStepAt_eq_false_iff, decide_eq_false_iff_not,
    List.length_map, List.length_range, ← or_assoc]
  exact or_congr_left (by omega)

/-- Settles O22: each check of the record tests what stands at its places in the bytes, so the first check that fails is the
first failure that holds. -/
theorem recordsAreValidated : Obligations.RecordsAreValidated := by
  intro own role id d repeats window stepover tf te enrolled tracer snum sden cf ck step carver order
  have hchecks : List.Forall₂ Detects ((decide (2 < d.length), .length) ::
      (decide (byteAt d 2 = roleCode role), .wrongRole) :: roleChecks own role d (readRecord role id d)) order := by
    refine .cons ⟨by simp, rfl⟩ (.cons ⟨roleField_eq_false_iff role d, rfl⟩ ?_)
    cases role with
    | tracer =>
      exact .cons ⟨tracerLengthOk_eq_false_iff d, rfl⟩ <| .cons ⟨tracerWindow_eq_false_iff id d _, rfl⟩ <|
        .cons ⟨facesOk_anglesAt_eq_false_iff d 62 tf, rfl⟩ <|
        .cons ⟨tracerPlanOk_tracerOf_eq_false_iff own d, rfl⟩ .nil
    | carver =>
      exact .cons ⟨carverLengthOk_eq_false_iff d, rfl⟩ <| .cons ⟨carverTracer_eq_false_iff own d, rfl⟩ <|
        .cons ⟨scaleOk_carverOf_eq_false_iff d, rfl⟩ <| .cons ⟨carverWindow_eq_false_iff id d _, rfl⟩ <|
        .cons ⟨facesOk_anglesAt_eq_false_iff d 68 cf, rfl⟩ <|
        .cons ⟨planOk_planAt_eq_false_iff d (69 + 2 * cf) ck, rfl⟩ .nil
  exact ⟨firstFailure_eq_none_iff hchecks, firstFailure_eq_some_iff hchecks⟩

end Sys2Proof.Machine

/-! SUPPORT. The Transform (chapter 8): its quotients, and its candidate for every kind of entry. -/

namespace Sys2Proof.Machine

open Sys2Proof

/-! ## Exact quotients (section 1.6.5) -/

theorem RoundsHalfAway.neg {q n : Int} {d : Nat} (h : RoundsHalfAway q n d) : RoundsHalfAway (-q) (-n) d := by
  unfold RoundsHalfAway at *
  rw [neg_mul]
  omega

/-- A value of 0 or more is rounded half up: its rounding is the floor of n / d + 1/2. -/
theorem RoundsHalfAway.eq_ediv {q n : Int} {d : Nat} (hd : 1 ≤ d) (hn : 0 ≤ n) (h : RoundsHalfAway q n d) :
    q = (2 * n + d) / (2 * d) := by
  obtain ⟨hnear, htie⟩ := h
  have hpos : (0 : Int) < d := by omega
  have hquot : 0 ≤ q * d ∨ q * d ≤ -d := by
    rcases lt_or_ge q 0 with hq | hq
    · exact .inr (by nlinarith)
    · exact .inl (by positivity)
  symm
  rw [Int.ediv_eq_iff_of_pos (by omega)]
  have hlow : q * (2 * d) = 2 * (q * d) := by ring
  have hhigh : (q + 1) * (2 * d) = 2 * (q * d) + 2 * d := by ring
  omega

theorem RoundsHalfAway.eq_rha {q n : Int} {d : Nat} (hd : 1 ≤ d) (h : RoundsHalfAway q n d) : q = rha n d := by
  unfold rha
  split
  case isTrue hneg =>
    have := h.neg.eq_ediv hd (by omega)
    push_cast
    rw [abs_of_neg hneg]
    omega
  case isFalse hpos =>
    have := h.eq_ediv hd (by omega)
    push_cast
    rwa [abs_of_nonneg (by omega)]

theorem RoundsDown.eq_floorDiv {q n : Int} {d : Nat} (hd : 1 ≤ d) (h : RoundsDown q n d) : q = floorDiv n d := by
  rw [floorDiv, Int.fdiv_eq_ediv_of_nonneg n (by omega), eq_comm, Int.ediv_eq_iff_of_pos (by omega), ← add_one_mul]
  exact h

/-! ## Saturation, clamping and the travel window (R124, R125) -/

theorem saturate_eq_ite (i : Int) :
    saturate i = if i < -8388608 then -8388608 else if 8388607 < i then 8388607 else i := by
  unfold saturate
  split_ifs <;> omega

theorem clampInto_eq_ite {lo hi : Int} (h : lo ≤ hi) (i : Int) :
    clampInto lo hi i = if i < lo then lo else if hi < i then hi else i := by
  unfold clampInto
  split_ifs <;> omega

theorem clips_iff (i : Int) : clips i = true ↔ saturate i ≠ i := by
  simp [clips]

theorem inTravel_eq_false_iff (r : JobRecord) (x y : Int) :
    r.inTravel x y = false ↔ x < r.xMin ∨ r.xMax < x ∨ y < r.yMin ∨ r.yMax < y := by
  simp only [JobRecord.inTravel, decide_eq_false_iff_not]
  omega

theorem lateralClip_iff (c : CarverJob) (e : Entry) :
    lateralClip c e = true ↔ saturate (c.rawX e.u) ≠ c.rawX e.u ∨ saturate (c.rawY e.v) ≠ c.rawY e.v := by
  simp [lateralClip, clips_iff]

theorem isLetterStroke_iff (kind : StepKind) (e : Entry) :
    isLetterStroke kind e = true ↔ e.kind = .stroke ∧ kind = .letter := by
  simp [isLetterStroke]

/-! ## The marks of the depth steps (R133) -/

theorem rangeClip_depthMarks_iff (c : CarverJob) (kind : StepKind) (e : Entry) :
    (depthMarks c kind e).rangeClip = true ↔
      (saturate (c.rawX e.u) ≠ c.rawX e.u ∨ saturate (c.rawY e.v) ≠ c.rawY e.v) ∨
        saturate (c.rawSurface e.depth) ≠ c.rawSurface e.depth ∨ targetDepth c kind e ≠ rawTarget c kind e := by
  simp only [depthMarks, Bool.or_eq_true, lateralClip_iff, clips_iff, targetDepth, or_assoc]

theorem letterCap_depthMarks_iff (c : CarverJob) (kind : StepKind) (e : Entry) :
    (depthMarks c kind e).letterCap = true ↔
      (e.kind = .stroke ∧ kind = .letter) ∧ c.letterLimit < c.rawLetter e.width := by
  simp only [depthMarks, Bool.and_eq_true, decide_eq_true_iff, isLetterStroke_iff]

/-! ## The candidate of each kind of entry (R121) -/

section

variable (r : JobRecord) (c : CarverJob) (floor : Int) (kind : StepKind) (ref : Setpoint) {e : Entry}

/-- The entries that have a point of their own (R123): all but GAP_LIFT and the markers. -/
def Entry.hasPoint (e : Entry) : Prop := e.kind = .surface ∨ e.kind = .stroke ∨ e.kind = .lift

theorem transform_of_outside (he : e.hasPoint) (h : r.inTravel (lateral c e).1 (lateral c e).2 = false) :
    transform r c floor kind ref e = travelLift r c e := by
  rcases he with he | he | he <;> simp [transform, he, h]

theorem transform_of_inside_lift (he : e.kind = .lift) (h : r.inTravel (lateral c e).1 (lateral c e).2 = true) :
    transform r c floor kind ref e = plainLift r c e := by
  simp [transform, he, h]

theorem transform_of_inside_cut (he : e.hasPoint) (hlift : e.kind ≠ .lift)
    (h : r.inTravel (lateral c e).1 (lateral c e).2 = true) :
    transform r c floor kind ref e = cutOrLift r c floor kind e := by
  rcases he with he | he | he
  · simp [transform, he, h]
  · simp [transform, he, h]
  · contradiction

theorem transform_of_gapLift (he : e.kind = .gapLift) : transform r c floor kind ref e = gapLift r ref := by
  simp [transform, he]

theorem cutOrLift_of_shallow (h : commandedDepth c floor kind e < r.clearance) :
    cutOrLift r c floor kind e = liftCandidate (lateral c e).1 (lateral c e).2 r.clearance (c.turn e.angle)
      (some e.angle) Marks.none := by
  simp [cutOrLift, h]

theorem cutOrLift_of_deep (h : r.clearance ≤ commandedDepth c floor kind e) :
    cutOrLift r c floor kind e =
      { x := (lateral c e).1, y := (lateral c e).2, depth := commandedDepth c floor kind e, angle := c.turn e.angle
        feed := .cut, origin := .entry, traced := some e.angle, cutting := true, air := false, cell := none
        marks := depthMarks c kind e } := by
  simp [cutOrLift, not_lt.mpr h]

/-- The angle of an entry with a point is phased whatever becomes of its position and depth (R126). -/
theorem transform_angle_of_hasPoint (he : e.hasPoint) :
    (transform r c floor kind ref e).angle = c.turn e.angle ∧
      (transform r c floor kind ref e).traced = some e.angle ∧ (transform r c floor kind ref e).origin = .entry := by
  cases hin : r.inTravel (lateral c e).1 (lateral c e).2 with
  | false => rw [transform_of_outside r c floor kind ref he hin]; exact ⟨rfl, rfl, rfl⟩
  | true =>
    by_cases hlift : e.kind = .lift
    · rw [transform_of_inside_lift r c floor kind ref hlift hin]; exact ⟨rfl, rfl, rfl⟩
    · rw [transform_of_inside_cut r c floor kind ref he hlift hin]
      rcases lt_or_ge (commandedDepth c floor kind e) r.clearance with hd | hd
      · rw [cutOrLift_of_shallow r c floor kind hd]; exact ⟨rfl, rfl, rfl⟩
      · rw [cutOrLift_of_deep r c floor kind hd]; exact ⟨rfl, rfl, rfl⟩

end

/-- Settles O8: each quantity the statement spells out is the model's own for it, and the candidate is then read off the
equation for its kind of entry. -/
theorem transformFollowsItsRules : Obligations.TransformFollowsItsRules := by
  intro r c floor kind ref e hden mx my fs fv hmx hmy hfs hfv sat within x0 y0 x y outside letter ds dc0 dc dcmd a' clip
    clipDepth sp lifts
  have hsat : sat = saturate := funext fun i => (saturate_eq_ite i).symm
  have hx0 : x0 = c.rawX e.u := by simp only [x0, CarverJob.rawX, hmx.eq_rha hden]
  have hy0 : y0 = c.rawY e.v := by simp only [y0, CarverJob.rawY, hmy.eq_rha hden]
  have hx : x = (lateral c e).1 := by simp only [x, hsat, hx0, lateral]
  have hy : y = (lateral c e).2 := by simp only [y, hsat, hy0, lateral]
  have hraw : fs + c.dOff = c.rawSurface e.depth := by rw [CarverJob.rawSurface, hfs.eq_floorDiv hden]
  have hrawLetter : fv = c.rawLetter e.width := hfv.eq_floorDiv (by omega)
  have hletter : isLetterStroke kind e = true ↔ letter := isLetterStroke_iff kind e
  have hds : ds = saturate (c.rawSurface e.depth) := by simp only [ds, hsat, hraw]
  have hcap : (if c.letterLimit < fv then c.letterLimit else fv) = c.letter e.width := by
    rw [CarverJob.letter, ← hrawLetter]; split_ifs <;> omega
  have hdc0 : dc0 = rawTarget c kind e := by simp only [dc0, rawTarget, hds, hcap, hletter]
  have hdc : dc = targetDepth c kind e := by simp only [dc, hsat, hdc0, targetDepth]
  have hdcmd : dcmd = commandedDepth c floor kind e := by simp only [dcmd, hdc, commandedDepth, min_assoc]
  have houtside : r.inTravel (lateral c e).1 (lateral c e).2 = false ↔ outside := by
    rw [← hx, ← hy]; exact inTravel_eq_false_iff r x y
  have hclip : lateralClip c e = decide clip := by
    rw [Bool.eq_iff_iff, decide_eq_true_iff, lateralClip_iff, ← hx0, ← hy0, ← hsat]
  have hrangeClip : (depthMarks c kind e).rangeClip = decide (clip ∨ clipDepth) := by
    rw [Bool.eq_iff_iff, decide_eq_true_iff, rangeClip_depthMarks_iff, ← hx0, ← hy0, ← hds, ← hraw, ← hdc,
      ← hdc0, ← hsat]
  have hletterCap : (depthMarks c kind e).letterCap = decide (letter ∧ c.letterLimit < fv) := by
    rw [Bool.eq_iff_iff, decide_eq_true_iff, letterCap_depthMarks_iff, hrawLetter]
  have hmarks : depthMarks c kind e = ⟨decide (clip ∨ clipDepth), false, decide (letter ∧ c.letterLimit < fv),
      decide (c.dMax < dc)⟩ := by
    rw [← hrangeClip, ← hletterCap, hdc]; rfl
  refine ⟨fun he hwx hwy => ?_, fun he => ?_⟩
  · obtain ⟨hangle, htraced, horigin⟩ := transform_angle_of_hasPoint r c floor kind ref he
    refine ⟨hangle, htraced, horigin, fun hout => ?_, fun hin => ?_⟩
    · have hsp : sp = travelLift r c e := transform_of_outside r c floor kind ref he (houtside.mpr hout)
      have hwithin (lo hi i : Int) (h : lo ≤ hi) : within lo hi i = clampInto lo hi i := (clampInto_eq_ite h i).symm
      simp only [lifts, hsp, hwithin _ _ _ hwx, hwithin _ _ _ hwy, hx, hy, ← hclip]
      exact ⟨⟨rfl, rfl, rfl⟩, rfl, rfl, rfl⟩
    · have hin : r.inTravel (lateral c e).1 (lateral c e).2 = true := by
        rwa [← houtside, Bool.not_eq_false] at hin
      by_cases hlift : e.kind = .lift
      · have hsp : sp = plainLift r c e := transform_of_inside_lift r c floor kind ref hlift hin
        simp only [lifts, hsp, hx, hy, ← hclip]
        exact ⟨rfl, rfl, fun _ => ⟨⟨rfl, rfl, rfl⟩, rfl⟩, fun h => absurd hlift h⟩
      · have hsp : sp = cutOrLift r c floor kind e := transform_of_inside_cut r c floor kind ref he hlift hin
        rcases lt_or_ge dcmd r.clearance with hshallow | hdeep
        · rw [cutOrLift_of_shallow r c floor kind (hdcmd ▸ hshallow)] at hsp
          simp only [lifts, hsp]
          exact ⟨hx.symm, hy.symm, fun h => absurd h hlift,
            fun _ => ⟨fun _ => ⟨⟨rfl, rfl, rfl⟩, rfl⟩, fun h => absurd hshallow h.not_gt⟩⟩
        · rw [cutOrLift_of_deep r c floor kind (hdcmd ▸ hdeep)] at hsp
          rw [hsp]
          exact ⟨hx.symm, hy.symm, fun h => absurd h hlift,
            fun _ => ⟨fun h => absurd h hdeep.not_gt, fun _ => ⟨rfl, hdcmd.symm, hmarks⟩⟩⟩
  · have hsp : sp = gapLift r ref := transform_of_gapLift r c floor kind ref he
    simp only [lifts, hsp]
    exact ⟨⟨rfl, rfl, rfl⟩, rfl, rfl, rfl, rfl, rfl⟩

end Sys2Proof.Machine

/-! SUPPORT. The cells of the Cut Map and the air test (sections 9.1 and 9.2). -/

namespace Sys2Proof.Machine

open Sys2Proof

/-! ## Faces and cells (R138, R139) -/

theorem faceFrom_of_getElem? {a : Angle} {faces : List Angle} (hdistinct : faces.Nodup) {k : Nat}
    (h : faces[k]? = some a) (i : Nat) : faceFrom a faces i = some (i + k) := by
  induction faces generalizing i k with
  | nil => simp at h
  | cons b faces ih =>
    obtain ⟨hb, hrest⟩ := List.nodup_cons.1 hdistinct
    cases k with
    | zero =>
      obtain rfl : b = a := by simpa using h
      simp [faceFrom]
    | succ k =>
      have h : faces[k]? = some a := by simpa using h
      have hne : b ≠ a := fun hba => hb (hba ▸ List.mem_of_getElem? h)
      rw [faceFrom, if_neg hne, ih hrest h]
      congr 1
      omega

theorem faceFrom_of_not_mem {a : Angle} {faces : List Angle} (h : a ∉ faces) (i : Nat) : faceFrom a faces i = none := by
  induction faces generalizing i with
  | nil => rfl
  | cons b faces ih =>
    obtain ⟨hne, hrest⟩ := List.ne_and_not_mem_of_not_mem_cons h
    rw [faceFrom, if_neg (Ne.symm hne), ih hrest]

theorem RoundsDown.eq_cellCoord {c : CarverJob} {q i base : Int} (h : RoundsDown q (i - base) (2 ^ c.shift)) :
    c.cellCoord i base = q :=
  (h.eq_floorDiv Nat.one_le_two_pow).symm

/-- A column and a row of the 64 by 64 of a face (R139). -/
def OnMap (col row : Int) : Prop := 0 ≤ col ∧ col ≤ 63 ∧ 0 ≤ row ∧ row ≤ 63

section

variable {c : CarverJob} {x y col row : Int} {traced : Option Angle}

theorem cellOf_of_face (hcol : c.cellCoord x c.baseX = col) (hrow : c.cellCoord y c.baseY = row) {face : Nat}
    (hface : traced.bind c.faceOf = some face) (hmap : OnMap col row) :
    c.cellOf x y traced = some (cellNumber face row.toNat col.toNat) := by
  obtain ⟨hcol0, hcol63, hrow0, hrow63⟩ := hmap
  have hin : 0 ≤ col ∧ col < 64 ∧ 0 ≤ row ∧ row < 64 := by omega
  simp [CarverJob.cellOf, hface, hcol, hrow, hin]

theorem cellOf_of_no_face (hface : traced.bind c.faceOf = none) : c.cellOf x y traced = none := by
  simp [CarverJob.cellOf, hface]

theorem cellOf_of_off_map (hcol : c.cellCoord x c.baseX = col) (hrow : c.cellCoord y c.baseY = row)
    (hmap : ¬ OnMap col row) : c.cellOf x y traced = none := by
  have hout : ¬ (0 ≤ col ∧ col < 64 ∧ 0 ≤ row ∧ row < 64) := fun hin => hmap (by unfold OnMap; omega)
  cases hface : traced.bind c.faceOf with
  | none => exact cellOf_of_no_face hface
  | some face => simp [CarverJob.cellOf, hface, hcol, hrow, hout]

end

/-! ## The air test (R140, R141) -/

theorem isAir_iff (m : CutMap) (cell : Option Nat) (depth : Int) :
    m.isAir cell depth = true ↔ ∃ n, cell = some n ∧ depth ≤ (m.read n).cleared := by
  cases cell <;> simp [CutMap.isAir]

theorem airTest_of_lift {m : CutMap} {r : JobRecord} {c : CarverJob} {ref sp : Setpoint} (h : sp.cutting = false) :
    m.airTest r c ref sp = sp := by
  simp [CutMap.airTest, h]

theorem airTest_of_cut {m : CutMap} {r : JobRecord} {c : CarverJob} {ref sp : Setpoint} (h : sp.cutting = true) :
    m.airTest r c ref sp = { sp with
      cell := c.cellOf sp.x sp.y sp.traced, air := m.isAir (c.cellOf sp.x sp.y sp.traced) sp.depth
      feed := feedOf (m.isAir (c.cellOf sp.x sp.y sp.traced) sp.depth) ref.depth r.clearance } := by
  simp [CutMap.airTest, h]

/-- Settles O9: the face is the place of the traced angle in a table without repeats, the column and the row are the two
quotients rounded down, and the air test reads the cell they number. -/
theorem airTestFollowsItsRules : Obligations.AirTestFollowsItsRules := by
  intro m r c ref sp col row hdistinct hcol hrow onMap
  refine ⟨fun i a ha htraced hmap => ?_, ?_, airTest_of_lift, fun hcut => ⟨_, airTest_of_cut hcut, isAir_iff m _ _⟩⟩
  · have hface : sp.traced.bind c.faceOf = some i := by
      simp [htraced, CarverJob.faceOf, faceFrom_of_getElem? hdistinct ha]
    exact cellOf_of_face hcol.eq_cellCoord hrow.eq_cellCoord hface hmap
  · rintro (hmap | htraced | ⟨a, htraced, ha⟩)
    · exact cellOf_of_off_map hcol.eq_cellCoord hrow.eq_cellCoord hmap
    · exact cellOf_of_no_face (by simp [htraced])
    · exact cellOf_of_no_face (by simp [htraced, CarverJob.faceOf, faceFrom_of_not_mem ha])

end Sys2Proof.Machine

/-! SUPPORT. Offers (R13, R16): an offer takes no frame's place, and out of MUTE the report offered holds one. -/

namespace Sys2Proof.Machine

open Sys2Proof

/-! ## The places of the Bus Controller -/

theorem Bus.mem_places {b : Bus} {g : TxFrame} :
    g ∈ b.places ↔ (∃ x, b.sending = some x ∧ g = x.frame) ∨ g ∈ b.queue := by
  cases h : b.sending <;> simp [Bus.places, h]

theorem Bus.places_subset_fill (b : Bus) (k : Kind) (dest : Byte) (payload : List Byte) :
    b.places ⊆ (b.fill k dest payload).places := by
  intro g hg
  simp only [Bus.mem_places, Bus.fill, mem_place] at *
  exact hg.imp_right .inr

theorem Bus.places_subset_fillReport (b : Bus) (k : Kind) (dest : Byte) : b.places ⊆ (b.fillReport k dest).places := by
  unfold Bus.fillReport
  split
  · exact List.Subset.refl _
  · exact b.places_subset_fill k dest []

theorem Bus.exists_place_fillReport (b : Bus) (k : Kind) (dest : Byte) :
    ∃ g ∈ (b.fillReport k dest).places, g.kind = k := by
  unfold Bus.fillReport
  split
  case isTrue hheld =>
    obtain ⟨g, hg, hkind⟩ := List.any_eq_true.1 hheld
    exact ⟨g, Bus.mem_places.2 (.inr hg), by simpa using hkind⟩
  case isFalse => exact ⟨_, Bus.mem_places.2 (.inr (mem_place.2 (.inl rfl))), rfl⟩

/-- What an offer does (R16): nothing in MUTE; a mark on the frame in transmission, which keeps its place, where that is
the report's own; else the report's place is filled. -/
theorem Bus.offerReport_cases (b : Bus) (k : Kind) (dest : Byte) :
    (b.mute = true ∧ b.offerReport k dest = b) ∨
      (b.mute = false ∧ (b.offerReport k dest).places = b.places ∧ ∃ g ∈ b.places, g.kind = k) ∨
      (b.mute = false ∧ b.offerReport k dest = b.fillReport k dest) := by
  unfold Bus.offerReport
  split
  case isTrue hmute => exact .inl ⟨hmute, rfl⟩
  case isFalse hmute =>
    have hmute : b.mute = false := by simpa using hmute
    split
    case h_1 x hx =>
      split
      case isTrue hkind =>
        have hheld : ∃ g ∈ b.places, g.kind = k := ⟨x.frame, Bus.mem_places.2 (.inl ⟨x, hx, rfl⟩), hkind⟩
        refine .inr (.inl ⟨hmute, ?_, hheld⟩)
        split <;> simp [Bus.places, hx]
      case isFalse => exact .inr (.inr ⟨hmute, rfl⟩)
    case h_2 => exact .inr (.inr ⟨hmute, rfl⟩)

theorem Bus.places_subset_offerReport (b : Bus) (k : Kind) (dest : Byte) :
    b.places ⊆ (b.offerReport k dest).places := by
  obtain ⟨-, h⟩ | ⟨-, h, -⟩ | ⟨-, h⟩ := b.offerReport_cases k dest
  · rw [h]
    exact List.Subset.refl _
  · rw [h]
    exact List.Subset.refl _
  · rw [h]
    exact b.places_subset_fillReport k dest

theorem Bus.exists_place_offerReport {b : Bus} (hmute : b.mute = false) (k : Kind) (dest : Byte) :
    ∃ g ∈ (b.offerReport k dest).places, g.kind = k := by
  obtain ⟨h, -⟩ | ⟨-, h, hheld⟩ | ⟨-, h⟩ := b.offerReport_cases k dest
  · simp [hmute] at h
  · rwa [h]
  · rw [h]
    exact b.exists_place_fillReport k dest

/-! ## Operations that offer reports -/

theorem canOffer_iff (s : State) : s.canOffer = true ↔ s.job.state ∉ [.held, .starting] := by
  simp [State.canOffer]

theorem places_subset_offerReport (k : Kind) (dest : Byte) (s : State) :
    s.bus.places ⊆ (offerReport k dest s).bus.places := by
  unfold offerReport
  split
  · exact s.bus.places_subset_offerReport k dest
  · exact List.Subset.refl _

theorem places_subset_offerReach (s : State) : s.bus.places ⊆ (offerReach s).bus.places :=
  places_subset_offerReport .reach 255 s

theorem places_subset_offerCreditTo (dest : Byte) (s : State) : s.bus.places ⊆ (offerCreditTo dest s).bus.places := by
  unfold offerCreditTo
  exact fun _ hg => places_subset_offerReport _ _ _ hg

theorem places_subset_offerCredit (s : State) : s.bus.places ⊆ (offerCredit s).bus.places := by
  unfold offerCredit
  split
  · exact places_subset_offerCreditTo _ s
  · exact List.Subset.refl _

/-- A CREDIT offered out of MUTE by a carver that has left STARTING holds its place (R25, R116). -/
theorem exists_credit_offerCredit {s : State} {c : CarverJob} (hc : s.carverJob = some c) (hmute : s.bus.mute = false)
    (hstate : s.job.state ∉ [.held, .starting]) : ∃ g ∈ (offerCredit s).bus.places, g.kind = .credit := by
  have hbus : (offerCredit s).bus = s.bus.offerReport .credit (byteOf c.tracer) := by
    have hcan (q : PathQueue) : (s.setPq q).canOffer = true := (canOffer_iff s).2 hstate
    simp [offerCredit, hc, offerCreditTo, offerReport, hcan]
  rw [hbus]
  exact Bus.exists_place_offerReport hmute _ _

theorem places_subset_setClaim (iv : Interval) (s : State) : s.bus.places ⊆ (setClaim iv s).bus.places := by
  unfold setClaim
  split
  · exact List.Subset.refl _
  · exact fun _ hg => places_subset_offerReach _ hg

theorem places_subset_setAnnounce (a : Option Interval) (s : State) :
    s.bus.places ⊆ (setAnnounce a s).bus.places := by
  unfold setAnnounce
  split
  · exact List.Subset.refl _
  · exact fun _ hg => places_subset_offerReach _ hg

theorem places_subset_enterWait (side : Side) (s : State) : s.bus.places ⊆ (enterWait side s).bus.places :=
  places_subset_setAnnounce none s

theorem places_subset_announceOn (side : Side) (n : Interval) (s : State) :
    s.bus.places ⊆ (announceOn side n s).bus.places :=
  places_subset_setAnnounce (some n) s

theorem places_subset_checkBeyond (side : Side) (n : Interval) (s : State) :
    s.bus.places ⊆ (checkBeyond side n s).bus.places := by
  unfold checkBeyond
  split
  · exact places_subset_setClaim n s
  · split
    · exact places_subset_enterWait side s
    · split
      · exact places_subset_enterWait side s
      · exact places_subset_announceOn side n s

/-- What a check does (R180): its setpoint passes at once, or goes beyond the claim on a side. -/
theorem runCheck_cases {sp : Setpoint} {s : State} (h : s.guard.atCheck = some sp) :
    runCheck s = passCheck s ∨ ∃ side n, runCheck s = checkBeyond side n s := by
  simp only [runCheck, h]
  split
  · exact .inl rfl
  · split
    · exact .inr ⟨.right, _, rfl⟩
    · exact .inr ⟨.left, _, rfl⟩

theorem beginCheck_cases (sp : Setpoint) (s : State) :
    beginCheck sp s = passCheck (s.setGuard { s.guard with atCheck := some sp }) ∨
      ∃ side n, beginCheck sp s = checkBeyond side n (s.setGuard { s.guard with atCheck := some sp }) :=
  runCheck_cases (sp := sp) rfl

theorem places_subset_beginCheck (sp : Setpoint) (s : State) : s.bus.places ⊆ (beginCheck sp s).bus.places := by
  obtain h | ⟨side, n, h⟩ := beginCheck_cases sp s
  · rw [h]
    exact List.Subset.refl _
  · rw [h]
    exact fun _ hg => places_subset_checkBeyond _ _ _ hg

end Sys2Proof.Machine

/-! SUPPORT. The port's own lifts (R167, R168): a lift issued leaves the Path Queue and the Cut Map as they are, and
what becomes of a closing lift that has fallen due. -/

namespace Sys2Proof.Machine

open Sys2Proof

/-! ## The check and the issue of a lift (R165, R180) -/

theorem isFree_iff (g : Guard) : g.isFree = true ↔ g.atCheck = none ∧ g.passed = none := by
  simp [Guard.isFree]

/-- A check lets pass the setpoint at it, or leaves what has passed as it was (R180). -/
theorem passed_checkBeyond_cases (side : Side) (n : Interval) (s : State) :
    (checkBeyond side n s).guard.passed = s.guard.atCheck ∨ (checkBeyond side n s).guard.passed = s.guard.passed := by
  unfold checkBeyond
  split
  · exact .inl (by simp [passCheck])
  · split
    · exact .inr (by simp)
    · split <;> exact .inr (by simp)

theorem passed_beginCheck_cases (sp : Setpoint) (s : State) :
    (beginCheck sp s).guard.passed = some sp ∨ (beginCheck sp s).guard.passed = s.guard.passed := by
  obtain h | ⟨side, n, h⟩ := beginCheck_cases sp s
  · exact .inl (by rw [h]; rfl)
  · rw [h]
    exact passed_checkBeyond_cases side n (s.setGuard _)

/-- With nothing passed before, a setpoint checked and issued is at most checked, or it is itself issued (R165). -/
theorem checkAndIssue_cases {sp : Setpoint} {s : State} (hfree : s.guard.passed = none) :
    checkAndIssue sp s = beginCheck sp s ∨ checkAndIssue sp s = issue sp (beginCheck sp s) := by
  unfold checkAndIssue issuePassed
  obtain h | h := passed_beginCheck_cases sp s
  · simp only [h]
    split
    · exact .inr rfl
    · exact .inl rfl
  · exact .inl (by simp only [h, hfree])

/-- The issue of a setpoint that no entry stands behind touches the Motion Port and the Guard alone (R165). -/
theorem issue_of_no_entry {sp : Setpoint} (h : sp.origin ≠ .entry) (s : State) :
    issue sp s = (s.setMotion { s.motion with
      outstanding := s.motion.outstanding ++ [⟨s.motion.nextTag, sp, s.rateOf sp⟩]
      nextTag := s.motion.nextTag + 1, reference := some sp, refArrived := false }).setGuard
        { s.guard with passed := none } := by
  simp [issue, h]

/-- What the progress of a lift leaves: the entries posted, the Cut Map, and every place of the transmit queue. -/
def LeavesQueues (s t : State) : Prop :=
  t.pq.posted = s.pq.posted ∧ t.map = s.map ∧ s.bus.places ⊆ t.bus.places

theorem LeavesQueues.refl (s : State) : LeavesQueues s s := ⟨rfl, rfl, List.Subset.refl _⟩

theorem LeavesQueues.trans {s t u : State} (hst : LeavesQueues s t) (htu : LeavesQueues t u) : LeavesQueues s u := by
  obtain ⟨hposted, hmap, hplaces⟩ := hst
  obtain ⟨hposted', hmap', hplaces'⟩ := htu
  exact ⟨hposted'.trans hposted, hmap'.trans hmap, List.Subset.trans hplaces hplaces'⟩

theorem leavesQueues_checkAndIssue {sp : Setpoint} {s : State} (hfree : s.guard.isFree = true)
    (horigin : sp.origin ≠ .entry) : LeavesQueues s (checkAndIssue sp s) := by
  have hcheck : LeavesQueues s (beginCheck sp s) := ⟨by simp, by simp, places_subset_beginCheck sp s⟩
  obtain h | h := checkAndIssue_cases (sp := sp) ((isFree_iff _).1 hfree).2
  · rwa [h]
  · rw [h, issue_of_no_entry horigin]
    exact hcheck

theorem leavesQueues_endDrain (s : State) : LeavesQueues s (endDrain s) := by
  unfold endDrain
  split
  · refine ⟨by simp, by simp, ?_⟩
    simpa using places_subset_offerCredit (setStation .done (s.setJob { s.job with finishing := false }))
  · exact LeavesQueues.refl s

theorem leavesQueues_closingDone (c : ClosingLift) (s : State) : LeavesQueues s (closingDone c s) := by
  unfold closingDone
  dsimp only
  split
  · exact leavesQueues_endDrain (spindleOff s)
  · exact LeavesQueues.refl s

theorem leavesQueues_pumpClosing (s : State) : LeavesQueues s (pumpClosing s) := by
  unfold pumpClosing
  split
  · exact LeavesQueues.refl s
  · split_ifs with hstands hgo
    · exact leavesQueues_closingDone _ (s.setMotion _)
    · simp only [Bool.and_eq_true] at hgo
      exact leavesQueues_checkAndIssue (s := s.setMotion _) hgo.2 (by simp [State.liftHere])
    · exact LeavesQueues.refl s

theorem leavesQueues_pumpPortLift (s : State) : LeavesQueues s (pumpPortLift s) := by
  unfold pumpPortLift
  split
  · exact LeavesQueues.refl s
  case h_2 l hl =>
    split_ifs with hgo
    · simp only [Bool.and_eq_true] at hgo
      have horigin : l.origin ≠ .entry := by cases l <;> simp [PortLift.origin]
      exact leavesQueues_checkAndIssue (s := s.setMotion _) hgo.2 horigin
    · exact LeavesQueues.refl s

theorem leavesQueues_pumpLifts (s : State) : LeavesQueues s (pumpLifts s) :=
  (leavesQueues_pumpClosing s).trans (leavesQueues_pumpPortLift (pumpClosing s))

/-! ## A closing lift that falls due (R168) -/

theorem hull_of_liesWithin {a b : Interval} (h : liesWithin a b) : Interval.hull b a = b := by
  obtain ⟨hlo, hhi⟩ := h
  simp [Interval.hull, hlo, hhi]

/-- A setpoint within the claim passes at once (R180 case 1). -/
theorem beginCheck_of_liesWithin {sp : Setpoint} {s : State} (h : liesWithin (s.intervalAt sp.x) s.guard.claim) :
    beginCheck sp s = passCheck (s.setGuard { s.guard with atCheck := some sp }) := by
  have hhull : Interval.hull s.guard.claim
      ((s.setGuard { s.guard with atCheck := some sp }).intervalAt sp.x) = s.guard.claim := hull_of_liesWithin h
  simp [beginCheck, runCheck, hhull]

/-- A setpoint within the claim is issued at once where the conditions of issue hold (R165, R180 case 1). -/
theorem outstanding_checkAndIssue {sp : Setpoint} {s : State} (hin : liesWithin (s.intervalAt sp.x) s.guard.claim)
    (hopen : s.canIssue sp.cutting = true) (horigin : sp.origin ≠ .entry) :
    (checkAndIssue sp s).motion.outstanding = s.motion.outstanding ++ [⟨s.motion.nextTag, sp, s.rateOf sp⟩] := by
  have hpass : (beginCheck sp s).guard.passed = some sp := by rw [beginCheck_of_liesWithin hin]; rfl
  have hopen' : (beginCheck sp s).canIssue sp.cutting = true := by
    rw [beginCheck_of_liesWithin hin]
    exact hopen
  have hrate : (beginCheck sp s).rateOf sp = s.rateOf sp := by rw [beginCheck_of_liesWithin hin]; rfl
  simp [checkAndIssue, issuePassed, hpass, hopen', issue_of_no_entry horigin, hrate]

theorem standsAt_iff (s : State) (level : Int) :
    s.standsAt level = true ↔ s.motion.outstanding = [] ∧ s.motion.refArrived = true ∧
      ∃ ref, s.motion.reference = some ref ∧ ref.feed = .lift ∧ ref.depth = level := by
  cases h : s.motion.reference <;> simp [State.standsAt, h, and_assoc]

theorem canIssue_lift_iff {s : State} (hstate : s.job.state ≠ .armed) (hout : s.motion.outstanding = []) :
    s.canIssue false = true ↔ s.motion.halt = .moving ∧ s.bus.sensedLow = false := by
  simp [State.canIssue, hstate, hout]

/-- u is s with closing lift c fallen due: all that its progress reads and that the fall does not change is as at s. -/
structure ClosingLiftPending (c : ClosingLift) (s u : State) : Prop where
  inputs : u.inputs = s.inputs
  job : u.job = s.job
  guard : u.guard = s.guard
  sensedLow : u.bus.sensedLow = s.bus.sensedLow
  outstanding : u.motion.outstanding = s.motion.outstanding
  nextTag : u.motion.nextTag = s.motion.nextTag
  reference : u.motion.reference = s.motion.reference
  refArrived : u.motion.refArrived = s.motion.refArrived
  closing : u.motion.closing = some c
  portLift : u.motion.portLift = none
  halt : u.motion.halt = if s.motion.outstanding = [] then s.motion.halt else .halting true

section

variable {c : ClosingLift} {s u : State}

theorem pumpLifts_of_no_portLift (h : s.motion.portLift = none) : pumpLifts s = pumpClosing s := by
  simp [pumpLifts, pumpPortLift, h]

theorem pumpClosing_of_stands (hclosing : s.motion.closing = some c) (hstands : s.standsAt c.level = true) :
    pumpClosing s = closingDone c (s.setMotion { s.motion with closing := none }) := by
  simp [pumpClosing, hclosing, hstands]

theorem pumpClosing_of_open (hclosing : s.motion.closing = some c) (hstands : s.standsAt c.level = false)
    (hout : s.motion.outstanding = []) (hopen : s.canIssue false = true) (hfree : s.guard.isFree = true) :
    pumpClosing s = checkAndIssue (s.liftHere c.level c.feed (.closingLift c) s.refTraced)
      (s.setMotion { s.motion with closing := none }) := by
  simp [pumpClosing, hclosing, hstands, hout, hopen, hfree]

theorem pumpClosing_of_blocked (hclosing : s.motion.closing = some c) (hstands : s.standsAt c.level = false)
    (hblocked : s.motion.outstanding ≠ [] ∨ s.canIssue false = false) : pumpClosing s = s := by
  obtain h | h := hblocked <;> simp [pumpClosing, hclosing, hstands, h]

theorem spindle_closingDone (c : ClosingLift) (s : State) : (closingDone c s).motion.spindle = .off := by
  unfold closingDone
  dsimp only
  split <;> simp [spindleOff]

theorem ClosingLiftPending.standsAt_iff (h : ClosingLiftPending c s u) (level : Int) :
    u.standsAt level = true ↔ s.motion.outstanding = [] ∧ s.motion.refArrived = true ∧
      ∃ ref, s.motion.reference = some ref ∧ ref.feed = .lift ∧ ref.depth = level := by
  rw [Machine.standsAt_iff, h.outstanding, h.refArrived, h.reference]

theorem ClosingLiftPending.liftHere (h : ClosingLiftPending c s u) :
    u.liftHere c.level c.feed (.closingLift c) u.refTraced =
      s.liftHere c.level c.feed (.closingLift c) s.refTraced := by
  simp [State.liftHere, State.refTraced, h.inputs, h.reference]

theorem ClosingLiftPending.occupied (h : ClosingLiftPending c s u) : u.occupied = s.occupied := by
  simp [State.occupied, State.intervalAt, State.halfWidths, h.inputs, h.job]

/-- A closing lift that has fallen due goes on by R168's three steps. -/
theorem ClosingLiftPending.fallsDue (h : ClosingLiftPending c s u) (hcheck : s.guard.atCheck = none)
    (hpassed : s.guard.passed = none) (hstate : s.job.state ≠ .armed) : ClosingLiftFallsDue c s (pumpLifts u) := by
  have hfree : u.guard.isFree = true := by rw [isFree_iff, h.guard]; exact ⟨hcheck, hpassed⟩
  have hstate : u.job.state ≠ .armed := by rwa [h.job]
  have hhere (hnot : ¬ (s.motion.outstanding = [] ∧ s.motion.refArrived = true ∧
      ∃ ref, s.motion.reference = some ref ∧ ref.feed = .lift ∧ ref.depth = c.level)) : u.standsAt c.level = false := by
    rwa [← Bool.not_eq_true, h.standsAt_iff]
  have hissue (hout : s.motion.outstanding = []) :
      u.canIssue false = true ↔ s.motion.halt = .moving ∧ s.bus.sensedLow = false := by
    rw [canIssue_lift_iff hstate (h.outstanding.trans hout), h.halt, if_pos hout, h.sensedLow]
  rw [pumpLifts_of_no_portLift h.portLift]
  refine ⟨fun hout => ?_, fun hout => ⟨by simp [h.halt, hout], fun hstands => ?_, fun hstands hopen hin => ?_,
    fun hstands hshut => ?_⟩⟩
  · rw [pumpClosing_of_blocked h.closing (hhere fun hs => hout hs.1) (.inl (by rwa [h.outstanding]))]
    exact ⟨h.outstanding, by simp [h.halt, hout], h.closing⟩
  · rw [pumpClosing_of_stands h.closing ((h.standsAt_iff _).2 ⟨hout, hstands⟩)]
    exact ⟨by simp [h.outstanding, hout], by simp, spindle_closingDone _ _⟩
  · have hgo : u.canIssue false = true := (hissue hout).2 hopen
    rw [pumpClosing_of_open h.closing (hhere fun hs => hstands hs.2) (h.outstanding.trans hout) hgo hfree, h.liftHere]
    refine ⟨by simp, ?_⟩
    rw [outstanding_checkAndIssue]
    · simp [h.outstanding, h.nextTag, hout, State.rateOf, State.liftHere]
    · rw [← h.occupied, ← h.guard, State.occupied, h.inputs] at hin
      exact hin
    · exact hgo
    · simp [State.liftHere]
  · have hblocked : u.canIssue false = false := by rwa [← Bool.not_eq_true, hissue hout]
    rw [pumpClosing_of_blocked h.closing (hhere fun hs => hstands hs.2) (.inr hblocked)]
    exact ⟨h.outstanding.trans hout, h.closing⟩

end

end Sys2Proof.Machine

/-! SUPPORT. The end of a sweep (R145, R156 to R158): what the sweep leaves of a cell, the decision for the pass just
closed, and the completion of its marker. -/

namespace Sys2Proof.Machine

open Sys2Proof

/-! ## A cell after the sweep (R145) -/

theorem sweep_of_no_minimum {c : Cell} (h : c.minimum = none) : c.sweep = ⟨c.cleared, none, false, false⟩ := by
  simp [Cell.sweep, h]

theorem sweep_of_minimum {c : Cell} {m : Int} (h : c.minimum = some m) :
    c.sweep = ⟨if c.touched = true ∧ c.gapMarked = false then (max (c.cleared : Int) m).toNat else c.cleared,
      none, false, false⟩ := by
  simp only [Cell.sweep, h, Bool.and_eq_true, Bool.not_eq_true']
  split_ifs <;> rfl

/-! ## The decision for the pass just closed (R156, R157) -/

/-- Step p is left after the pass just closed (R156): its condition is met, or its counter has run down. -/
def StepEnds (p : PlanStep) (q : Sequencer) : Prop :=
  q.counter ≤ 1 ∨ (p.advance = .dry ∧ q.running.cut = 0 ∧ q.running.broken = false) ∨
    (p.advance = .floor ∧ q.floor = p.last) ∨ p.advance = .once

theorem stepEnds_iff (p : PlanStep) (q : Sequencer) :
    (advances p q.running q.floor || q.counter - 1 == 0) = true ↔ StepEnds p q := by
  have hcounter : q.counter - 1 = 0 ↔ q.counter ≤ 1 := by omega
  cases h : p.advance <;> simp [StepEnds, advances, h, hcounter, or_comm]

section

variable {s : State} {c : CarverJob} {k : Nat} {p : PlanStep}

theorem decideStep_of_not_ends (hc : s.carverJob = some c) (hk : s.seq.index = some k) (hp : c.plan[k]? = some p)
    (h : ¬ StepEnds p s.seq) :
    decideStep s = s.setSeq { s.seq with counter := s.seq.counter - 1, rep := s.seq.rep + 1 } := by
  rw [← stepEnds_iff] at h
  simp only [decideStep, hc, hk, hp]
  exact if_neg h

theorem decideStep_of_ends (hc : s.carverJob = some c) (hk : s.seq.index = some k) (hp : c.plan[k]? = some p)
    (h : StepEnds p s.seq) :
    decideStep s = advanceStep c k (s.setSeq { s.seq with counter := s.seq.counter - 1, rep := s.seq.rep + 1 }) := by
  rw [← stepEnds_iff] at h
  simp only [decideStep, hc, hk, hp]
  exact if_pos h

theorem advanceStep_of_next {next : PlanStep} (h : c.plan[k + 1]? = some next) :
    advanceStep c k s = s.setSeq { s.seq with index := some (k + 1), counter := next.limit, rep := 0 } := by
  simp [advanceStep, h]

theorem advanceStep_of_last (h : c.plan[k + 1]? = none) :
    advanceStep c k s =
      restNotice (s.setSeq { s.seq with index := none, resting := true, counter := 0, rep := 0 }) := by
  simp [advanceStep, h]

@[simp] theorem restNotice_restNotice (s : State) : (restNotice s).motion.restNotice = true := by
  unfold restNotice
  dsimp only
  split <;> simp

theorem retract_of_record {r : JobRecord} (hr : s.job.record = some r) (drain : Bool) :
    s.retract drain = ⟨r.clearance, r.feeds.lift, .lift, drain⟩ := by
  simp [State.retract, hr]

/-- In RUNNING the rest notice has a rest lift fall due (R157, R168). -/
theorem restNotice_of_running {r : JobRecord} (hr : s.job.record = some r) (hrun : s.job.state = .running) :
    restNotice s = closingDue ⟨r.clearance, r.feeds.lift, .lift, false⟩
      (s.setMotion { s.motion with restNotice := true }) := by
  simp [restNotice, State.isRunning, hrun, retract_of_record, hr]

end

/-! ## The marker completed (R158) -/

section

variable (e : Entry) (s : State)

theorem completeMarker_seq : (completeMarker e s).seq = { s.seq with
    completed := e.pass, reported := s.seq.running, openPass := none, phase := .none } := by
  simp [completeMarker]

variable {s}

theorem completeHead_lists {x : Entry} {rest : List Entry} (h : s.pq.posted = x :: rest) :
    (completeHead s).pq.posted = rest ∧ (completeHead s).pq.free = s.pq.free + 1 ∧
      (completeHead s).pq.released = x.release := by
  simp [completeHead, h]

theorem completeMarker_lists {x : Entry} {rest : List Entry} (h : s.pq.posted = x :: rest) :
    (completeMarker e s).pq.posted = rest ∧ (completeMarker e s).pq.free = s.pq.free + 1 ∧
      (completeMarker e s).pq.released = x.release := by
  simpa [completeMarker] using completeHead_lists (s := s.setSeq { s.seq with
    completed := e.pass, reported := s.seq.running, openPass := none, phase := .none }) h

theorem testDrain_of_not_finishing (h : s.job.finishing = false) : testDrain s = s := by
  simp [testDrain, h]

theorem completeMarker_motion_of_not_finishing (h : s.job.finishing = false) :
    (completeMarker e s).motion = s.motion := by
  unfold completeMarker
  rw [testDrain_of_not_finishing (by simpa using h)]
  simp

theorem exists_credit_completeMarker {c : CarverJob} (hc : s.carverJob = some c) (hmute : s.bus.mute = false)
    (hstate : s.job.state ∉ [.held, .starting]) : ∃ g ∈ (completeMarker e s).bus.places, g.kind = .credit := by
  simp only [completeMarker, testDrain_frame]
  refine exists_credit_offerCredit (c := c) ?_ (by simpa using hmute) (by simpa using hstate)
  simpa [State.carverJob] using hc

end

/-! ## The sweep ended (R145) -/

theorem carverJob_of_work {s : State} {r : JobRecord} {c : CarverJob} (hr : s.job.record = some r)
    (hc : r.work = .carver c) : s.carverJob = some c := by
  simp [State.carverJob, hr, hc]

theorem exec_sweepEnd_of_posted {s : State} {e : Entry} {rest : List Entry} (hsweep : s.map.sweeping = true)
    (h : s.pq.posted = e :: rest) : exec .sweepEnd s = .next (closeSweep e s) := by
  have harm : exec .sweepEnd s = execSweepEnd s := rfl
  simp [harm, execSweepEnd, hsweep, h]

section

variable (e : Entry) (s : State)

/-- The state in which the port's lifts go on at the end of a sweep: the pass decided, its marker completed. -/
def sweepDecided : State := completeMarker e (decideStep (s.setMap s.map.endSweep))

theorem closeSweep_eq : closeSweep e s = pumpLifts (sweepDecided e s) := rfl

theorem closeSweep_map : (closeSweep e s).map = s.map.endSweep := by
  obtain ⟨-, hmap, -⟩ := leavesQueues_pumpLifts (sweepDecided e s)
  rw [closeSweep_eq, hmap]
  simp [sweepDecided]

theorem closeSweep_seq : (closeSweep e s).seq = { (decideStep (s.setMap s.map.endSweep)).seq with
    completed := e.pass, reported := (decideStep (s.setMap s.map.endSweep)).seq.running, openPass := none
    phase := .none } := by
  simp [closeSweep_eq, sweepDecided, completeMarker_seq]

theorem closeSweep_restNotice :
    (closeSweep e s).motion.restNotice = (decideStep (s.setMap s.map.endSweep)).motion.restNotice := by
  simp [closeSweep_eq, sweepDecided]

theorem closeSweep_unchangedBut :
    UnchangedBut [.bus, .job, .pq, .map, .seq, .motion, .guard, .cond] s (closeSweep e s) := by
  intro b hb
  cases b <;> simp [Block.same] at hb ⊢

variable {s}

theorem closeSweep_lists {x : Entry} {rest : List Entry} (h : s.pq.posted = x :: rest) :
    (closeSweep e s).pq.posted = rest ∧ (closeSweep e s).pq.free = s.pq.free + 1 ∧
      (closeSweep e s).pq.released = x.release := by
  have hlists := completeMarker_lists e (s := decideStep (s.setMap s.map.endSweep)) (by simpa using h)
  obtain ⟨hposted, -, -⟩ := leavesQueues_pumpLifts (sweepDecided e s)
  rw [closeSweep_eq, hposted]
  simpa [sweepDecided] using hlists

theorem exists_credit_closeSweep {c : CarverJob} (hc : s.carverJob = some c) (hmute : s.bus.mute = false)
    (hstate : s.job.state ∉ [.held, .starting]) : ∃ g ∈ (closeSweep e s).bus.places, g.kind = .credit := by
  obtain ⟨g, hg, hkind⟩ := exists_credit_completeMarker e (s := decideStep (s.setMap s.map.endSweep)) (c := c)
    (by simpa [State.carverJob] using hc) (by simpa using hmute) (by simpa using hstate)
  obtain ⟨-, -, hplaces⟩ := leavesQueues_pumpLifts (sweepDecided e s)
  exact ⟨g, hplaces hg, hkind⟩

/-- Past the last step, in RUNNING with no drain in progress, the rest lift has fallen due (R157, R168). -/
theorem closingLiftPending_sweepDecided {r : JobRecord} {c : CarverJob} {k : Nat} {p : PlanStep}
    (hr : s.job.record = some r) (hc : r.work = .carver c) (hk : s.seq.index = some k) (hp : c.plan[k]? = some p)
    (hends : StepEnds p s.seq) (hlast : c.plan[k + 1]? = none) (hrun : s.job.state = .running)
    (hfinish : s.job.finishing = false) :
    ClosingLiftPending ⟨r.clearance, r.feeds.lift, .lift, false⟩ s (sweepDecided e s) := by
  have hmotion : (sweepDecided e s).motion = (closingDue ⟨r.clearance, r.feeds.lift, .lift, false⟩
      (s.setMotion { s.motion with restNotice := true })).motion := by
    rw [sweepDecided, completeMarker_motion_of_not_finishing e (by simpa using hfinish),
      decideStep_of_ends (s := s.setMap s.map.endSweep) (carverJob_of_work hr hc) hk hp hends,
      advanceStep_of_last hlast]
    rw [restNotice_of_running (r := r) (by simpa using hr) (by simpa using hrun)]
    rfl
  constructor
  case halt => rw [hmotion]; rfl
  case inputs => simp [sweepDecided]
  case job => simp [sweepDecided]
  case guard => simp [sweepDecided]
  case sensedLow => simp [sweepDecided]
  all_goals simp [hmotion, closingDue]

end

/-- Settles O50: the sweep's visit settles the cells, the decision has three outcomes (the step stays, advances, or was
the last), and the marker's completion and the lifts that go on then leave what was decided. -/
theorem sweepEndDecidesThePass : Obligations.SweepEndDecidesThePass := by
  intro s hsweep hwf e rest hposted r hr c hc k hk p hp advance
  have hcarver : s.carverJob = some c := carverJob_of_work hr hc
  obtain ⟨hrest, hfree, hreleased⟩ := closeSweep_lists e hposted
  refine ⟨closeSweep e s, exec_sweepEnd_of_posted hsweep hposted, by rw [closeSweep_map]; rfl, fun n => ?_, ?_,
    fun hadv hlast => ⟨?_, fun hrun hfinish hcheck hpassed => ?_⟩, fun hstay => ?_, hrest, hfree, hreleased,
    exists_credit_closeSweep e hcarver, closeSweep_unchangedBut e s⟩
  · rw [closeSweep_map, CutMap.read_endSweep hwf]
    cases hmin : (s.map.read n).minimum with
    | none => exact sweep_of_no_minimum hmin
    | some m => exact sweep_of_minimum hmin
  · rw [closeSweep_seq]
    by_cases hadv : advance
    · rw [decideStep_of_ends (s := s.setMap s.map.endSweep) hcarver hk hp hadv]
      cases hnext : c.plan[k + 1]? with
      | some next => simp [advanceStep_of_next hnext, hadv]
      | none => simp [advanceStep_of_last hnext, hadv]
    · rw [decideStep_of_not_ends (s := s.setMap s.map.endSweep) hcarver hk hp hadv]
      simp [hadv, hk]
  · rw [closeSweep_restNotice, decideStep_of_ends (s := s.setMap s.map.endSweep) hcarver hk hp hadv,
      advanceStep_of_last hlast, restNotice_restNotice]
  · have hpending := closingLiftPending_sweepDecided e hr hc hk hp hadv hlast hrun hfinish
    exact hpending.fallsDue hcheck hpassed (by simp [hrun])
  · rw [closeSweep_restNotice]
    by_cases hadv : advance
    · obtain ⟨next, hnext⟩ := Option.ne_none_iff_exists'.1 (hstay.resolve_left (not_not.2 hadv))
      rw [decideStep_of_ends (s := s.setMap s.map.endSweep) hcarver hk hp hadv, advanceStep_of_next hnext]
      rfl
    · rw [decideStep_of_not_ends (s := s.setMap s.map.endSweep) hcarver hk hp hadv]
      rfl

end Sys2Proof.Machine

/-! SUPPORT. CLEAR (R189): the bits of the condition set, the conditions a CLEAR clears, and the frame taken. -/

namespace Sys2Proof.Machine

open Sys2Proof

/-! ## The bits of the condition set (section 13.6) -/

theorem Cond.number_lt (c : Cond) : c.number < 26 := by
  cases c <;> decide

/-- The numbers are the places in the list of every condition. -/
theorem Cond.all_getElem?_number (c : Cond) : Cond.all[c.number]? = some c := by
  cases c <;> rfl

theorem Cond.mem_all (c : Cond) : c ∈ Cond.all := List.mem_of_getElem? c.all_getElem?_number

theorem Cond.number_inj {c k : Cond} : c.number = k.number ↔ c = k := by
  refine ⟨fun h => ?_, fun h => h ▸ rfl⟩
  have hplace := c.all_getElem?_number
  rw [h, k.all_getElem?_number] at hplace
  exact (Option.some.inj hplace).symm

/-- A condition's mask holds its own bit alone. -/
theorem Cond.mask_eq_twoPow (c : Cond) : c.mask = BitVec.twoPow 32 (31 - c.number) := by
  rw [Cond.mask, BitVec.twoPow_eq]

theorem Cond.getLsbD_mask (c k : Cond) : k.mask.getLsbD (31 - c.number) = decide (c = k) := by
  have hc := c.number_lt
  have hk := k.number_lt
  have hplace : 31 - k.number = 31 - c.number ↔ c = k := by
    rw [← Cond.number_inj]
    omega
  simp only [Cond.mask_eq_twoPow, BitVec.getLsbD_twoPow, hplace, show 31 - k.number < 32 by omega, decide_true,
    Bool.true_and]

theorem Cond.mask_ne_zero (c : Cond) : c.mask ≠ 0#32 := by
  intro h
  simpa [h] using c.getLsbD_mask c

/-- A set names a condition when the condition's bit is set in it. -/
theorem and_mask_ne_zero (w : BitVec 32) (c : Cond) : (w &&& c.mask != 0#32) = w.getLsbD (31 - c.number) := by
  have hmask := c.mask_ne_zero
  rw [Cond.mask_eq_twoPow] at hmask ⊢
  rw [BitVec.and_twoPow]
  cases w.getLsbD (31 - c.number) <;> simp [hmask]

theorem getLsbD_foldl_mask (c : Cond) (l : List Cond) (w : BitVec 32) :
    (l.foldl (fun w k => w ||| k.mask) w).getLsbD (31 - c.number) = (w.getLsbD (31 - c.number) || l.contains c) := by
  induction l generalizing w with
  | nil => simp
  | cons k l ih => simp [ih, Cond.getLsbD_mask, Bool.or_assoc]

theorem getLsbD_maskOf (c : Cond) (l : List Cond) : (maskOf l).getLsbD (31 - c.number) = l.contains c := by
  simp [maskOf, getLsbD_foldl_mask]

/-! ## The conditions cleared (R187, R189) -/

/-- An entry of the lag table that has not been dropped and is silent is the cause of CARVER_SILENT (R82). -/
theorem silentCause_eq (s : State) :
    s.silentCause = (s.isRunning && s.pacer.lag.any fun e => !e.dropped && e.silent) := by
  simp only [State.silentCause, Pacer.anySilent, Pacer.participating, List.any_filter]

theorem contains_cleared (s : State) (named : BitVec 32) (c : Cond) :
    (s.cleared named).contains c = (named.getLsbD (31 - c.number) && !s.causeStands c) := by
  rw [Bool.eq_iff_iff, List.contains_iff_mem, State.cleared, List.mem_filter, and_mask_ne_zero]
  exact and_iff_right c.mem_all

theorem has_clearAll (l : List Cond) (s : State) (c : Cond) :
    (clearAll l s).cond.has c = (s.cond.has c && !l.contains c) := by
  have hc := c.number_lt
  simp only [ConditionUnit.has, and_mask_ne_zero, clearAll, State.setBus_cond, State.setCond_cond, BitVec.getLsbD_and,
    BitVec.getLsbD_not, getLsbD_maskOf, show 31 - c.number < 32 by omega, decide_true, Bool.true_and]

/-! ## The frame taken (R11, R189) -/

/-- The receive buffer's oldest frame removed. -/
abbrev State.dropFrame (s : State) (rest : List Frame) : State := s.setBus { s.bus with rx := rest }

section

variable {s : State} {f : Frame} {rest : List Frame}

theorem takeFrame_of_front {k : Kind} (act : Frame → State → State) (hrx : s.bus.rx = f :: rest) (hkind : f.kind = k) :
    takeFrame k act s = act f (s.dropFrame rest) := by
  simp [takeFrame, hrx, hkind]

theorem exec_clear_of_front (hrx : s.bus.rx = f :: rest) (hkind : f.kind = .clear) :
    exec .clear s = .next (takeClear f (s.dropFrame rest)) := by
  have harm : exec .clear s = execClear s := rfl
  rw [harm, execClear, takeFrame_of_front takeClear hrx hkind]

theorem takeClear_of_concerns (h : f.jobId = 0 ∨ s.holdsId f.jobId = true) :
    takeClear f s = clearAll (s.cleared (readSet f.payload 2)) s := by
  simp [takeClear, h]

theorem takeClear_of_stray (hid : f.jobId ≠ 0) (hother : s.holdsId f.jobId = false) :
    takeClear f s = strayControl s := by
  simp [takeClear, hid, hother]

theorem takeClear_unchangedBut : UnchangedBut [.bus, .cond] s (takeClear f (s.dropFrame rest)) := by
  intro b hb
  cases b <;> simp [Block.same] at hb ⊢

end

/-- Settles O29: the conditions a CLEAR clears are those whose bit it names and whose cause does not stand, and the two
pulls go with DRIVE_FAULT and GUARD_BREACH, of which the second has no cause that could stand. -/
theorem clearClearsTheNamedConditions : Obligations.ClearClearsTheNamedConditions := by
  intro s f rest hrx hkind named causeStands
  have hcause (c : Cond) : causeStands c = s.causeStands c := by
    cases c
    case carverSilent => exact (silentCause_eq s).symm
    all_goals rfl
  have hcleared (c : Cond) :
      ((s.dropFrame rest).cleared (readSet f.payload 2)).contains c = (named c && !causeStands c) := by
    rw [contains_cleared, hcause]
    rfl
  refine ⟨fun hconcerns => ⟨_, exec_clear_of_front hrx hkind, ?_⟩,
    fun hid hother => ⟨_, exec_clear_of_front hrx hkind, ?_⟩⟩
  · refine ⟨?_, ?_, ?_, takeClear_unchangedBut⟩ <;> rw [takeClear_of_concerns (s := s.dropFrame rest) hconcerns]
    · intro c
      rw [has_clearAll, hcleared]
      rfl
    · rfl
    · have hbreach : (named .guardBreach && !causeStands .guardBreach) = named .guardBreach := Bool.and_true _
      simp only [clearAll, hcleared, hbreach]
      rfl
  · refine ⟨?_, ?_, takeClear_unchangedBut⟩ <;> rw [takeClear_of_stray (s := s.dropFrame rest) hid hother] <;> rfl

end Sys2Proof.Machine

/-! SUPPORT. The station as a whole: the state after reset, the clock's tick, and the frame of every command. -/

namespace Sys2Proof.Machine

open Sys2Proof

/-! ## The state after reset -/

/-- Settles O6: every bound and every agreement holds of the values after reset by evaluation. -/
theorem resetMeetsTheInvariants : Obligations.ResetMeetsTheInvariants := by
  have hqueue : State.reset.bus.QueueForm := by
    constructor <;> simp [State.reset, Bus.afterReset, Bus.ages, Bus.places, Bus.generalHeld, Bus.tracesHeld]
  have hbounded : State.reset.Bounded := by
    constructor <;> simp [State.reset, Bus.afterReset, Motion.afterReset, PathQueue.afterReset, TraceStore.afterReset,
      ConditionUnit.afterReset, Roster.afterReset]
    exact wf_afterReset
  have hsettled : State.reset.Settled := by
    constructor <;> simp [State.reset, JobStore.afterReset, Motion.afterReset, Guard.afterReset, Pacer.afterReset,
      JobStore.started]
  exact ⟨hqueue, hbounded, hsettled, rfl, rfl⟩

/-! ## The clock's tick -/

theorem step_of_front {s : State} {c : Instr} {rest : List Instr} (h : s.pending = c :: rest) :
    step s = exec c { s with pending := rest } := by
  rw [step, h]
  rfl

theorem step_of_empty {s : State} (h : s.pending = []) : step s = .next (idle s) := by
  rw [step, h]

theorem mem_when {p : Bool} {c i : Instr} : i ∈ when p c ↔ p = true ∧ i = c := by
  cases p <;> simp [when]

theorem takeCommand_ne_stop (k : Kind) : takeCommand k ≠ .stopSensed ∧ takeCommand k ≠ .stopReleased := by
  cases k <;> simp [takeCommand]

theorem stop_not_mem_workDue (s : State) : Instr.stopSensed ∉ workDue s ∧ Instr.stopReleased ∉ workDue s := by
  have htake (k : Kind) := takeCommand_ne_stop k
  simp [workDue, mem_when, htake]

theorem stop_not_mem_silentDue (s : State) : Instr.stopSensed ∉ silentDue s ∧ Instr.stopReleased ∉ silentDue s := by
  unfold silentDue
  split <;> simp

/-- STOP_SENSED is due after ten ticks of a low line (R20). -/
theorem stopSensed_mem_due (s : State) :
    Instr.stopSensed ∈ timersDue s ++ workDue s ↔ s.bus.sensedLow = false ∧ 10 ≤ s.bus.filter := by
  simp [timersDue, mem_when, stop_not_mem_workDue, stop_not_mem_silentDue]

/-- STOP_RELEASED is due after a hundred ticks of a high line (R20). -/
theorem stopReleased_mem_due (s : State) :
    Instr.stopReleased ∈ timersDue s ++ workDue s ↔ s.bus.sensedLow = true ∧ 100 ≤ s.bus.filter := by
  simp [timersDue, mem_when, stop_not_mem_workDue, stop_not_mem_silentDue]

theorem idle_eq (s : State) :
    idle s = (countTick s).setPending (timersDue (countTick s) ++ workDue (countTick s)) := rfl

theorem timersDue_setPending (s : State) (l : List Instr) : timersDue (s.setPending l) = timersDue s := by
  have hsilent : silentDue (s.setPending l) = silentDue s := rfl
  simp only [timersDue, hsilent, State.setPending_bus, State.setPending_guard, State.setPending_now,
    State.setPending_pacer, State.setPending_pq, State.setPending_motion, State.setPending_map]
  rfl

theorem workDue_setPending (s : State) (l : List Instr) : workDue (s.setPending l) = workDue s := by
  have hissue : issueReady (s.setPending l) = issueReady s := rfl
  have hhead : headReady (s.setPending l) = headReady s := rfl
  have hgate : (s.setPending l).gateOpen = s.gateOpen := rfl
  simp only [workDue, State.setPending_bus, hissue, hhead, hgate]

/-- What the tick queues is read off the state it leaves. -/
theorem idle_pending (s : State) : (idle s).pending = timersDue (idle s) ++ workDue (idle s) := by
  rw [idle_eq, timersDue_setPending, workDue_setPending, State.setPending_pending]

theorem idle_bus (s : State) : (idle s).bus = { s.bus with filter :=
    if s.job.state = .held then 0
    else if (s.bus.drivePull || s.bus.breachPull || (idle s).inputs.lineLow) = s.bus.sensedLow then 0
    else s.bus.filter + 1 } := by
  have hfilter (p q : Prop) [Decidable p] [Decidable q] (n : Nat) :
      (if p ∨ q then 0 else n) = if p then 0 else if q then 0 else n := by
    by_cases hp : p <;> simp [hp]
  have hinputs : (idle s).inputs = s.inputs.tick := rfl
  have hbus : (idle s).bus = tickBus ((s.setNow (s.now + 1)).setInputs s.inputs.tick) := rfl
  rw [hbus, hinputs, tickBus, tickFilter, hfilter]
  rfl

theorem idle_unchangedBut (s : State) :
    UnchangedBut [.now, .inputs, .bus, .pacer, .pq, .map, .motion, .guard, .pending] s (idle s) := by
  intro b hb
  cases b <;> simp [Block.same, idle_eq] at hb ⊢

/-- Settles O1: a command at the front is executed by the step's definition; on an empty queue the tick is read off its
setters, and the two commands of the bed stop line are due by the filter alone. -/
theorem stepTakesTheFrontCommand : Obligations.StepTakesTheFrontCommand := by
  refine fun s => ⟨fun c rest h => step_of_front h, fun h => ⟨idle s, step_of_empty h, rfl, ?_⟩⟩
  have hinputs : (idle s).inputs = { s.inputs with
      lineLow := (s.inputs.lineAhead.head?).getD s.inputs.lineLow, lineAhead := s.inputs.lineAhead.drop 1 } := by
    have htick : (idle s).inputs = s.inputs.tick := rfl
    rw [htick, Inputs.tick, List.headD_eq_head?_getD, List.drop_one]
  have hspindle : (idle s).motion = s.motion.tick := rfl
  refine ⟨hinputs, idle_bus s, rfl, rfl, ?_, rfl, rfl, idle_pending s, ?_, ?_, ?_, ?_, idle_unchangedBut s⟩
  · rw [hspindle, Motion.tick]
    cases s.motion.spindle <;> rfl
  all_goals rw [idle_pending]
  · exact fun hhigh hlow => (stopSensed_mem_due _).2 ⟨hhigh, hlow⟩
  · exact fun hdue => (stopSensed_mem_due _).1 hdue
  · exact fun hlow hhigh => (stopReleased_mem_due _).2 ⟨hlow, hhigh⟩
  · exact fun hdue => (stopReleased_mem_due _).1 hdue

/-! ## The frame of every command -/

theorem UnchangedBut.refl (l : List Block) (s : State) : UnchangedBut l s s := by
  intro b _
  cases b <;> rfl

theorem UnchangedBut.trans {l : List Block} {s t u : State} (hst : UnchangedBut l s t) (htu : UnchangedBut l t u) :
    UnchangedBut l s u := by
  intro b hb
  have h := hst b hb
  have h' := htu b hb
  cases b <;> exact Eq.trans h' h

theorem UnchangedBut.mono {l l' : List Block} {s t : State} (h : UnchangedBut l s t) (hl : l ⊆ l') :
    UnchangedBut l' s t := fun b hb => h b fun hin => hb (hl hin)

/-- The frame of a command is that of the state it answers with. -/
theorem unchangedBut_of_next {l : List Block} {s t u : State} (h : (.next u : Result) = .next t)
    (hu : UnchangedBut l s u) : UnchangedBut l s t := by
  injection h with h
  exact h ▸ hu

/-- The frame of a command that acts in some states only. -/
theorem unchangedBut_ite {l : List Block} {s u : State} {p : Prop} [Decidable p] (hu : UnchangedBut l s u) :
    UnchangedBut l s (if p then u else s) := by
  split
  · exact hu
  · exact UnchangedBut.refl l s

/-- The frame of the taking of a frame is that of what follows it, with the Bus Controller. -/
theorem unchangedBut_takeFrame {l : List Block} {k : Kind} {act : Frame → State → State} {s : State} (hbus : .bus ∈ l)
    (hact : ∀ (f : Frame) (u : State), UnchangedBut l u (act f u)) : UnchangedBut l s (takeFrame k act s) := by
  unfold takeFrame
  split
  · refine unchangedBut_ite (UnchangedBut.trans (t := s.setBus _) ?_ (hact _ _))
    intro b hb
    cases b <;> first | rfl | exact absurd hbus hb
  · exact UnchangedBut.refl l s

/-- Settles O2, by the frame lemma of each command's operation: the twelve that take a frame by what they do with it, the two
resets by their setters, every other branch by branch. -/
theorem commandsWriteOnlyTheirBlocks : Obligations.CommandsWriteOnlyTheirBlocks := by
  intro c s t h
  cases c
  case join | job | start | abort | excuse | resume | clear | finish | query | credit | trace | reach =>
    refine unchangedBut_of_next h (unchangedBut_takeFrame (by decide) fun f u b hb => ?_)
    cases b <;> simp [Block.same, blocksWritten] at hb ⊢
  case pinReset | reset =>
    refine unchangedBut_of_next h ?_
    (repeat' split) <;> (intro b hb; cases b <;> simp [Block.same, blocksWritten, stationBlocks, holdReset] at hb ⊢)
  case driveFaultReport | stopReleased =>
    refine unchangedBut_of_next h ?_
    dsimp only
    (repeat' split) <;> (intro b hb; cases b <;> simp [Block.same, blocksWritten] at hb ⊢)
  all_goals
    refine unchangedBut_of_next h ?_
    (repeat' split) <;> (intro b hb; cases b <;> simp [Block.same, blocksWritten] at hb ⊢)

end Sys2Proof.Machine

/-! SUPPORT. The form of the transmit queue (R13 to R16, R18) is kept by every operation on the Bus Controller. -/

namespace Sys2Proof.Machine

open Sys2Proof

variable {b c : Bus} {k : Kind} {dest : Byte} {payload : List Byte}

/-! ## What the form reads -/

/-- The form of the queue reads the places, the offers and MUTE alone. -/
theorem Bus.QueueForm.congr (h : b.QueueForm) (hqueue : c.queue = b.queue) (hsending : c.sending = b.sending)
    (hoffers : c.offers = b.offers) (hmute : c.mute = b.mute) : c.QueueForm := by
  obtain ⟨sorted, past, distinct, general, traces, reports, again, mute⟩ := h
  have hplaces : c.places = b.places := by simp only [Bus.places, hqueue, hsending]
  have hages : c.ages = b.ages := by simp only [Bus.ages, hplaces, hsending]
  refine ⟨hqueue ▸ sorted, ?_, hages ▸ distinct, ?_, ?_, hplaces ▸ reports, hsending ▸ again, ?_⟩
  · rwa [hages, hoffers]
  · rwa [Bus.generalHeld, hplaces]
  · rwa [Bus.tracesHeld, hplaces]
  · rwa [hmute, hplaces]

theorem Bus.mute_eq_false_of_sending (h : b.QueueForm) {x : Sending} (hx : b.sending = some x) : b.mute = false := by
  by_contra hmute
  have hplaces := h.mute (by simpa using hmute)
  simp [Bus.places, hx] at hplaces

/-- Two places of the queue have different ages. -/
theorem Bus.age_ne_of_mem {a : Nat} (h : (a :: b.queue.map (·.age)).Nodup) : ∀ g ∈ b.queue, a ≠ g.age := by
  intro g hg heq
  exact (List.nodup_cons.1 h).1 (heq ▸ List.mem_map_of_mem hg)

/-! ## A place filled (R13, R16) -/

theorem Bus.places_fill_perm (b : Bus) (k : Kind) (dest : Byte) (payload : List Byte) :
    (b.fill k dest payload).places.Perm (⟨k, dest, payload, b.offers⟩ :: b.places) := by
  have hplace := place_perm ⟨k, dest, payload, b.offers⟩ b.queue
  cases hx : b.sending with
  | none => simpa [Bus.places, Bus.fill, hx] using hplace
  | some x => simpa [Bus.places, Bus.fill, hx] using (hplace.cons x.frame).trans (.swap _ _ _)

theorem Bus.ages_fill_perm (b : Bus) (k : Kind) (dest : Byte) (payload : List Byte) :
    (b.fill k dest payload).ages.Perm (b.offers :: b.ages) := by
  have hplaces := (b.places_fill_perm k dest payload).map (·.age)
  simpa [Bus.ages] using hplaces.append_right ((b.sending.bind (·.again)).toList.map (·.age))

/-- Filling a place keeps the form where the frame's kind has a place to fill. -/
theorem Bus.QueueForm.fill (h : b.QueueForm) (hmute : b.mute = false)
    (hgeneral : k.isReport = false → b.generalHeld < 5) (htrace : k = .trace → b.tracesHeld < 4)
    (hreport : k.isReport = true → ∀ g ∈ b.places, g.kind ≠ k) : (b.fill k dest payload).QueueForm := by
  have hperm := b.places_fill_perm k dest payload
  have hcount (p : TxFrame → Bool) : ((b.fill k dest payload).places.filter p).length =
      (if p ⟨k, dest, payload, b.offers⟩ then 1 else 0) + (b.places.filter p).length := by
    rw [(hperm.filter p).length_eq, List.filter_cons]
    split <;> simp [Nat.add_comm]
  constructor
  case sorted =>
    refine sorted_place h.sorted fun g hg _ => ?_
    have hage : g.age ∈ b.ages := by
      simpa [Bus.ages] using .inl ⟨g, Bus.mem_places.2 (.inr hg), rfl⟩
    exact (h.agesPast _ hage).ne'
  case agesPast =>
    intro a ha
    obtain rfl | ha := List.mem_cons.1 ((b.ages_fill_perm k dest payload).mem_iff.1 ha)
    · exact Nat.lt_succ_self _
    · exact Nat.lt_succ_of_lt (h.agesPast a ha)
  case agesDistinct =>
    refine (b.ages_fill_perm k dest payload).nodup_iff.2 (List.nodup_cons.2 ⟨fun hin => ?_, h.agesDistinct⟩)
    exact (h.agesPast _ hin).ne rfl
  case general =>
    rw [Bus.generalHeld, hcount]
    have hheld := h.general
    rw [Bus.generalHeld] at hheld hgeneral
    cases hk : k.isReport with
    | true => simpa [hk] using hheld
    | false =>
      have hroom := hgeneral hk
      simp only [Bool.not_false, if_true]
      omega
  case traces =>
    rw [Bus.tracesHeld, hcount]
    have hheld := h.traces
    rw [Bus.tracesHeld] at hheld htrace
    by_cases hk : k = .trace
    · have hroom := htrace hk
      simp only [hk, beq_self_eq_true, if_true]
      omega
    · simpa [hk] using hheld
  case reports =>
    intro j hj
    rw [hcount]
    by_cases hk : k = j
    · subst hk
      have hnone : b.places.filter (fun f => f.kind == k) = [] := by simpa using hreport hj
      simp [hnone]
    · simpa [hk] using h.reports j hj
  case again => exact h.again
  case mute => simp [hmute]

theorem Bus.hasRoom_iff : b.hasRoom = true ↔ b.mute = false ∧ b.generalHeld < 5 := by
  simp [Bus.hasRoom]

theorem Bus.hasTraceRoom_iff : b.hasTraceRoom = true ↔ b.hasRoom = true ∧ b.tracesHeld < 4 := by
  simp [Bus.hasTraceRoom]

/-- A general place that is free is filled (R14). -/
theorem Bus.QueueForm.fill_general (h : b.QueueForm) (hroom : b.hasRoom = true) (hk : k.isReport = false)
    (htrace : k = .trace → b.tracesHeld < 4) : (b.fill k dest payload).QueueForm := by
  obtain ⟨hmute, hfree⟩ := Bus.hasRoom_iff.1 hroom
  exact h.fill hmute (fun _ => hfree) htrace (by simp [hk])

/-- A report offered fills its place, keeps it, or is marked due again in it (R16). -/
theorem Bus.QueueForm.offerReport (h : b.QueueForm) (hk : k.isReport = true) : (b.offerReport k dest).QueueForm := by
  have hfill (hmute : b.mute = false) (hsending : ∀ x, b.sending = some x → x.frame.kind ≠ k) :
      (b.fillReport k dest).QueueForm := by
    unfold Bus.fillReport
    split
    case isTrue => exact h
    case isFalse hqueue =>
      refine h.fill hmute (by simp [hk]) (by rintro rfl; simp [Kind.isReport] at hk) fun _ g hg => ?_
      obtain ⟨x, hx, rfl⟩ | hg := Bus.mem_places.1 hg
      · exact hsending x hx
      · simp only [List.any_eq_true, not_exists, not_and, beq_iff_eq] at hqueue
        exact hqueue g hg
  unfold Bus.offerReport
  split
  case isTrue => exact h
  case isFalse hmute =>
    have hmute : b.mute = false := by simpa using hmute
    split
    case h_2 hnone => exact hfill hmute (by simp [hnone])
    case h_1 x hx =>
      split
      case isFalse hkind => exact hfill hmute (by simpa [hx] using hkind)
      case isTrue hkind =>
        split
        case h_1 => exact h
        case h_2 hagain =>
          have hplaces : (⟨b.queue, some { x with again := some ⟨b.offers, dest⟩ }, b.offers + 1, b.rx, b.rxPhase, b.ack,
              b.resetDue, b.failures, b.mute, b.hold, b.drivePull, b.breachPull, b.sensedLow, b.filter⟩ : Bus).places =
              b.places := by simp [Bus.places, hx]
          obtain ⟨sorted, past, distinct, general, traces, reports, -, -⟩ := h
          simp only [Bus.ages, hx, Option.bind_some, hagain, Option.toList_none, List.map_nil, List.append_nil]
            at past distinct
          refine ⟨sorted, ?_, ?_, ?_, ?_, ?_, ?_, by simp [hmute]⟩
          · simp only [Bus.ages, hplaces]
            intro a ha
            obtain ha | rfl : a ∈ b.places.map (·.age) ∨ a = b.offers := by simpa using ha
            · exact Nat.lt_succ_of_lt (past a ha)
            · exact Nat.lt_succ_self _
          · simp only [Bus.ages, hplaces]
            refine List.nodup_append.2 ⟨distinct, by simp, fun a ha d hd => ?_⟩
            obtain rfl : d = b.offers := by simpa using hd
            exact (past a ha).ne
          · rwa [Bus.generalHeld, hplaces]
          · rwa [Bus.tracesHeld, hplaces]
          · rwa [hplaces]
          · rintro y hy -
            obtain rfl : _ = y := by simpa using hy
            simpa [hkind] using hk

/-! ## Places that change hands or empty (R5, R10, R13, R15, R18) -/

/-- The form of a queue with nothing in transmission whose places come, kind by kind and age by age, from those of b. -/
theorem Bus.QueueForm.of_queue {l : List TxFrame} (h : b.QueueForm) (hc : c.queue = l) (hsending : c.sending = none)
    (hoffers : c.offers = b.offers) (hsorted : l.Pairwise fun f g => f.before g = true)
    (hages : (l.map (·.age)).Subperm b.ages) (hcount : ∀ p : Kind → Bool,
      (l.filter fun f => p f.kind).length ≤ (b.places.filter fun f => p f.kind).length)
    (hmute : c.mute = true → l = []) : c.QueueForm := by
  have hplaces : c.places = l := by simp [Bus.places, hsending, hc]
  have hcages : c.ages = l.map (·.age) := by simp [Bus.ages, hplaces, hsending]
  constructor
  case sorted => rwa [hc]
  case agesPast =>
    rw [hcages, hoffers]
    exact fun a ha => h.agesPast a (hages.subset ha)
  case agesDistinct =>
    rw [hcages]
    obtain ⟨l', hperm, hsub⟩ := hages
    exact hperm.nodup_iff.1 (hsub.nodup h.agesDistinct)
  case general =>
    rw [Bus.generalHeld, hplaces]
    exact (hcount fun k => !k.isReport).trans h.general
  case traces =>
    rw [Bus.tracesHeld, hplaces]
    exact (hcount fun k => k == .trace).trans h.traces
  case reports =>
    intro k hk
    rw [hplaces]
    exact (hcount fun j => j == k).trans (h.reports k hk)
  case again => simp [hsending]
  case mute => rwa [hplaces]

/-- The frame in transmission goes back into the queue under an age of its own (R13, R16). -/
theorem Bus.QueueForm.replace (h : b.QueueForm) {x : Sending} (hx : b.sending = some x) {f : TxFrame}
    (hkind : f.kind = x.frame.kind) (hage : f.age = x.frame.age ∨ ∃ g, x.again = some g ∧ f.age = g.age) :
    ({ b with queue := place f b.queue, sending := none } : Bus).QueueForm := by
  have hplaces : b.places = x.frame :: b.queue := by simp [Bus.places, hx]
  have hages : (f.age :: b.queue.map (·.age)).Subperm b.ages := by
    rw [Bus.ages, hplaces, hx]
    obtain hage | ⟨g, hg, hage⟩ := hage
    · rw [hage]
      exact (List.sublist_append_left _ _).subperm
    · simp only [Option.bind_some, hg, Option.toList_some, List.map_cons, List.map_nil, hage]
      exact (List.perm_append_singleton g.age _).subperm_left.2 ((List.sublist_cons_self _ _).cons_cons _).subperm
  have hnodup : (f.age :: b.queue.map (·.age)).Nodup := by
    obtain ⟨l', hperm, hsub⟩ := hages
    exact hperm.nodup_iff.1 (hsub.nodup h.agesDistinct)
  have hmute := Bus.mute_eq_false_of_sending h hx
  refine h.of_queue (l := place f b.queue) rfl rfl rfl ?_ ?_ ?_ (by simp [hmute])
  · exact sorted_place h.sorted fun g hg _ => Bus.age_ne_of_mem hnodup g hg
  · have hperm : ((place f b.queue).map (·.age)).Perm (f.age :: b.queue.map (·.age)) := (place_perm f b.queue).map _
    exact hperm.subperm.trans hages
  · intro p
    rw [length_filter_place, hplaces, List.filter_cons, hkind]
    split <;> simp [Nat.add_comm]

theorem Bus.QueueForm.returnFrame (h : b.QueueForm) : b.returnFrame.QueueForm := by
  unfold Bus.returnFrame
  split
  case h_2 => exact h
  case h_1 x hx =>
    dsimp only
    split <;> exact h.replace hx rfl (.inl rfl)

theorem Bus.QueueForm.dropFrame (h : b.QueueForm) : b.dropFrame.QueueForm := by
  unfold Bus.dropFrame
  split
  case h_2 => exact h
  case h_1 x hx =>
    split
    case h_1 g hg => exact h.replace hx rfl (.inr ⟨g, hg, rfl⟩)
    case h_2 =>
      have hplaces : b.places = x.frame :: b.queue := by simp [Bus.places, hx]
      have hmute := Bus.mute_eq_false_of_sending h hx
      refine h.of_queue rfl rfl rfl h.sorted ?_ (fun p => ?_) (by simp [hmute])
      · rw [Bus.ages, hplaces]
        exact ((List.sublist_cons_self _ _).trans (List.sublist_append_left _ _)).subperm
      · rw [hplaces]
        exact ((List.sublist_cons_self _ _).filter _).length_le

/-- The form of a queue with fewer frames waiting and the same in transmission. -/
theorem Bus.QueueForm.of_sublist (h : b.QueueForm) (hqueue : c.queue.Sublist b.queue) (hsending : c.sending = b.sending)
    (hoffers : c.offers = b.offers) (hmute : c.mute = b.mute) : c.QueueForm := by
  have hplaces : c.places.Sublist b.places := by
    cases hx : b.sending with
    | none => simpa [Bus.places, hsending, hx] using hqueue
    | some x => simpa [Bus.places, hsending, hx] using hqueue
  have hages : c.ages.Sublist b.ages := by
    rw [Bus.ages, Bus.ages, hsending]
    exact (hplaces.map _).append (List.Sublist.refl _)
  constructor
  case sorted => exact h.sorted.sublist hqueue
  case agesPast => exact fun a ha => hoffers ▸ h.agesPast a (hages.subset ha)
  case agesDistinct => exact hages.nodup h.agesDistinct
  case general => exact ((hplaces.filter _).length_le).trans h.general
  case traces => exact ((hplaces.filter _).length_le).trans h.traces
  case reports => exact fun k hk => ((hplaces.filter _).length_le).trans (h.reports k hk)
  case again => rw [hsending]; exact h.again
  case mute => exact fun hm => List.sublist_nil.1 (h.mute (hmute ▸ hm) ▸ hplaces)

theorem Bus.QueueForm.withdrawTraces (h : b.QueueForm) : b.withdrawTraces.QueueForm :=
  h.of_sublist List.filter_sublist rfl rfl rfl

/-- The head frame begins its transmission with its payload filled (R4, R16). -/
theorem Bus.QueueForm.start {f : TxFrame} {rest : List TxFrame} {phase : RxPhase} (h : b.QueueForm)
    (hqueue : b.queue = f :: rest) (hsending : b.sending = none) :
    ({ b with queue := rest, sending := some ⟨{ f with payload := payload }, none⟩, rxPhase := phase } : Bus).QueueForm := by
  obtain ⟨sorted, past, distinct, general, traces, reports, -, mute⟩ := h
  have hplaces : b.places = f :: rest := by simp [Bus.places, hsending, hqueue]
  simp only [Bus.generalHeld, Bus.tracesHeld, Bus.ages, hplaces, hsending, List.filter_cons] at *
  refine ⟨(hqueue ▸ sorted).of_cons, ?_, ?_, ?_, ?_, ?_, by simp, ?_⟩
  · simpa [Bus.ages, Bus.places] using past
  · simpa [Bus.ages, Bus.places] using distinct
  · simpa [Bus.generalHeld, Bus.places, List.filter_cons, apply_ite List.length] using general
  · simpa [Bus.tracesHeld, Bus.places, List.filter_cons, apply_ite List.length] using traces
  · intro k hk
    simpa [Bus.places, List.filter_cons, apply_ite List.length] using reports k hk
  · simp at mute
    simp [mute]

/-- MUTE empties the queue once nothing is in transmission (R18). -/
theorem Bus.QueueForm.silence (h : b.QueueForm) (hsending : b.sending = none) :
    ({ b with queue := [], mute := true } : Bus).QueueForm :=
  h.of_queue (l := []) rfl hsending rfl .nil (List.nil_subperm) (by simp) fun _ => rfl

end Sys2Proof.Machine

/-! SUPPORT. What every operation keeps (R11, R18, R19, R29, R92, R105, R136, R143 to R145, R165, R187, R190): the buffers' bounds, and
what stands until it is undone. Every operation but a reset and CLEAR is a chain of changes that keep them. -/

namespace Sys2Proof.Machine

open Sys2Proof

/-! ## The stock of a station -/

/-- What the bounds of the buffers and the standing facts read of a state. -/
structure Stock where
  bus : Bus
  entries : List (Option Peer)
  storeState : StoreState
  records : List StoredRecord
  slots : Nat
  cells : List (Nat × Cell)
  outstanding : List Outstanding
  counters : List Nat
  set : BitVec 32

/-- The stock of a state. -/
def State.stock (s : State) : Stock where
  bus := s.bus
  entries := s.roster.entries
  storeState := s.store.state
  records := s.store.records
  slots := s.pq.free + s.pq.posted.length + s.pq.issued.length
  cells := s.map.cells
  outstanding := s.motion.outstanding
  counters := s.cond.counters
  set := s.cond.set

/-- The Trace Store holds 16,384 records, and none while EMPTY or OVERFLOWED (R92). -/
def RecordsBounded (st : StoreState) (l : List StoredRecord) : Prop :=
  l.length ≤ 16384 ∧ (st = .empty ∨ st = .overflowed → l = [])

/-- The fifteen counters are held at 65,535 (R190). -/
def CountersBounded (l : List Nat) : Prop := l.length = 15 ∧ ∀ n ∈ l, n ≤ 65535

/-- The list of cells is in its canonical form (R136). -/
def CellsCanonical (l : List (Nat × Cell)) : Prop := RisingCells l ∧ ∀ p ∈ l, p.2 ≠ Cell.blank

/-- The stock x becomes y with every bound kept and nothing undone that stands; only where a job is armed may the cleared
depths of the cells go back. -/
structure Grown (arming : Bool) (x y : Stock) : Prop where
  queue : x.bus.QueueForm → y.bus.QueueForm
  rx : x.bus.rx.length ≤ 4 → y.bus.rx.length ≤ 4
  mute : x.bus.mute = true → y.bus.mute = true
  drivePull : x.bus.drivePull = true → y.bus.drivePull = true
  breachPull : x.bus.breachPull = true → y.bus.breachPull = true
  entries : y.entries.length = x.entries.length
  store : RecordsBounded x.storeState x.records → RecordsBounded y.storeState y.records
  slots : x.slots = 240 → y.slots = 240
  cells : CellsCanonical x.cells → CellsCanonical y.cells ∧
    (arming = false → ∀ n, (lookCell x.cells n).cleared ≤ (lookCell y.cells n).cleared)
  outstanding : x.outstanding.length ≤ 2 → y.outstanding.length ≤ 2
  counters : CountersBounded x.counters → CountersBounded y.counters ∧
    ∀ k : Counter, x.counters.getD k.index 0 ≤ y.counters.getD k.index 0
  conds : ∀ i, x.set.getLsbD i = true → y.set.getLsbD i = true
  unused : x.set &&& 0x3F#32 = 0#32 → y.set &&& 0x3F#32 = 0#32

theorem Grown.refl (a : Bool) (x : Stock) : Grown a x x where
  queue := id
  rx := id
  mute := id
  drivePull := id
  breachPull := id
  entries := rfl
  store := id
  slots := id
  cells := fun h => ⟨h, fun _ _ => le_rfl⟩
  outstanding := id
  counters := fun h => ⟨h, fun _ => le_rfl⟩
  conds := fun _ => id
  unused := id

theorem Grown.trans {a : Bool} {x y z : Stock} (h : Grown a x y) (h' : Grown a y z) : Grown a x z where
  queue := h'.queue ∘ h.queue
  rx := h'.rx ∘ h.rx
  mute := h'.mute ∘ h.mute
  drivePull := h'.drivePull ∘ h.drivePull
  breachPull := h'.breachPull ∘ h.breachPull
  entries := h'.entries.trans h.entries
  store := h'.store ∘ h.store
  slots := h'.slots ∘ h.slots
  cells := fun hx => by
    obtain ⟨hy, hle⟩ := h.cells hx
    obtain ⟨hz, hle'⟩ := h'.cells hy
    exact ⟨hz, fun ha n => (hle ha n).trans (hle' ha n)⟩
  outstanding := h'.outstanding ∘ h.outstanding
  counters := fun hx => by
    obtain ⟨hy, hle⟩ := h.counters hx
    obtain ⟨hz, hle'⟩ := h'.counters hy
    exact ⟨hz, fun k => (hle k).trans (hle' k)⟩
  conds := fun i hi => h'.conds i (h.conds i hi)
  unused := h'.unused ∘ h.unused

/-- The state s becomes t with every bound kept and nothing undone that stands. -/
def Evolves (arming : Bool) (s t : State) : Prop := Grown arming s.stock t.stock

namespace Evolves

variable {a : Bool} {s t u : State}

/-- What changes nothing of the stock keeps all of it. -/
theorem same (h : t.stock = s.stock) : Evolves a s t := by
  rw [Evolves, h]
  exact Grown.refl a s.stock

theorem refl (a : Bool) (s : State) : Evolves a s s := same rfl

theorem trans (h : Evolves a s t) (h' : Evolves a t u) : Evolves a s u := Grown.trans h h'

/-- A change of what the stock does not read comes first. -/
theorem after (h : Evolves a t u) (hst : t.stock = s.stock) : Evolves a s u := (same hst).trans h

theorem ite {p : Prop} [Decidable p] (ht : Evolves a s t) (hu : Evolves a s u) : Evolves a s (if p then t else u) := by
  split
  · exact ht
  · exact hu

/-! ## One block at a time -/

theorem setGen (h : Evolves a s t) (x : Generator) : Evolves a s (t.setGen x) := h

theorem setPacer (h : Evolves a s t) (x : Pacer) : Evolves a s (t.setPacer x) := h

theorem setGuard (h : Evolves a s t) (x : Guard) : Evolves a s (t.setGuard x) := h

theorem setJob (h : Evolves a s t) (x : JobStore) : Evolves a s (t.setJob x) := h

theorem setSeq (h : Evolves a s t) (x : Sequencer) : Evolves a s (t.setSeq x) := h

theorem setBus {b : Bus} (hqueue : s.bus.QueueForm → b.QueueForm) (hrx : s.bus.rx.length ≤ 4 → b.rx.length ≤ 4)
    (hmute : s.bus.mute = true → b.mute = true) (hdrive : s.bus.drivePull = true → b.drivePull = true)
    (hbreach : s.bus.breachPull = true → b.breachPull = true) : Evolves a s (s.setBus b) :=
  { Grown.refl a s.stock with queue := hqueue, rx := hrx, mute := hmute, drivePull := hdrive, breachPull := hbreach }

/-- A change of the Bus Controller outside its places, its buffer, MUTE and the pulls. -/
theorem setBus_aside {b : Bus} (h : b.queue = s.bus.queue ∧ b.sending = s.bus.sending ∧ b.offers = s.bus.offers ∧
    b.mute = s.bus.mute ∧ b.rx = s.bus.rx ∧ b.drivePull = s.bus.drivePull ∧ b.breachPull = s.bus.breachPull) :
    Evolves a s (s.setBus b) := by
  obtain ⟨hqueue, hsending, hoffers, hmute, hrx, hdrive, hbreach⟩ := h
  exact setBus (fun hf => hf.congr hqueue hsending hoffers hmute) (hrx ▸ id) (hmute ▸ id) (hdrive ▸ id) (hbreach ▸ id)

theorem setRoster {r : Roster} (h : r.entries.length = s.roster.entries.length) : Evolves a s (s.setRoster r) :=
  { Grown.refl a s.stock with entries := h }

theorem setStore {x : TraceStore}
    (h : RecordsBounded s.store.state s.store.records → RecordsBounded x.state x.records) : Evolves a s (s.setStore x) :=
  { Grown.refl a s.stock with store := h }

theorem setPq {q : PathQueue} (h : s.pq.free + s.pq.posted.length + s.pq.issued.length = 240 →
    q.free + q.posted.length + q.issued.length = 240) : Evolves a s (s.setPq q) :=
  { Grown.refl a s.stock with slots := h }

theorem setMap {m : CutMap} (h : s.map.wf → m.wf) (hcleared : s.map.wf → a = false →
    ∀ n, (s.map.read n).cleared ≤ (m.read n).cleared) : Evolves a s (s.setMap m) :=
  { Grown.refl a s.stock with cells := fun hwf => ⟨h hwf, hcleared hwf⟩ }

theorem setMotion {m : Motion} (h : s.motion.outstanding.length ≤ 2 → m.outstanding.length ≤ 2) :
    Evolves a s (s.setMotion m) :=
  { Grown.refl a s.stock with outstanding := h }

end Evolves

/-! ## Conditions and counters -/

section

variable {a : Bool}

theorem countersBounded_countUp {u : ConditionUnit} (h : CountersBounded u.counters) (c : Counter) (n : Nat) :
    CountersBounded (u.countUp c n).counters ∧
      ∀ k : Counter, u.counters.getD k.index 0 ≤ (u.countUp c n).counters.getD k.index 0 := by
  obtain ⟨hlen, hmax⟩ := h
  have hindex (k : Counter) : k.index < u.counters.length := by cases k <;> simp [Counter.index, hlen]
  refine ⟨⟨by simp [ConditionUnit.countUp, hlen], fun x hx => ?_⟩, fun k => ?_⟩
  · obtain hx | rfl := List.mem_or_eq_of_mem_set hx
    · exact hmax x hx
    · exact min_le_left _ _
  · have hle : u.counters.getD k.index 0 ≤ 65535 := by
      rw [List.getD_eq_getElem _ _ (hindex k)]
      exact hmax _ (List.getElem_mem _)
    simp only [ConditionUnit.countUp, List.getD_eq_getElem?_getD, List.getElem?_set, ConditionUnit.count] at hle ⊢
    split
    case isTrue heq =>
      rw [heq, if_pos (hindex k)]
      simp only [Option.getD_some]
      omega
    case isFalse => exact le_rfl

theorem evolves_count (c : Counter) (n : Nat) (s : State) : Evolves a s (count c n s) :=
  { Grown.refl a s.stock with counters := fun h => countersBounded_countUp h c n }

theorem evolves_countIf (p : Bool) (c : Counter) (s : State) : Evolves a s (countIf p c s) :=
  .ite (evolves_count c 1 s) (.refl a s)

theorem evolves_offerReport {k : Kind} (hk : k.isReport = true) (dest : Byte) (s : State) :
    Evolves a s (offerReport k dest s) := by
  unfold offerReport
  refine .ite (.setBus (·.offerReport hk) ?_ ?_ ?_ ?_) (.refl a s) <;> simp

theorem evolves_offerReach (s : State) : Evolves a s (offerReach s) := evolves_offerReport rfl 255 s

theorem evolves_alertRise (c : Cond) (s : State) : Evolves a s (alertRise c s) := by
  unfold alertRise
  split
  · exact evolves_offerReport (s := s.setCond { s.cond with risen := some c }) rfl 255
  · exact .refl a s

theorem Cond.mask_and_unused (c : Cond) : c.mask &&& 0x3F#32 = 0#32 := by
  cases c <;> decide

theorem evolves_raise (c : Cond) (s : State) : Evolves a s (raise c s) := by
  have hset : Evolves a s (s.setCond { s.cond with set := s.cond.set ||| c.mask }) :=
    { Grown.refl a s.stock with
      conds := fun i hi => (BitVec.getLsbD_or ..).trans (Bool.or_eq_true .. ▸ .inl hi)
      unused := fun h => by
        have hor : (s.cond.set ||| c.mask) &&& 0x3F#32 = (s.cond.set &&& 0x3F#32) ||| (c.mask &&& 0x3F#32) := by
          ext i
          simp [Bool.and_or_distrib_right]
        exact hor.trans (by rw [show s.cond.set &&& 0x3F#32 = 0#32 from h, c.mask_and_unused]; rfl) }
  exact .ite (.refl a s) (hset.trans (.ite (evolves_alertRise c _) (.refl a _)))

theorem evolves_raiseIf (p : Bool) (c : Cond) (s : State) : Evolves a s (raiseIf p c s) :=
  .ite (evolves_raise c s) (.refl a s)

theorem evolves_strayControl (s : State) : Evolves a s (strayControl s) := evolves_count .strayControls 1 s

/-! ## Operations several blocks share -/

theorem evolves_refreshLoad (s : State) : Evolves a s (refreshLoad s) := .same rfl

theorem evolves_setStation (st : StationState) (s : State) : Evolves a s (setStation st s) := .same rfl

theorem evolves_spindleOff (s : State) : Evolves a s (spindleOff s) := .same rfl

theorem evolves_spindleOn (s : State) : Evolves a s (spindleOn s) := .ite (.same rfl) (.refl a s)

theorem evolves_offerCreditTo (dest : Byte) (s : State) : Evolves a s (offerCreditTo dest s) :=
  .after (evolves_offerReport rfl dest _) rfl

theorem evolves_offerCredit (s : State) : Evolves a s (offerCredit s) := by
  unfold offerCredit
  split
  · exact evolves_offerCreditTo _ s
  · exact .refl a s

theorem evolves_offerOnGrowth (s : State) : Evolves a s (offerOnGrowth s) := .ite (evolves_offerCredit s) (.refl a s)

/-! ## The Neighbour Guard -/

theorem evolves_setClaim (iv : Interval) (s : State) : Evolves a s (setClaim iv s) :=
  .ite (.refl a s) (.after (evolves_offerReach _) rfl)

theorem evolves_setAnnounce (n : Option Interval) (s : State) : Evolves a s (setAnnounce n s) :=
  .ite (.refl a s) (.after (evolves_offerReach _) rfl)

theorem evolves_recomputeClaim (s : State) : Evolves a s (recomputeClaim s) := .ite (evolves_setClaim _ s) (.refl a s)

theorem evolves_followClaim (s : State) : Evolves a s (followClaim s) := .ite (evolves_setClaim _ s) (.refl a s)

theorem evolves_passCheck (s : State) : Evolves a s (passCheck s) := .same rfl

theorem evolves_enterWait (side : Side) (s : State) : Evolves a s (enterWait side s) :=
  (evolves_setAnnounce none s).trans (.same rfl)

theorem evolves_announceOn (side : Side) (n : Interval) (s : State) : Evolves a s (announceOn side n s) :=
  (evolves_setAnnounce (some n) s).trans (.same rfl)

theorem evolves_checkBeyond (side : Side) (n : Interval) (s : State) : Evolves a s (checkBeyond side n s) := by
  unfold checkBeyond
  split
  · exact (evolves_setClaim n s).trans (evolves_passCheck _)
  · split
    · exact evolves_enterWait side s
    · exact .ite (evolves_enterWait side s) (evolves_announceOn side n s)

theorem evolves_runCheck (s : State) : Evolves a s (runCheck s) := by
  unfold runCheck
  split
  · exact .refl a s
  · exact .ite (evolves_passCheck s) (.ite (evolves_checkBeyond _ _ s) (evolves_checkBeyond _ _ s))

theorem evolves_beginCheck (sp : Setpoint) (s : State) : Evolves a s (beginCheck sp s) :=
  .after (evolves_runCheck _) rfl

theorem evolves_recheck (s : State) : Evolves a s (recheck s) := .ite (evolves_runCheck s) (.refl a s)

theorem evolves_shrinkClaim (s : State) : Evolves a s (shrinkClaim s) :=
  (evolves_recomputeClaim s).trans (.ite (.refl a _) (evolves_recheck _))

theorem evolves_takeOnClearReply (s : State) : Evolves a s (takeOnClearReply s) := by
  unfold takeOnClearReply
  refine .ite ?_ (.refl a s)
  split
  · exact .ite (((evolves_setClaim _ s).trans (evolves_setAnnounce none _)).trans (evolves_passCheck _)) (.refl a s)
  · exact .refl a s

theorem evolves_settleOnReach (v : Seen) (s : State) : Evolves a s (settleOnReach v s) := by
  unfold settleOnReach
  split
  · exact .refl a s
  · have hreply : Evolves a s (if s.guard.heard then s.setGuard { s.guard with reply := some v } else s) :=
      .ite (.same rfl) (.refl a s)
    exact hreply.trans (.ite (evolves_enterWait _ _) (.ite (evolves_takeOnClearReply _) (.refl a _)))

theorem evolves_abandonCheck (s : State) : Evolves a s (abandonCheck s) :=
  .ite (.refl a s) ((evolves_setAnnounce none s).trans (.after (evolves_recomputeClaim _) rfl))

theorem evolves_testBreach (side : Side) (s : State) : Evolves a s (testBreach side s) := by
  have hpull (g : Guard) : Evolves a s ((s.setGuard g).setBus { s.bus with breachPull := true }) :=
    .setBus (s := s.setGuard g) (fun h => h.congr rfl rfl rfl rfl) id id id fun _ => rfl
  unfold testBreach
  split
  · exact .ite (.refl a s) (.ite (.ite ((hpull _).trans (evolves_raise _ _)) (.refl a s)) (.same rfl))
  · exact .refl a s

theorem evolves_resetView (side : Side) (station : Option Nat) (s : State) : Evolves a s (resetView side station s) :=
  .same rfl

theorem evolves_joinNoticeOn (side : Side) (joined : Nat) (s : State) : Evolves a s (joinNoticeOn side joined s) := by
  unfold joinNoticeOn
  refine .ite (.refl a s) ((evolves_resetView side (neighbour side s) s).trans (.ite ?_ (.refl a _)))
  split
  · exact evolves_enterWait side _
  · exact evolves_runCheck _
  · exact .refl a _

theorem evolves_joinNotice (joined : Nat) (s : State) : Evolves a s (joinNotice joined s) :=
  (evolves_joinNoticeOn .left joined s).trans (evolves_joinNoticeOn .right joined _)

theorem evolves_lookUpNeighbours (s : State) : Evolves a s (lookUpNeighbours s) := .same rfl

/-! ## The Motion Port -/

theorem evolves_countMarks (m : Marks) (s : State) : Evolves a s (countMarks m s) := by
  unfold countMarks
  refine Evolves.trans ?_ (evolves_countIf _ _ _)
  refine Evolves.trans ?_ ((evolves_countIf _ _ _).trans (evolves_raiseIf _ _ _))
  exact (evolves_countIf _ _ s).trans ((evolves_countIf _ _ _).trans (evolves_raiseIf _ _ _))

/-- A gap mark leaves the cleared depths as they are (R144). -/
theorem cleared_gapMark {m : CutMap} (h : m.wf) (cell : Option Nat) (n : Nat) :
    ((m.gapMark cell).read n).cleared = (m.read n).cleared := by
  cases cell with
  | none => rfl
  | some k =>
    by_cases hn : n = k
    · subst hn
      simp only [CutMap.gapMark, CutMap.read_write_self h]
    · simp only [CutMap.gapMark, CutMap.read_write_ne hn]

theorem evolves_markGap (sp : Setpoint) (behind : List Entry) (s : State) : Evolves a s (markGap sp behind s) := by
  unfold markGap
  split
  · refine .setMap (fun h => CutMap.wf_gapMark (CutMap.wf_gapMark h _) _) fun h _ n => ?_
    rw [cleared_gapMark (CutMap.wf_gapMark h _), cleared_gapMark h]
  · exact .refl a s

theorem evolves_issueEntry (tag : Byte) (sp : Setpoint) (s : State) : Evolves a s (issueEntry tag sp s) := by
  unfold issueEntry
  split
  case h_2 => exact .refl a s
  case h_1 e rest hposted =>
    refine Evolves.trans (t := s.setPq { s.pq with posted := rest, issued := s.pq.issued ++ [⟨e, tag, sp, false⟩] })
      (.setPq ?_) ((evolves_countMarks _ _).trans (.ite (evolves_markGap _ _ _) (.refl a _)))
    simp only [hposted, List.length_cons, List.length_append, List.length_nil]
    omega

theorem evolves_issue {s : State} (h : s.motion.outstanding.length < 2) (sp : Setpoint) : Evolves a s (issue sp s) := by
  have hsend : Evolves a s (s.setMotion { s.motion with
      outstanding := s.motion.outstanding ++ [⟨s.motion.nextTag, sp, s.rateOf sp⟩], nextTag := s.motion.nextTag + 1
      reference := some sp, refArrived := false }) := by
    refine .setMotion fun _ => ?_
    simp only [List.length_append, List.length_cons, List.length_nil]
    omega
  exact hsend.trans (.after (t := State.setGuard _ _) (.ite (evolves_issueEntry _ _ _) (.refl a _)) rfl)

theorem outstanding_lt_of_canIssue {s : State} {cutting : Bool} (h : s.canIssue cutting = true) :
    s.motion.outstanding.length < 2 := by
  simp only [State.canIssue, Bool.and_eq_true, decide_eq_true_eq] at h
  obtain ⟨⟨⟨-, hlt⟩, -⟩, -⟩ := h
  exact hlt

theorem evolves_issuePassed (s : State) : Evolves a s (issuePassed s) := by
  unfold issuePassed
  split
  case h_2 => exact .refl a s
  case h_1 sp _ =>
    split
    case isTrue hcan => exact evolves_issue (outstanding_lt_of_canIssue hcan) sp
    case isFalse => exact .refl a s

theorem evolves_checkAndIssue (sp : Setpoint) (s : State) : Evolves a s (checkAndIssue sp s) :=
  (evolves_beginCheck sp s).trans (evolves_issuePassed _)

theorem evolves_endDrain (s : State) : Evolves a s (endDrain s) :=
  .ite (.after (evolves_offerCredit _) rfl) (.refl a s)

theorem evolves_closingDone (c : ClosingLift) (s : State) : Evolves a s (closingDone c s) :=
  .after (t := spindleOff s) (.ite (evolves_endDrain _) (.refl a _)) rfl

theorem evolves_closingDue (c : ClosingLift) (s : State) : Evolves a s (closingDue c s) := .same rfl

theorem evolves_pumpClosing (s : State) : Evolves a s (pumpClosing s) := by
  unfold pumpClosing
  split
  · exact .refl a s
  · exact .ite (.after (evolves_closingDone _ _) rfl) (.ite (.after (evolves_checkAndIssue _ _) rfl) (.refl a s))

theorem evolves_pumpPortLift (s : State) : Evolves a s (pumpPortLift s) := by
  unfold pumpPortLift
  split
  · exact .refl a s
  · exact .ite (.after (evolves_checkAndIssue _ _) rfl) (.refl a s)

theorem evolves_pumpLifts (s : State) : Evolves a s (pumpLifts s) :=
  (evolves_pumpClosing s).trans (evolves_pumpPortLift _)

theorem evolves_pumpMoves (s : State) : Evolves a s (pumpMoves s) := by
  unfold pumpMoves
  split
  · exact .ite (.after (evolves_beginCheck _ _) rfl) (.refl a s)
  · exact .refl a s

theorem evolves_commandMove (sp : Setpoint) (s : State) : Evolves a s (commandMove sp s) :=
  .after (evolves_pumpMoves _) rfl

theorem evolves_pumpPort (s : State) : Evolves a s (pumpPort s) := (evolves_pumpLifts s).trans (evolves_pumpMoves _)

theorem evolves_driveFault (code : Byte) (s : State) : Evolves a s (driveFault code s) := by
  have hpull (u : State) : Evolves a u (u.setBus { u.bus with drivePull := true }) :=
    .setBus (fun h => h.congr rfl rfl rfl rfl) id id (fun _ => rfl) id
  have hfault (u : State) : Evolves a u (spindleOff (raise .driveFault (u.setBus { u.bus with drivePull := true }))) :=
    ((hpull u).trans (evolves_raise .driveFault _)).trans (evolves_spindleOff _)
  exact .after (t := s.setMotion _) (.ite (.refl a _) (.after (t := State.setMotion _ _) (hfault _) rfl)) rfl

end

end Sys2Proof.Machine

/-! SUPPORT. What every operation of the reports, the tracer, the carver, start-up and the wire keeps. -/

namespace Sys2Proof.Machine

open Sys2Proof

variable {a : Bool}

/-! ## Offers of general places -/

theorem evolves_fill {s : State} {k : Kind} (hroom : s.bus.hasRoom = true) (hk : k.isReport = false)
    (htrace : k = .trace → s.bus.tracesHeld < 4) (dest : Byte) (payload : List Byte) :
    Evolves a s (s.setBus (s.bus.fill k dest payload)) :=
  .setBus (fun h => h.fill_general hroom hk htrace) id id id id

theorem evolves_offerReply (dest : Nat) (payload : List Byte) (s : State) : Evolves a s (offerReply dest payload s) := by
  unfold offerReply
  split
  · exact evolves_fill ‹_› rfl (by simp) _ _
  · exact evolves_count _ _ s

theorem evolves_answerQuery (src : Nat) (query : List Byte) (s : State) : Evolves a s (answerQuery src query s) := by
  have hreach : (s.map.reach s.seed).cells = s.map.cells := by
    obtain ⟨-, h⟩ | ⟨-, h⟩ := s.map.reach_cases s.seed <;> rw [h]
  have hlook : Evolves a s (s.setMap (s.map.reach s.seed)) :=
    .same (by simp only [State.stock, State.setMap_map, hreach]; rfl)
  exact hlook.trans (.after (evolves_offerReply _ _ _) rfl)

theorem evolves_offerJoin (answer : Bool) (s : State) : Evolves a s (offerJoin answer s) := by
  unfold offerJoin
  split
  · exact (evolves_fill ‹_› rfl (by simp) _ _).trans (.same rfl)
  · exact .same rfl

/-! ## The head frame's attempt -/

theorem evolves_noteAttempt (k : Kind) (s : State) : Evolves a s (noteAttempt k s) := by
  unfold noteAttempt
  split
  · exact .same rfl
  · exact .same rfl
  · exact .refl a s

theorem evolves_contend (s : State) : Evolves a s (contend s) := by
  unfold contend
  split
  case h_2 => exact .refl a s
  case h_1 f rest hqueue =>
    split_ifs with hheld
    · exact .refl a s
    · have hsending : s.bus.sending = none := by
        simp only [Bool.or_eq_true, not_or, Bool.not_eq_true, Option.isSome_eq_false_iff, Option.isNone_iff_eq_none]
          at hheld
        exact hheld.2
      exact (Evolves.setBus (fun h => h.start hqueue hsending) id id id id).trans (.after (evolves_noteAttempt _ _) rfl)

/-! ## The Trace Generator -/

theorem evolves_beginFace (t : TracerJob) (k : Nat) (s : State) : Evolves a s (beginFace t k s) := .same rfl

theorem evolves_takeSample (r : JobRecord) (t : TracerJob) (probe : Option Probe) (s : State) :
    Evolves a s (takeSample r t probe s) := by
  unfold takeSample
  refine .after (t := s.setGen _) ?_ rfl
  split
  · exact .ite (.ite (.after (evolves_raise _ _) rfl) (.same rfl)) (.same rfl)
  · exact .same rfl

theorem evolves_nextPoint (r : JobRecord) (t : TracerJob) (s : State) : Evolves a s (nextPoint r t s) := by
  unfold nextPoint
  split
  · exact .ite (.after (evolves_commandMove _ _) rfl) (.after (evolves_takeSample r t none _) rfl)
  · exact .ite (.same rfl) (.same rfl)

theorem evolves_noteReport (r : ProbeReport) (s : State) : Evolves a s (noteReport r s) := .same rfl

theorem evolves_followReport (t : TracerJob) (r : ProbeReport) (s : State) : Evolves a s (followReport t r s) :=
  .same (by simp [State.stock])

theorem evolves_holdReport (t : TracerJob) (r : ProbeReport) (s : State) : Evolves a s (holdReport t r s) :=
  .same (by simp [State.stock])

theorem evolves_endFollowPass (t : TracerJob) (s : State) : Evolves a s (endFollowPass t s) :=
  .same (by simp [State.stock])

theorem evolves_holdLift (t : TracerJob) (s : State) : Evolves a s (holdLift t s) := by
  unfold holdLift
  dsimp only
  split
  · exact .after (evolves_raiseIf _ _ _) rfl
  · exact .ite (.after (evolves_raise _ _) rfl) (.refl a s)

theorem evolves_endHold (s : State) : Evolves a s (endHold s) := by
  unfold endHold
  split
  · exact .ite ((evolves_holdLift _ s).trans
      (.after (t := State.setGen _ _) (.ite (evolves_endFollowPass _ _) (.refl a _)) rfl)) (.refl a s)
  · exact .refl a s

theorem evolves_beginLive (r : JobRecord) (t : TracerJob) (p c : Nat) (s : State) :
    Evolves a s (beginLive r t p c s) := by
  unfold beginLive
  dsimp only
  split
  · exact .same rfl
  · exact .after (evolves_commandMove _ _) rfl

theorem evolves_buildReplay (c : Cursor) (s : State) : Evolves a s (buildReplay c s) := .same rfl

theorem evolves_orderPass (p c : Nat) (s : State) : Evolves a s (orderPass p c s) := by
  unfold orderPass
  dsimp only
  split
  · exact .ite (.after (evolves_buildReplay _ _) rfl) (.after (evolves_beginLive _ _ _ _ _) rfl)
  · exact .same rfl

/-! ## The Trace Store -/

theorem evolves_recordEmitted (t : TracerJob) (r : TraceRecord) (s : State) : Evolves a s (recordEmitted t r s) := by
  unfold recordEmitted
  split
  case h_1 => exact .ite (.setStore fun _ => ⟨by simp, by simp⟩) (.refl a s)
  case h_2 =>
    split
    · exact .refl a s
    · exact .setStore fun h => ⟨h.1, by simp⟩
    · split_ifs with hroom
      · exact .setStore fun _ => ⟨by simpa [storeLimit] using hroom, by simp [*]⟩
      · have hover : Evolves a s (s.setStore { s.store with state := .overflowed, records := [], cls := 0, faces := 0 }) :=
          .setStore fun _ => ⟨by simp, by simp⟩
        exact hover.trans (evolves_raise _ _)
  case h_3 => exact .refl a s
  case h_4 => exact .refl a s

/-! ## The Pacer -/

theorem evolves_offerFinish (s : State) : Evolves a s (offerFinish s) := by
  unfold offerFinish
  split_ifs with hroom
  · have hroom : s.bus.hasRoom = true := by
      simp only [Bool.and_eq_true] at hroom
      exact hroom.2
    exact (evolves_fill (k := .finish) hroom rfl (by simp) _ _).trans (.after (evolves_setStation .done _) rfl)
  · exact .same rfl

theorem evolves_decidePass (p : Nat) (s : State) : Evolves a s (decidePass p s) := by
  have hdone : Evolves a s (raise .jobDone (offerFinish s)) := (evolves_offerFinish s).trans (evolves_raise _ _)
  exact .ite hdone (.ite (hdone.trans (evolves_raise _ _)) (evolves_orderPass _ _ s))

theorem evolves_testCollection (s : State) : Evolves a s (testCollection s) :=
  .ite (.ite (.same rfl) (evolves_decidePass _ s)) (.refl a s)

theorem evolves_enterCollecting (r : JobRecord) (t : TracerJob) (s : State) : Evolves a s (enterCollecting r t s) := by
  unfold enterCollecting
  dsimp only
  refine Evolves.trans ?_ (evolves_testCollection _)
  split
  · exact .after (evolves_commandMove _ _) rfl
  · exact .same rfl

theorem evolves_enrolmentResult (s : State) : Evolves a s (enrolmentResult s) := by
  unfold enrolmentResult
  dsimp only
  split
  · refine .trans ?_ (evolves_setStation .armed _)
    exact .after (evolves_raise _ _) rfl
  · refine .trans ?_ (evolves_decidePass 0 _)
    exact .after (evolves_raiseIf _ _ _) rfl

theorem evolves_endEnrolment (s : State) : Evolves a s (endEnrolment s) := .ite (.same rfl) (evolves_enrolmentResult s)

theorem evolves_testEnrolment (s : State) : Evolves a s (testEnrolment s) :=
  .ite (evolves_endEnrolment s) (.refl a s)

theorem evolves_afterLive (j : JobRecord) (t : TracerJob) (r : TraceRecord) (s : State) :
    Evolves a s (afterLive j t r s) := by
  unfold afterLive
  split
  · exact evolves_enterCollecting j t s
  · split
    · exact evolves_beginFace t 0 s
    · exact evolves_endHold s
  · split
    · exact .ite (evolves_commandMove _ s) (evolves_nextPoint j t s)
    · exact evolves_endHold s

theorem evolves_afterReplay (j : JobRecord) (t : TracerJob) (c : Cursor) (s : State) :
    Evolves a s (afterReplay j t c s) := by
  unfold afterReplay
  split
  · exact evolves_buildReplay _ s
  · exact .after (evolves_enterCollecting j t _) rfl

/-- The gate is open only with room for a TRACE (R57, R81). -/
theorem hasTraceRoom_of_gateOpen {s : State} (h : s.gateOpen = true) : s.bus.hasTraceRoom = true := by
  simp only [State.gateOpen, Bool.and_eq_true] at h
  obtain ⟨⟨⟨-, hroom⟩, -⟩, -⟩ := h
  exact hroom

/-- The state with record r emitted and handed to the Store (R57, R58, R94), before what follows the emission. -/
def emittedState (t : TracerJob) (r : TraceRecord) (rest : List TraceRecord) (s : State) : State :=
  recordEmitted t r (((s.setGen { s.gen with due := rest }).setBus (s.bus.fill .trace 255 (tracePayload r))).setPacer
    { s.pacer with emitted := r.seq })

theorem emitHead_eq {s : State} {r : TraceRecord} {rest : List TraceRecord} {j : JobRecord} {t : TracerJob}
    (hdue : s.gen.due = r :: rest) (hj : s.job.record = some j) (ht : s.tracerJob = some t) :
    emitHead s = match (emittedState t r rest s).store.cursor with
      | some c => afterReplay j t c (emittedState t r rest s)
      | none => afterLive j t r (emittedState t r rest s) := by
  simp only [emitHead, hdue, hj, ht]
  rfl

theorem evolves_emitHead {s : State} (h : s.bus.hasTraceRoom = true) : Evolves a s (emitHead s) := by
  obtain ⟨hroom, htraces⟩ := Bus.hasTraceRoom_iff.1 h
  have hemitted (t : TracerJob) (r : TraceRecord) (rest : List TraceRecord) : Evolves a s (emittedState t r rest s) :=
    .trans (.setPacer (.after (evolves_fill (s := s.setGen { s.gen with due := rest }) (k := .trace) hroom rfl
      (fun _ => htraces) _ _) rfl) _) (evolves_recordEmitted t r _)
  cases hdue : s.gen.due with
  | nil => exact .same (by simp [emitHead, hdue])
  | cons r rest =>
    cases hj : s.job.record with
    | none => exact .same (by simp [emitHead, hj])
    | some j =>
      cases ht : s.tracerJob with
      | none => exact .same (by simp [emitHead, ht])
      | some t =>
        rw [emitHead_eq hdue hj ht]
        refine (hemitted t r rest).trans ?_
        split
        · exact evolves_afterReplay _ _ _ _
        · exact evolves_afterLive _ _ _ _

theorem evolves_dropEntry (k : Nat) (e : LagEntry) (s : State) : Evolves a s (dropEntry k e s) :=
  .after (evolves_raise _ _) rfl

theorem evolves_creditUpdate (e : LagEntry) (c : CreditReport) (s : State) : Evolves a s (creditUpdate e c s) :=
  .after (evolves_testCollection _) rfl

theorem evolves_creditFromEntry (e : LagEntry) (c : CreditReport) (s : State) : Evolves a s (creditFromEntry e c s) := by
  have hdrop (x : LagEntry) : Evolves a s (testCollection (dropEntry c.src x s)) :=
    (evolves_dropEntry _ _ s).trans (evolves_testCollection _)
  exact .ite (.same rfl) (.ite (evolves_creditUpdate e c s) (.ite (hdrop _) (hdrop _)))

theorem evolves_takeCredit (c : CreditReport) (s : State) : Evolves a s (takeCredit c s) := by
  unfold takeCredit
  split
  · exact .ite (.ite (.same rfl) (.refl a s)) (evolves_creditFromEntry _ c s)
  · exact .ite (.after (evolves_testEnrolment _) rfl) (.refl a s)

theorem evolves_removeCarver (k : Nat) (s : State) : Evolves a s (removeCarver k s) :=
  .after ((evolves_testEnrolment _).trans (evolves_testCollection _)) rfl

theorem evolves_rejoinNotice (k : Nat) (s : State) : Evolves a s (rejoinNotice k s) :=
  .ite (.after ((evolves_raise _ _).trans (evolves_testCollection _)) rfl) (.refl a s)

theorem evolves_placeFreed (s : State) : Evolves a s (placeFreed s) := by
  unfold placeFreed
  refine .ite (evolves_offerFinish s) ?_
  split
  case isTrue hgate => exact evolves_emitHead (hasTraceRoom_of_gateOpen hgate)
  case isFalse =>
    split
    · exact .ite (evolves_offerJoin _ s) (.refl a s)
    · exact .refl a s

/-! ## The Path Queue and the Pass Sequencer -/

theorem evolves_noteGap (d : Nat) (s : State) : Evolves a s (noteGap d s) :=
  .ite (.refl a s) ((evolves_count _ _ s).trans (evolves_raise _ _))

theorem evolves_overrun (s : State) : Evolves a s (overrun s) := (evolves_count _ _ s).trans (evolves_raise _ _)

theorem evolves_post {s : State} {l : List Entry} {q : PathQueue} (h : l.length ≤ s.pq.free)
    (hq : q.free = (s.pq.post l).free ∧ q.posted = (s.pq.post l).posted ∧ q.issued = (s.pq.post l).issued) :
    Evolves a s (s.setPq q) := by
  obtain ⟨hfree, hposted, hissued⟩ := hq
  refine .setPq ?_
  simp only [hfree, hposted, hissued, PathQueue.post, List.length_append]
  omega

theorem evolves_intakeAt (r : TraceRecord) (d : Nat) (s : State) : Evolves a s (intakeAt r d s) := by
  unfold intakeAt
  dsimp only
  split <;> split_ifs with hfree
  · exact evolves_overrun s
  · refine Evolves.trans ?_ (evolves_noteGap d _)
    exact evolves_post (not_lt.1 hfree) ⟨rfl, rfl, rfl⟩
  · exact evolves_overrun s
  · refine Evolves.trans ?_ ((evolves_noteGap d _).trans (evolves_count _ _ _))
    exact evolves_post (not_lt.1 hfree) ⟨rfl, rfl, rfl⟩

theorem evolves_intake (r : TraceRecord) (s : State) : Evolves a s (intake r s) :=
  .ite (evolves_intakeAt r _ s) (evolves_count _ _ s)

theorem evolves_testDrain (s : State) : Evolves a s (testDrain s) := .ite (evolves_closingDue _ s) (.refl a s)

theorem evolves_emptyQueue (s : State) : Evolves a s (emptyQueue s) := by
  refine .setPq ?_
  simp only [PathQueue.emptied, List.length_nil, List.length_map]
  omega

theorem evolves_releaseIssued (s : State) : Evolves a s (releaseIssued s) := by
  refine .setPq ?_
  simp only [PathQueue.releaseIssued, List.length_nil]
  omega

/-- A sweep abandoned lowers no cleared depth (R145, R147). -/
theorem cleared_le_abandonSweep {m : CutMap} (h : m.wf) (n : Nat) :
    (m.read n).cleared ≤ (m.abandonSweep.read n).cleared := by
  by_cases hs : m.sweeping = true
  · rw [CutMap.read_abandonSweep h hs]
    split
    · exact Cell.cleared_le_sweep _
    · exact le_rfl
  · rw [CutMap.abandonSweep, if_neg hs]

theorem evolves_dropClose (s : State) : Evolves a s (dropClose s) := by
  have hreach (n : Nat) : ((s.map.reach s.seed).read n) = s.map.read n := by
    obtain ⟨-, h⟩ | ⟨-, h⟩ := s.map.reach_cases s.seed <;> rw [h]
    rfl
  have hmap : Evolves a s (s.setMap (s.map.reach s.seed).abandonSweep) := by
    refine .setMap (fun h => CutMap.wf_abandonSweep (CutMap.wf_reach h _)) fun h _ n => ?_
    rw [← hreach]
    exact cleared_le_abandonSweep (CutMap.wf_reach h _) n
  have hsweep : Evolves a s
      (if s.map.sweeping then (s.setMap (s.map.reach s.seed).abandonSweep).setSeed (s.seed + 1) else s) :=
    .ite (hmap.trans (.same rfl)) (.refl a s)
  exact hsweep.trans (.same rfl)

theorem evolves_sweepIfAwaited (s : State) : Evolves a s (sweepIfAwaited s) := .ite (.same rfl) (.refl a s)

theorem evolves_completeHead (s : State) : Evolves a s (completeHead s) := by
  unfold completeHead
  split
  case h_2 => exact .refl a s
  case h_1 e rest hposted =>
    refine Evolves.trans (.setPq ?_) (evolves_offerOnGrowth _)
    simp only [hposted, List.length_cons]
    omega

theorem evolves_completeMarker (e : Entry) (s : State) : Evolves a s (completeMarker e s) :=
  .after (((evolves_completeHead _).trans (evolves_offerCredit _)).trans (evolves_testDrain _)) rfl

theorem evolves_openPass (e : Entry) (s : State) : Evolves a s (openPass e s) := by
  unfold openPass
  split
  · exact .after ((evolves_completeHead _).trans (evolves_testDrain _)) rfl
  · exact .refl a s

theorem evolves_closePass (e : Entry) (s : State) : Evolves a s (closePass e s) := .after (evolves_sweepIfAwaited _) rfl

theorem evolves_completeResting (e : Entry) (s : State) : Evolves a s (completeResting e s) := by
  unfold completeResting
  split
  · exact .after ((evolves_completeHead _).trans (evolves_testDrain _)) rfl
  · exact evolves_completeMarker e s
  · exact .after (evolves_completeMarker e _) rfl
  · have hbroken : Evolves a s (if s.seq.openPass.isSome then
        s.setSeq { s.seq with running := { s.seq.running with broken := true } } else s) :=
      .ite (.same rfl) (.refl a s)
    exact (hbroken.trans (evolves_completeHead _)).trans (evolves_testDrain _)
  · exact (evolves_completeHead s).trans (evolves_testDrain _)

theorem evolves_decideStep (s : State) : Evolves a s (decideStep s) := .same (by simp [State.stock])

theorem evolves_handSetpoint (e : Entry) (s : State) : Evolves a s (handSetpoint e s) := by
  unfold handSetpoint
  split
  · exact evolves_beginCheck _ s
  · exact .refl a s

theorem evolves_handHead (e : Entry) (s : State) : Evolves a s (handHead e s) := by
  unfold handHead
  refine .ite (.ite (evolves_completeResting e s) (.refl a s)) ?_
  split
  · exact .ite (evolves_openPass e s) (.refl a s)
  · exact evolves_closePass e s
  · exact evolves_closePass e s
  · exact .ite (evolves_handSetpoint e s) (.refl a s)

/-- An arrival lowers no cleared depth (R143). -/
theorem cleared_arrive {m : CutMap} (h : m.wf) (sp : Setpoint) (n : Nat) :
    ((m.arrive sp).read n).cleared = (m.read n).cleared := by
  unfold CutMap.arrive
  split
  case isFalse => rfl
  case isTrue =>
    split
    case h_2 => rfl
    case h_1 k _ =>
      by_cases hn : n = k
      · subst hn
        rw [CutMap.read_write_self h]
        rfl
      · rw [CutMap.read_write_ne hn]

theorem evolves_arriveEntry (tag : Byte) (s : State) : Evolves a s (arriveEntry tag s) := by
  unfold arriveEntry
  split
  case h_2 => exact .refl a s
  case h_1 i rest hissued =>
    have hfreed (q : PathQueue) (hq : q.free = s.pq.free + 1 ∧ q.posted = s.pq.posted ∧ q.issued = rest) :
        Evolves a s (s.setPq q) := by
      obtain ⟨hfree, hposted, hrest⟩ := hq
      refine .setPq ?_
      simp only [hissued, hfree, hposted, hrest, List.length_cons]
      omega
    have harrive (u : State) : Evolves a u (u.setMap (u.map.arrive i.sp)) :=
      .setMap (fun h => CutMap.wf_arrive h _) fun h _ n => (cleared_arrive h _ n).ge
    have hfollow (u : State) : Evolves a u (testDrain (offerOnGrowth (sweepIfAwaited u))) :=
      ((evolves_sweepIfAwaited u).trans (evolves_offerOnGrowth _)).trans (evolves_testDrain _)
    have hcomplete : Evolves a s ((s.setPq { s.pq with
        issued := rest, free := s.pq.free + 1, released := i.entry.release }).setSeq (s.seq.tally i.entry i.sp)) :=
      hfreed { s.pq with issued := rest, free := s.pq.free + 1, released := i.entry.release } ⟨rfl, rfl, rfl⟩
    exact .ite (.ite (hfreed _ ⟨rfl, rfl, rfl⟩) ((hcomplete.trans (harrive _)).trans (hfollow _))) (.refl a s)

/-! ## Start-up -/

theorem evolves_writeOwnEntry (code : Nat) (s : State) : Evolves a s (writeOwnEntry code s) :=
  .setRoster (by simp)

theorem evolves_offerPendingAlert (s : State) : Evolves a s (offerPendingAlert s) :=
  .ite (evolves_offerReport rfl 255 s) (.refl a s)

theorem evolves_readStandingFault (s : State) : Evolves a s (readStandingFault s) := by
  unfold readStandingFault
  split
  · exact evolves_driveFault _ s
  · exact .refl a s

theorem evolves_setPhase (p : RxPhase) (s : State) : Evolves a s (setPhase p s) :=
  .setBus_aside ⟨rfl, rfl, rfl, rfl, rfl, rfl, rfl⟩

theorem evolves_endStarting (result : Nat) (s : State) : Evolves a s (endStarting result s) := by
  unfold endStarting
  refine .trans ?_ (evolves_readStandingFault _)
  refine .trans ?_ (evolves_offerJoin false _)
  refine .trans ?_ (evolves_offerReach _)
  refine .setGuard (.trans ?_ (evolves_lookUpNeighbours _)) _
  refine .trans ?_ (evolves_offerPendingAlert _)
  refine .trans ?_ (evolves_setPhase .waitIdle _)
  refine .trans ?_ (evolves_raiseIf _ _ _)
  exact .trans (.after (evolves_writeOwnEntry result _) rfl) (evolves_setStation _ _)

theorem evolves_leaveReset (p : Straps) (s : State) : Evolves a s (leaveReset p s) := by
  unfold leaveReset
  refine .after (t := s.setStraps p) ((evolves_writeOwnEntry 0 _).trans ?_) rfl
  exact .after (t := State.setJob _ _) (.ite (.same rfl) (evolves_endStarting 0 _)) rfl

theorem evolves_memoryTested (code : Nat) (passed : Bool) (s : State) : Evolves a s (memoryTested code passed s) := by
  have hleave : Evolves a s (leaveFailed code s) := .ite (.same rfl) (.refl a s)
  exact .ite (.ite (.same rfl) (evolves_endStarting 0 s)) (hleave.trans (evolves_endStarting code _))

/-! ## The wire -/

theorem evolves_countBadFrame (s : State) : Evolves a s (countBadFrame s) := evolves_count _ _ s

theorem evolves_setHold (b : Bool) (s : State) : Evolves a s (setHold b s) :=
  .setBus_aside ⟨rfl, rfl, rfl, rfl, rfl, rfl, rfl⟩

theorem evolves_startHold (s : State) : Evolves a s (startHold s) := evolves_setHold _ s

theorem evolves_endHoldAtStart (s : State) : Evolves a s (endHoldAtStart s) := .ite (evolves_setHold _ s) (.refl a s)

theorem evolves_clearAck (s : State) : Evolves a s (clearAck s) := .setBus_aside ⟨rfl, rfl, rfl, rfl, rfl, rfl, rfl⟩

theorem evolves_attemptLost (k : Kind) (s : State) : Evolves a s (attemptLost k s) := by
  unfold attemptLost
  split
  · exact .same rfl
  · exact .same rfl
  · exact .refl a s

theorem evolves_loseAttempt (t : Sending) (s : State) : Evolves a s (loseAttempt t s) := by
  have hreturn : Evolves a s (s.setBus s.bus.returnFrame) := by
    refine .setBus (·.returnFrame) ?_ ?_ ?_ ?_ <;> simp
  exact hreturn.trans (evolves_attemptLost _ _)

theorem sending_returnFrame (b : Bus) : b.returnFrame.sending = none := by
  unfold Bus.returnFrame
  split
  · rfl
  · assumption

theorem sending_loseAttempt (t : Sending) (s : State) : (loseAttempt t s).bus.sending = none := by
  simp [loseAttempt, sending_returnFrame]

theorem evolves_failTransmit (t : Sending) (s : State) : Evolves a s (failTransmit t s) := by
  have hfailed (u : State) : Evolves a u (u.setBus { u.bus with failures := u.bus.failures + 1 }) :=
    .setBus_aside ⟨rfl, rfl, rfl, rfl, rfl, rfl, rfl⟩
  have hmute (u : State) (hu : u.bus.sending = none) : Evolves a u (enterMute u) :=
    .trans (.setBus (fun h => h.silence hu) id (fun _ => rfl) id id) (evolves_raise .busMute _)
  refine (evolves_loseAttempt t s).trans ((evolves_startHold _).trans ?_)
  exact ((hfailed _).trans (evolves_count _ _ _)).trans (.ite (.refl a _) (hmute _ (sending_loseAttempt t s)))

theorem evolves_echoMismatch (t : Sending) (s : State) : Evolves a s (echoMismatch t s) :=
  ((evolves_failTransmit t s).trans (evolves_setPhase _ _)).trans (evolves_countBadFrame _)

theorem evolves_frameLeft (t : Sending) (heard : Bool) (s : State) : Evolves a s (frameLeft t heard s) := by
  have htrace (payload : List Byte) : Evolves a s (traceSent payload s) := .ite (.same rfl) (.refl a s)
  unfold frameLeft
  split
  · exact .same rfl
  · exact .refl a s
  · exact .same rfl
  · exact (htrace _).trans (evolves_placeFreed _)
  · exact evolves_placeFreed s

theorem evolves_endTransmit (t : Sending) (heard : Bool) (s : State) : Evolves a s (endTransmit t heard s) := by
  have hdrop (u : State) : Evolves a u (u.setBus { u.bus.dropFrame with failures := 0 }) := by
    refine .setBus (fun h => h.dropFrame.congr rfl rfl rfl rfl) ?_ ?_ ?_ ?_ <;> simp
  unfold endTransmit
  refine (evolves_setPhase .waitIdle s).trans ((evolves_startHold _).trans ((hdrop _).trans ?_))
  exact (evolves_countIf _ _ _).trans (evolves_frameLeft t heard _)

theorem evolves_accept {f : Frame} {s : State} (h : s.bus.rx.length < 4) : Evolves a s (accept f s) := by
  have hack : Evolves a s (s.setBus { s.bus with ack := !s.bus.mute }) :=
    .setBus_aside ⟨rfl, rfl, rfl, rfl, rfl, rfl, rfl⟩
  refine hack.trans (.ite (.setBus_aside ⟨rfl, rfl, rfl, rfl, rfl, rfl, rfl⟩)
    (.setBus (fun h => h.congr rfl rfl rfl rfl) (fun _ => ?_) id id id))
  simpa using h

theorem evolves_settle (bytes : List Byte) (s : State) : Evolves a s (settle bytes s) := by
  unfold settle
  split
  · exact evolves_countBadFrame s
  · refine .ite ?_ (.refl a s)
    split
    · exact evolves_accept ‹_›
    · exact evolves_count _ _ s

theorem evolves_receive (bytes : List Byte) (s : State) : Evolves a s (receive bytes s) := by
  unfold receive
  refine (evolves_clearAck s).trans ?_
  dsimp only
  split
  · unfold readBack
    split
    · exact evolves_echoMismatch _ _
    · exact evolves_countIf _ _ _
  · exact ((evolves_endHoldAtStart _).trans (evolves_setPhase _ _)).trans (evolves_settle bytes _)

end Sys2Proof.Machine

/-! SUPPORT. What every operation on jobs, frames taken, timers and drives keeps, and with it every command and every step. -/

namespace Sys2Proof.Machine

open Sys2Proof

variable {a : Bool}

/-! ## The Job Store -/

/-- Arming puts a role's blocks at their start of job, and so may lower cleared depths (R46). -/
theorem evolves_arm (r : JobRecord) (s : State) : Evolves true s (arm r s) := by
  have hpq (u : State) : Evolves true u (u.setPq PathQueue.afterReset) := .setPq fun _ => rfl
  have hmap (u : State) : Evolves true u (u.setMap CutMap.afterReset) := .setMap (fun _ => wf_afterReset) (by simp)
  have hstore (u : State) : Evolves true u (u.setStore TraceStore.afterReset) :=
    .setStore fun _ => ⟨by simp [TraceStore.afterReset], fun _ => rfl⟩
  unfold arm
  dsimp only
  refine .trans ?_ (evolves_followClaim _)
  refine .trans ?_ (evolves_setStation .armed _)
  split
  · have hcarver (c : CarverJob) (u : State) : Evolves true u (armCarver c u) := by
      unfold armCarver
      refine .trans ((hpq u).trans (hmap _)) ?_
      split <;> exact .same rfl
    refine .trans ?_ (show Evolves true _ (armMotion _) from .same rfl)
    exact .trans (.setJob (.refl true s) _) (hcarver _ _)
  · exact .trans (.setPacer (.setJob (.refl true s) _) _) (.trans (hstore _) (.same rfl))

theorem evolves_refuse (id : Nat) (code : JobCode) (index : Nat) (s : State) : Evolves a s (refuse id code index s) :=
  .after (evolves_raise _ _) rfl

theorem evolves_dropAssembly (s : State) : Evolves a s (dropAssembly s) := .same (by simp [State.stock])

theorem evolves_refuse_dropAssembly (id : Nat) (code : JobCode) (index : Nat) (s : State) :
    Evolves a s (refuse id code index (dropAssembly s)) :=
  (evolves_dropAssembly s).trans (evolves_refuse _ _ _ _)

theorem evolves_keepAssembly (x : Assembly) (more : Bool) (s : State) : Evolves true s (keepAssembly x more s) := by
  have hend (u : State) : Evolves true u (endAssembly x u) := by
    unfold endAssembly
    refine .ite ?_ (evolves_refuse_dropAssembly _ _ _ u)
    split
    · exact evolves_arm _ u
    · exact evolves_refuse_dropAssembly _ _ _ u
  have hloading : Evolves true s (spindleOff (setStation .loading (s.setJob { s.job with assembly := some x }))) :=
    .same rfl
  exact hloading.trans (.ite (.refl true _) (hend _))

theorem evolves_startAssembly (g : Segment) (s : State) : Evolves true s (startAssembly g s) := by
  unfold startAssembly
  split
  · exact evolves_refuse_dropAssembly _ _ _ s
  · exact evolves_keepAssembly _ _ s

theorem evolves_continueAssembly (x : Assembly) (g : Segment) (s : State) : Evolves true s (continueAssembly x g s) :=
  .ite (.ite (evolves_keepAssembly _ _ s) (evolves_refuse_dropAssembly _ _ _ s)) (evolves_refuse_dropAssembly _ _ _ s)

theorem evolves_takeSegment (g : Segment) (s : State) : Evolves true s (takeSegment g s) := by
  have hfirst : Evolves true s (if g.first then startAssembly g s else refuse g.jobId .order g.index s) :=
    .ite (evolves_startAssembly g s) (evolves_refuse _ _ _ s)
  have hbusy : Evolves true s (refuse g.jobId .busy g.index s) := evolves_refuse _ _ _ s
  unfold takeSegment
  split
  case h_4 =>
    refine .ite (evolves_startAssembly g s) ?_
    split
    · exact evolves_continueAssembly _ g s
    · exact .refl true s
  case h_1 | h_2 | h_3 => exact hfirst
  case h_11 | h_12 => exact .refl true s
  all_goals exact hbusy

theorem evolves_takeJob (f : Frame) (s : State) : Evolves true s (takeJob f s) :=
  .ite (.refl true s) (evolves_takeSegment _ s)

/-! ## Frames taken -/

/-- A frame taken frees its place of the buffer (R11). -/
theorem evolves_takeFrame {k : Kind} {act : Frame → State → State}
    (hact : ∀ (f : Frame) (u : State), Evolves a u (act f u)) (s : State) : Evolves a s (takeFrame k act s) := by
  unfold takeFrame
  split
  case h_2 => exact .refl a s
  case h_1 f rest hrx =>
    have htake : Evolves a s (s.setBus { s.bus with rx := rest }) := by
      refine .setBus (fun h => h.congr rfl rfl rfl rfl) (fun h => ?_) id id id
      simp only [hrx, List.length_cons] at h
      exact (Nat.le_succ _).trans h
    exact .ite (htake.trans (hact f _)) (.refl a s)

theorem evolves_answerJoin (s : State) : Evolves a s (answerJoin s) := .ite (.refl a s) (evolves_offerJoin true s)

theorem evolves_acceptJoin (k : Nat) (p : Peer) (answer : Bool) (s : State) : Evolves a s (acceptJoin k p answer s) := by
  have hwrite : Evolves a s (s.setRoster (s.roster.write k p)) := .setRoster (by simp [Roster.write])
  unfold acceptJoin
  refine .trans ?_ (.ite (evolves_joinNotice k _) (.refl a _))
  refine .trans ?_ (.ite (evolves_rejoinNotice k _) (.refl a _))
  exact hwrite.trans (.ite (.refl a _) (evolves_answerJoin _))

theorem evolves_takeJoin (f : Frame) (s : State) : Evolves a s (takeJoin f s) := by
  unfold takeJoin
  split
  · exact .ite (evolves_raise _ s) (evolves_acceptJoin _ _ _ s)
  · exact .refl a s

theorem evolves_startJob (s : State) : Evolves a s (startJob s) := by
  have hbegin : Evolves a s ((setStation .running (abandonCheck s)).setMotion
      { (setStation .running (abandonCheck s)).motion with portLift := some .jobStart }) :=
    (evolves_abandonCheck s).trans (.same rfl)
  unfold startJob
  refine hbegin.trans ?_
  dsimp only
  split
  · exact ((evolves_spindleOn _).trans (evolves_offerCredit _)).trans (evolves_pumpPort _)
  · exact .after (t := startEnrolment _) ((evolves_pumpPort _).trans (evolves_testEnrolment _)) rfl

theorem evolves_takeStart (f : Frame) (s : State) : Evolves a s (takeStart f s) :=
  .ite (evolves_startJob s) (evolves_strayControl s)

theorem evolves_endWork (s : State) : Evolves a s (endWork s) :=
  ((evolves_emptyQueue s).trans (evolves_dropClose _)).trans (evolves_abandonCheck _)

theorem evolves_endStream (s : State) : Evolves a s (endStream s) := by
  have hwithdraw (u : State) : Evolves a u (u.setBus u.bus.withdrawTraces) := by
    refine .setBus (·.withdrawTraces) ?_ ?_ ?_ ?_ <;> simp
  unfold endStream
  exact .trans (.setPacer (.setGen (.refl a s) _) _) ((hwithdraw _).trans (.after (evolves_abandonCheck _) rfl))

theorem evolves_endTracing (s : State) : Evolves a s (endTracing s) :=
  .trans (.setStore fun _ => ⟨by simp [TraceStore.afterReset], fun _ => rfl⟩) (evolves_endStream _)

theorem evolves_discardJob (s : State) : Evolves a s (discardJob s) := .same rfl

theorem evolves_abortCarver (c : CarverJob) (s : State) : Evolves a s (abortCarver c s) := by
  unfold abortCarver
  refine .trans ?_ (evolves_pumpPort _)
  refine .trans ?_ (.ite (.refl a _) (evolves_offerCreditTo _ _))
  refine .trans ?_ (.ite (.refl a _) (evolves_closingDue _ _))
  exact (evolves_discardJob s).trans (evolves_endWork _)

theorem evolves_abortTracer (s : State) : Evolves a s (abortTracer s) := by
  unfold abortTracer
  refine .trans ?_ (evolves_placeFreed _)
  refine .trans ?_ (evolves_pumpPort _)
  refine .trans ?_ (.ite (.refl a _) (evolves_closingDue _ _))
  exact (evolves_discardJob s).trans (evolves_endTracing _)

theorem evolves_abortLoading (s : State) : Evolves a s (abortLoading s) := by
  unfold abortLoading
  dsimp only
  split
  · refine .trans ?_ (evolves_placeFreed _)
    exact .after (evolves_endStream _) rfl
  · exact (evolves_discardJob s).trans (evolves_abandonCheck _)

theorem evolves_abortJob (s : State) : Evolves a s (abortJob s) := by
  unfold abortJob
  refine .ite (evolves_abortLoading s) ?_
  split
  · exact evolves_abortCarver _ s
  · exact evolves_abortTracer s

theorem evolves_takeAbort (f : Frame) (s : State) : Evolves a s (takeAbort f s) :=
  .ite (evolves_abortJob s) (evolves_strayControl s)

theorem evolves_tracerExcuse (f : Frame) (s : State) : Evolves a s (tracerExcuse f s) := by
  unfold tracerExcuse
  split
  · exact .ite (.after (t := State.setJob _ _) (.ite (evolves_removeCarver _ _) (.refl a _)) rfl) (evolves_strayControl s)
  · exact evolves_strayControl s

theorem evolves_becomeExcused (s : State) : Evolves a s (becomeExcused s) := by
  have hexcused : Evolves a s (setStation .excused (s.setJob { s.job with finishing := false })) := .same rfl
  unfold becomeExcused
  refine .trans ?_ ((evolves_offerCredit _).trans (evolves_pumpPort _))
  refine .trans ?_ (.ite (evolves_closingDue _ _) (.refl a _))
  exact hexcused.trans (.ite (.refl a _) (evolves_endWork _))

theorem evolves_carverExcuse (f : Frame) (s : State) : Evolves a s (carverExcuse f s) :=
  .ite (.ite (evolves_becomeExcused s) (.ite (.refl a s) (evolves_strayControl s))) (.refl a s)

theorem evolves_takeExcuse (f : Frame) (s : State) : Evolves a s (takeExcuse f s) := by
  unfold takeExcuse
  split
  · exact evolves_tracerExcuse f s
  · exact evolves_carverExcuse f s

theorem evolves_resumeCarver (s : State) : Evolves a s (resumeCarver s) :=
  (evolves_spindleOn s).trans (.after (evolves_pumpPort _) rfl)

theorem evolves_reachHeld (s : State) : Evolves a s (reachHeld s) := by
  unfold reachHeld
  split
  · exact evolves_enrolmentResult s
  · exact .after (evolves_decidePass _ _) rfl
  · exact .refl a s

theorem evolves_resumeTracer (s : State) : Evolves a s (resumeTracer s) := by
  have hfinish (u : State) : Evolves a u (offerHeldFinish u) := .ite (evolves_offerFinish u) (.refl a u)
  unfold resumeTracer
  refine .trans ?_ (((evolves_endHold _).trans (hfinish _)).trans (evolves_reachHeld _))
  refine .trans ?_ (evolves_raiseIf _ _ _)
  exact .after (evolves_pumpPort _) rfl

theorem evolves_resumeJob (s : State) : Evolves a s (resumeJob s) := by
  unfold resumeJob
  refine (evolves_setStation _ s).trans ((evolves_offerCredit _).trans (.ite ?_ (.refl a _)))
  split
  · exact evolves_resumeCarver _
  · exact evolves_resumeTracer _

theorem evolves_takeResume (f : Frame) (s : State) : Evolves a s (takeResume f s) :=
  .ite (.ite (.ite (evolves_raise _ s) (evolves_resumeJob s)) (evolves_strayControl s)) (.refl a s)

theorem evolves_takeFinish (f : Frame) (s : State) : Evolves a s (takeFinish f s) := by
  have hdrain : Evolves a s (beginDrain s) :=
    .ite (.refl a s) (.after ((evolves_testDrain _).trans (evolves_pumpPort _)) rfl)
  exact .ite hdrain (.ite (.refl a s) (evolves_strayControl s))

theorem evolves_creditFrame (f : Frame) (s : State) : Evolves a s (creditFrame f s) :=
  .ite (evolves_takeCredit _ s) (.refl a s)

theorem evolves_traceFrame (f : Frame) (s : State) : Evolves a s (traceFrame f s) := by
  unfold traceFrame
  refine .ite (.refl a s) ?_
  split
  · exact .ite (evolves_intake _ s) (evolves_count _ _ s)
  · exact evolves_count _ _ s

theorem evolves_reachFrom (side : Side) (v : Seen) (s : State) : Evolves a s (reachFrom side v s) := by
  unfold reachFrom
  refine .trans (.trans (.setGuard (.refl a s) _) (.ite ?_ (.refl a _))) (evolves_testBreach side _)
  split
  · exact evolves_settleOnReach v _
  · exact evolves_runCheck _
  · exact .refl a _

theorem evolves_takeReach (f : Frame) (s : State) : Evolves a s (takeReach f s) := by
  unfold takeReach
  refine .ite (evolves_raise _ s) ?_
  split
  · exact .ite (evolves_reachFrom _ _ s) (.refl a s)
  · exact .refl a s

theorem evolves_takeQuery (f : Frame) (s : State) : Evolves a s (takeQuery f s) :=
  .ite (.refl a s) (evolves_answerQuery _ _ s)

/-! ## Timers -/

theorem evolves_viewStale (side : Side) (station : Option Nat) (h : Heard) (s : State) :
    Evolves a s (viewStale side station h s) :=
  .after (t := State.setGuard _ _) ((evolves_raise _ _).trans (.ite (evolves_enterWait side _) (.refl a _))) rfl

theorem evolves_fallSilent (k : Nat) (e : LagEntry) (s : State) : Evolves a s (fallSilent k e s) :=
  .after (evolves_raiseIf _ _ _) rfl

theorem evolves_relieve (o : Override) (s : State) : Evolves a s (relieve o s) :=
  .after ((evolves_count _ _ _).trans (evolves_raise _ _)) rfl

theorem evolves_stallCarver (s : State) : Evolves a s (stallCarver s) := by
  unfold stallCarver
  refine .trans ?_ (.trans (.trans (evolves_closingDue _ _) (evolves_offerCredit _)) (evolves_pumpPort _))
  have hsuspend (u : State) : Evolves a u (setStation .suspended (u.setJob { u.job with finishing := false })) := .same rfl
  refine .trans ?_ ((hsuspend _).trans (evolves_endWork _))
  exact (evolves_raise .spindleStall s).trans (evolves_spindleOff _)

/-! ## The tracer's and the carver's own events -/

theorem evolves_passReport (t : TracerJob) (r : ProbeReport) (s : State) : Evolves a s (passReport t r s) :=
  (evolves_raiseIf _ _ s).trans
    (.trans (.ite (evolves_holdReport t r _) (evolves_followReport t r _)) (evolves_noteReport r _))

theorem evolves_endSweep (s : State) : Evolves a s (s.setMap s.map.endSweep) := by
  refine .setMap CutMap.wf_endSweep fun h _ n => ?_
  rw [CutMap.read_endSweep h]
  exact Cell.cleared_le_sweep _

theorem evolves_closeSweep (e : Entry) (s : State) : Evolves a s (closeSweep e s) :=
  (evolves_endSweep s).trans
    (((evolves_decideStep _).trans (evolves_completeMarker e _)).trans (evolves_pumpLifts _))

/-! ## The drives -/

theorem evolves_moveArrived (m : Move) (probe : Probe) (s : State) : Evolves a s (moveArrived m probe s) := by
  unfold moveArrived
  split
  · split
    · exact .ite (evolves_takeSample _ _ _ s) (.refl a s)
    · exact .refl a s
  · split
    · exact .ite (evolves_takeSample _ _ _ s) (.refl a s)
    · exact .refl a s
  · exact .same rfl
  · exact .refl a s

theorem evolves_handArrival (o : Outstanding) (probe : Probe) (s : State) : Evolves a s (handArrival o probe s) := by
  unfold handArrival
  split
  · exact evolves_arriveEntry _ s
  · exact .refl a s
  · exact .ite (.after (t := spindleOff s) (evolves_endDrain _) rfl) (.refl a s)
  · exact evolves_closingDone _ s
  · exact evolves_moveArrived _ _ s

theorem evolves_arriveOne {o : Outstanding} {rest : List Outstanding} {s : State}
    (h : rest.length ≤ s.motion.outstanding.length) (probe : Probe) : Evolves a s (arriveOne o rest probe s) := by
  have hleave : Evolves a s (s.setMotion { s.motion with outstanding := rest, refArrived := rest.isEmpty }) :=
    .setMotion h.trans
  exact hleave.trans ((evolves_handArrival o probe _).trans (evolves_shrinkClaim _))

theorem evolves_arriveTag (tag : Byte) (probe : Probe) (s : State) : Evolves a s (arriveTag tag probe s) := by
  have hleft (o : Outstanding) (rest : List Outstanding) : (arriveOne o rest probe s).motion.outstanding = rest := by
    simp [arriveOne]
  unfold arriveTag
  split
  case h_2 => exact .refl a s
  case h_1 o rest hout =>
    have hone : Evolves a s (arriveOne o rest probe s) := evolves_arriveOne (by simp [hout]) probe
    refine .ite hone ?_
    split
    · exact .ite (hone.trans (evolves_arriveOne (by simp [hleft]) probe)) (.refl a s)
    · exact .refl a s

theorem evolves_releaseAbandoned (s : State) : Evolves a s (releaseAbandoned s) :=
  .ite (evolves_releaseIssued s) (.refl a s)

theorem evolves_senseLow (s : State) : Evolves a s (senseLow s) :=
  have hlow (u : State) : Evolves a u (u.setBus { u.bus with sensedLow := true, filter := 0 }) :=
    .setBus_aside ⟨rfl, rfl, rfl, rfl, rfl, rfl, rfl⟩
  .after (t := s.setInputs _) ((hlow _).trans (evolves_raise _ _)) rfl

theorem evolves_stopInPlace (s : State) : Evolves a s (stopInPlace s) :=
  .trans (.setMotion fun _ => by simp) (evolves_abandonCheck _)

theorem evolves_enterStopped (s : State) : Evolves a s (enterStopped s) := by
  have hreturned (u : State) : Evolves a u (u.setPq u.pq.returned) := by
    refine .setPq ?_
    simp only [PathQueue.returned, List.length_append, List.length_map, List.length_nil]
    omega
  have hnone : Evolves a s (s.setMotion { s.motion with
      outstanding := [], closing := none, held := s.unarrivedMoves, waiting := [] }) := .setMotion fun _ => by simp
  unfold enterStopped
  have hstopped (u : State) : Evolves a u (setStation .stopped (u.setJob { u.job with remembered := u.job.state })) :=
    .same rfl
  refine .trans ?_ ((hstopped _).trans (evolves_offerCredit _))
  exact (hnone.trans (.setSeq (hreturned _) _)).trans (evolves_abandonCheck _)

theorem evolves_stopPort (s : State) : Evolves a s (stopPort s) := by
  have hstop : Evolves a s (stopDrives s) := .same rfl
  unfold stopPort
  split
  · exact .refl a s
  · exact hstop.trans (evolves_enterStopped _)
  · exact hstop.trans (evolves_enterStopped _)
  · exact hstop.trans (evolves_stopInPlace _)

end Sys2Proof.Machine

/-! SUPPORT. What every command and every step keeps: the form of the transmit queue, the buffers' bounds, and what stands until
it is undone. -/

namespace Sys2Proof.Machine

open Sys2Proof

section

variable {a : Bool} {s t : State} {c : Instr}

theorem Evolves.of_next {u : State} (h : (.next u : Result) = .next t) (hu : Evolves a s u) : Evolves a s t := by
  injection h with h
  exact h ▸ hu

/-! ## The commands -/

theorem exec_busIdle_evolves {cut : Bool} (h : exec (.busIdle cut) s = .next t) : Evolves a s t := by
  have hcut : Evolves a s (if cut then countBadFrame (setHold false s) else s) :=
    .ite ((evolves_setHold _ s).trans (evolves_countBadFrame _)) (.refl a s)
  refine .of_next h (.ite (.refl a s) ?_)
  split
  · exact .refl a s
  · exact (evolves_setPhase _ s).trans (evolves_contend _)
  · exact hcut.trans (evolves_contend _)
  · exact ((evolves_countBadFrame s).trans (evolves_setPhase _ _)).trans (evolves_contend _)

theorem exec_transmitFailure_evolves {cause : FailCause} (h : exec (.transmitFailure cause) s = .next t) :
    Evolves a s t := by
  refine .of_next h ?_
  split
  · split
    · exact evolves_failTransmit _ s
    · exact evolves_echoMismatch _ s
  · exact .refl a s

theorem exec_badFrame_evolves (h : exec .badFrame s = .next t) : Evolves a s t := by
  refine .of_next h (.ite ?_ (.refl a s))
  split
  · exact (evolves_clearAck s).trans (evolves_echoMismatch _ _)
  · refine (evolves_clearAck s).trans ((evolves_endHoldAtStart _).trans ?_)
    exact (evolves_setPhase _ _).trans (evolves_countBadFrame _)

theorem exec_unusedFrameTaken_evolves (h : exec .unusedFrameTaken s = .next t) : Evolves a s t := by
  refine .of_next h ?_
  split
  case h_2 => exact .refl a s
  case h_1 f rest hrx =>
    refine .ite (.setBus (fun h => h.congr rfl rfl rfl rfl) (fun h => ?_) id id id) (.refl a s)
    simp only [hrx, List.length_cons] at h
    exact (Nat.le_succ _).trans h

theorem exec_sweepEnd_evolves (h : exec .sweepEnd s = .next t) : Evolves a s t := by
  refine .of_next h (.ite ?_ (.refl a s))
  split
  · exact evolves_closeSweep _ s
  · exact evolves_endSweep s

theorem exec_halted_evolves (h : exec .halted s = .next t) : Evolves a s t := by
  refine .of_next h ?_
  split
  · exact .refl a s
  · rename_i closing _
    have hend : Evolves a s (s.setMotion { s.motion with
        halt := .moving, outstanding := if closing then [] else s.motion.outstanding }) := by
      refine .setMotion fun h => ?_
      split
      · exact Nat.zero_le _
      · exact h
    exact hend.trans (((evolves_releaseAbandoned _).trans (evolves_shrinkClaim _)).trans (evolves_pumpPort _))

theorem exec_stopReleased_evolves (h : exec .stopReleased s = .next t) : Evolves a s t := by
  have hhigh (u : State) : Evolves a u (u.setBus { u.bus with sensedLow := false, filter := 0 }) :=
    .setBus_aside ⟨rfl, rfl, rfl, rfl, rfl, rfl, rfl⟩
  exact .of_next h (.ite (.after (t := s.setInputs _) ((hhigh _).trans (.ite (.refl a _) (evolves_pumpPort _))) rfl)
    (.refl a s))

theorem exec_highLoadExpiry_evolves (h : exec .highLoadExpiry s = .next t) : Evolves a s t := by
  refine .of_next h (.ite (.trans ?_ (evolves_refreshLoad _)) (.refl a s))
  split
  · exact .after (t := s.setMotion { s.motion with highTimer := none }) (evolves_relieve _ _) rfl
  · exact .same rfl

theorem exec_probeReport_evolves {r : ProbeReport} (h : exec (.probeReport r) s = .next t) : Evolves a s t := by
  refine .of_next h ?_
  split
  · split
    · exact evolves_noteReport r s
    · exact evolves_passReport _ r s
    · exact .refl a s
  · exact .refl a s

theorem exec_passEndButton_evolves (h : exec .passEndButton s = .next t) : Evolves a s t := by
  refine .of_next h ?_
  split
  · exact .ite (.ite (.same rfl) (evolves_endFollowPass _ s)) (.refl a s)
  · exact .refl a s

/-- Every command but a reset, CLEAR and JOB keeps every bound and undoes nothing that stands. -/
theorem exec_evolves (h : exec c s = .next t) (hpin : c ≠ .pinReset) (hreset : ∀ p, c ≠ .reset p) (hclear : c ≠ .clear)
    (hjob : c ≠ .job) : Evolves a s t := by
  cases c
  case pinReset => exact absurd rfl hpin
  case reset p => exact absurd rfl (hreset p)
  case clear => exact absurd rfl hclear
  case job => exact absurd rfl hjob
  case leaveReset p => exact .of_next h (.ite (evolves_leaveReset p s) (.refl a s))
  case memoryTestEnd passed =>
    refine .of_next h ?_
    split
    · exact evolves_memoryTested _ passed s
    · exact .refl a s
  case busIdle => exact exec_busIdle_evolves h
  case courtesyHoldEnd => exact .of_next h (.ite ((evolves_setHold _ s).trans (evolves_contend _)) (.refl a s))
  case arbitrationLoss =>
    refine .of_next h ?_
    split
    · exact evolves_loseAttempt _ s
    · exact .refl a s
  case transmitFailure => exact exec_transmitFailure_evolves h
  case frameSent heard =>
    refine .of_next h ?_
    split
    · exact evolves_endTransmit _ heard s
    · exact .refl a s
  case frameReceived bytes => exact .of_next h (.ite (evolves_receive bytes s) (.refl a s))
  case badFrame => exact exec_badFrame_evolves h
  case unusedFrameTaken => exact exec_unusedFrameTaken_evolves h
  case join => exact .of_next h (evolves_takeFrame evolves_takeJoin s)
  case start => exact .of_next h (evolves_takeFrame evolves_takeStart s)
  case abort => exact .of_next h (evolves_takeFrame evolves_takeAbort s)
  case excuse => exact .of_next h (evolves_takeFrame evolves_takeExcuse s)
  case resume => exact .of_next h (evolves_takeFrame evolves_takeResume s)
  case finish => exact .of_next h (evolves_takeFrame evolves_takeFinish s)
  case query => exact .of_next h (evolves_takeFrame evolves_takeQuery s)
  case credit => exact .of_next h (evolves_takeFrame evolves_creditFrame s)
  case trace => exact .of_next h (evolves_takeFrame evolves_traceFrame s)
  case reach => exact .of_next h (evolves_takeFrame evolves_takeReach s)
  case reachTimerExpiry => exact .of_next h (.ite (.after (t := s.setGuard _) (evolves_offerReach _) rfl) (.refl a s))
  case viewStale side =>
    refine .of_next h ?_
    split
    · exact .ite (.refl a s) (evolves_viewStale side _ _ s)
    · exact .refl a s
  case settleTimerExpiry =>
    exact .of_next h (.ite (.after (t := s.setGuard _) (evolves_takeOnClearReply _) rfl) (.refl a s))
  case waitTimerExpiry => exact .of_next h (.ite (.after (t := s.setGuard _) (evolves_raise _ _) rfl) (.refl a s))
  case enrolmentTimerExpiry => exact .of_next h (.ite (evolves_endEnrolment s) (.refl a s))
  case entrySilent k =>
    refine .of_next h ?_
    split
    · exact .ite (.refl a s) (evolves_fallSilent k _ s)
    · exact .refl a s
  case tailTimerExpiry =>
    exact .of_next h (.ite (.after (t := s.setPacer _) (evolves_testCollection _) rfl) (.refl a s))
  case creditTimerExpiry => exact .of_next h (.ite (evolves_offerCredit s) (.refl a s))
  case emission =>
    refine .of_next h ?_
    split
    case isTrue hopen => exact evolves_emitHead (hasTraceRoom_of_gateOpen hopen)
    case isFalse => exact .refl a s
  case probeReport => exact exec_probeReport_evolves h
  case passStartButton => exact .of_next h (.ite (.same rfl) (.refl a s))
  case passEndButton => exact exec_passEndButton_evolves h
  case headHandedOn =>
    refine .of_next h ?_
    split
    · exact .ite ((evolves_handHead _ s).trans (evolves_pumpLifts _)) (.refl a s)
    · exact .refl a s
  case setpointIssue => exact .of_next h ((evolves_issuePassed s).trans (evolves_pumpPort _))
  case arrived tag probe => exact .of_next h ((evolves_arriveTag tag probe s).trans (evolves_pumpPort _))
  case sweepEnd => exact exec_sweepEnd_evolves h
  case halted => exact exec_halted_evolves h
  case driveFaultReport code =>
    exact .of_next h (.after (t := s.setInputs _) (.ite (evolves_driveFault code _) (.refl a _)) rfl)
  case faultCleared => exact .of_next h (.same rfl)
  case actualPositionChange =>
    refine .of_next h (.trans (.trans ?_ (evolves_testBreach .left _)) (evolves_testBreach .right _))
    exact .after (evolves_followClaim _) rfl
  case spinUpEnd => exact .of_next h (.ite (.same rfl) (.refl a s))
  case loadChange => exact .of_next h (.same rfl)
  case highLoadExpiry => exact exec_highLoadExpiry_evolves h
  case lowLoadExpiry => exact .of_next h (.ite (.same rfl) (.refl a s))
  case stall => exact .of_next h (.ite (evolves_stallCarver s) (.refl a s))
  case stopSensed => exact .of_next h (.ite (.refl a s) ((evolves_senseLow s).trans (evolves_stopPort _)))
  case stopReleased => exact exec_stopReleased_evolves h

theorem exec_job_evolves (h : exec .job s = .next t) : Evolves true s t := .of_next h (evolves_takeFrame evolves_takeJob s)

/-- A CLEAR clears conditions and their pulls, and keeps all else as a frame taken does (R189). -/
theorem exec_clear_evolves (h : exec .clear s = .next t) :
    Evolves false s t ∨ ∃ u l, Evolves false s u ∧ t = clearAll l u := by
  have hnext : t = takeFrame .clear takeClear s := by
    injection h with h
    exact h.symm
  cases hrx : s.bus.rx with
  | nil => exact .inl (hnext ▸ by simpa [takeFrame, hrx] using Evolves.refl false s)
  | cons f rest =>
    by_cases hkind : f.kind = .clear
    · have htake : Evolves false s (s.dropFrame rest) := by
        refine .setBus (fun h => h.congr rfl rfl rfl rfl) (fun h => ?_) id id id
        simp only [hrx, List.length_cons] at h
        exact (Nat.le_succ _).trans h
      rw [takeFrame_of_front takeClear hrx hkind, takeClear] at hnext
      split at hnext
      · exact .inr ⟨_, _, htake, hnext⟩
      · exact .inl (hnext ▸ htake.trans (evolves_strayControl _))
    · exact .inl (hnext ▸ by simpa [takeFrame, hrx, hkind] using Evolves.refl false s)

/-- A reset leaves the station as it was, or in what grows from the state after reset (R22, R23). -/
theorem exec_reset_evolves (h : exec c s = .next t) (hc : c = .pinReset ∨ ∃ p, c = .reset p) :
    Evolves false s t ∨ Evolves false State.reset t := by
  have hheld : Evolves false State.reset (holdReset s) := .same rfl
  obtain rfl | ⟨p, rfl⟩ := hc
  · exact .inr (.of_next h hheld)
  · by_cases hdue : s.bus.resetDue = true
    · exact .inr (.of_next h (by simpa [hdue] using hheld.trans (evolves_leaveReset p _)))
    · exact .inl (.of_next h (by simpa [hdue] using Evolves.refl false s))

/-! ## The clock's tick -/

theorem evolves_idle (s : State) : Evolves a s (idle s) := by
  have hfilter (u : State) : Evolves a u (u.setBus (tickBus u)) := .setBus_aside ⟨rfl, rfl, rfl, rfl, rfl, rfl, rfl⟩
  exact .trans (.after (t := (s.setNow (s.now + 1)).setInputs s.inputs.tick) (hfilter _) rfl) (.same rfl)

/-! ## The two invariants -/

theorem Evolves.queueForm (h : Evolves a s t) (hs : s.bus.QueueForm) : t.bus.QueueForm := h.queue hs

theorem Evolves.bounded (h : Evolves a s t) (hs : s.Bounded) : t.Bounded where
  rx := h.rx hs.rx
  outstanding := h.outstanding hs.outstanding
  slots := h.slots hs.slots
  store := (h.store ⟨hs.store, hs.storeEmpty⟩).1
  storeEmpty := (h.store ⟨hs.store, hs.storeEmpty⟩).2
  counters := (h.counters hs.counters).1
  conditions := h.unused hs.conditions
  map := (h.cells hs.map).1
  roster := (h.entries).trans hs.roster

theorem queueForm_clearAll (l : List Cond) (h : s.bus.QueueForm) : (clearAll l s).bus.QueueForm :=
  h.congr rfl rfl rfl rfl

/-- A condition set that clears unused conditions keeps them clear. -/
theorem bounded_clearAll (l : List Cond) (h : s.Bounded) : (clearAll l s).Bounded where
  rx := h.rx
  outstanding := h.outstanding
  slots := h.slots
  store := h.store
  storeEmpty := h.storeEmpty
  counters := h.counters
  conditions := by
    have hand : s.cond.set &&& ~~~maskOf l &&& 0x3F#32 = (s.cond.set &&& 0x3F#32) &&& ~~~maskOf l := by
      rw [BitVec.and_assoc, BitVec.and_comm (~~~maskOf l), ← BitVec.and_assoc]
    exact hand.trans (by rw [h.conditions, BitVec.zero_and])
  map := h.map
  roster := h.roster

/-- What a change kept by growth and by CLEAR, and true after reset, holds after every step. -/
theorem step_keeps {P : State → Prop} (hreset : P State.reset) (hgrow : ∀ a s t, Evolves a s t → P s → P t)
    (hclear : ∀ l s, P s → P (clearAll l s)) (hs : P s) (h : step s = .next t) : P t := by
  cases hpending : s.pending with
  | nil =>
    rw [step_of_empty hpending] at h
    injection h with h
    exact h ▸ hgrow false _ _ (evolves_idle s) hs
  | cons c rest =>
    rw [step_of_front hpending] at h
    have hs' : P (s.setPending rest) := hgrow false s _ (.same rfl) hs
    by_cases hr : c = .pinReset ∨ ∃ p, c = .reset p
    · obtain hkeep | hfresh := exec_reset_evolves h hr
      · exact hgrow _ _ _ hkeep hs'
      · exact hgrow _ _ _ hfresh hreset
    · by_cases hc : c = .clear
      · subst hc
        obtain hkeep | ⟨u, l, hu, rfl⟩ := exec_clear_evolves h
        · exact hgrow _ _ _ hkeep hs'
        · exact hclear l u (hgrow _ _ _ hu hs')
      · by_cases hj : c = .job
        · subst hj
          exact hgrow _ _ _ (exec_job_evolves h) hs'
        · exact hgrow false _ _ (exec_evolves h (fun he => hr (.inl he)) (fun p he => hr (.inr ⟨p, he⟩)) hc hj) hs'

end

/-- Settles O3: the form after reset is kept by every change that grows and by CLEAR. -/
theorem stepKeepsTheTransmitQueue : Obligations.StepKeepsTheTransmitQueue := by
  obtain ⟨hqueue, -⟩ := resetMeetsTheInvariants
  exact fun s t hs h => step_keeps (P := fun s => s.bus.QueueForm) hqueue (fun _ _ _ h => h.queueForm)
    (fun l _ => queueForm_clearAll l) hs h

/-- Settles O4: the bounds after reset are kept by every change that grows and by CLEAR. -/
theorem stepKeepsTheBuffersBounded : Obligations.StepKeepsTheBuffersBounded := by
  obtain ⟨-, hbounded, -⟩ := resetMeetsTheInvariants
  exact fun s t hs h => step_keeps (P := State.Bounded) hbounded (fun _ _ _ h => h.bounded)
    (fun l _ => bounded_clearAll l) hs h

/-- Settles O7: a command that is no reset grows the counters and keeps MUTE; but CLEAR it keeps every bit of the condition set
and the pulls; but JOB it grows the cleared depths. -/
theorem onlyTheNamedCommandsUndo : Obligations.OnlyTheNamedCommandsUndo := by
  intro c s t h hpin hreset
  have hconds {a : Bool} (hgrow : Evolves a s t) (k : Cond) (hk : s.cond.has k = true) : t.cond.has k = true := by
    simp only [ConditionUnit.has, and_mask_ne_zero] at hk ⊢
    exact hgrow.conds _ hk
  by_cases hclear : c = .clear
  · subst hclear
    obtain hgrow | ⟨u, l, hgrow, rfl⟩ := exec_clear_evolves h
    all_goals
      exact ⟨fun hlen hmax => (hgrow.counters ⟨hlen, hmax⟩).2, hgrow.mute, fun hne => absurd rfl hne,
        fun _ hwf => (hgrow.cells hwf).2 rfl⟩
  · by_cases hjob : c = .job
    · subst hjob
      have hgrow := exec_job_evolves h
      exact ⟨fun hlen hmax => (hgrow.counters ⟨hlen, hmax⟩).2, hgrow.mute,
        fun _ => ⟨hconds hgrow, hgrow.drivePull, hgrow.breachPull⟩, fun hne => absurd rfl hne⟩
    · have hgrow : Evolves false s t := exec_evolves h hpin hreset hclear hjob
      exact ⟨fun hlen hmax => (hgrow.counters ⟨hlen, hmax⟩).2, hgrow.mute,
        fun _ => ⟨hconds hgrow, hgrow.drivePull, hgrow.breachPull⟩, fun _ hwf => (hgrow.cells hwf).2 rfl⟩

end Sys2Proof.Machine

/-! SUPPORT. The settled station (chapters 3, 5 and 12): a step that unsettles it. -/

namespace Sys2Proof.Machine

open Sys2Proof

/-- The record of a tracer's job with nobody on its enrol list. -/
def loneTracerRecord : JobRecord where
  id := 1
  halfLeft := 0
  halfRight := 0
  gap := 5000
  xMin := 0
  xMax := 0
  yMin := 0
  yMax := 0
  clearance := -2000
  feeds := ⟨10, 10, 10, 10⟩
  work := .tracer
    { mode := .raster, u0 := 0, u1 := 0, v0 := 0, v1 := 0, spacing := 50, stepovers := [], passLimit := 1
      useStore := false, faces := [0], enrol := [] }
  clamped := []

/-- A tracer STOPPED out of RUNNING and in MUTE, whose Pacer holds both the result of an empty enrolment and a FINISH that waits
for its place; a RESUME of its job has been received. -/
def tracerHoldingBoth : State :=
  { State.reset with
    straps := { Straps.unsampled with role := .tracer }
    bus := { Bus.afterReset with mute := true, rx := [⟨.resume, 0, 0, put16 1⟩] }
    job := { JobStore.afterReset with state := .stopped, remembered := .running, record := some loneTracerRecord }
    pacer := { Pacer.afterReset with phase := .enrolling, decision := some .enrolment, finishDue := true }
    pending := [.resume] }

/-- No clause keeps a held result of enrolment apart from a FINISH that is due. -/
theorem settled_tracerHoldingBoth : tracerHoldingBoth.Settled := by
  constructor <;> simp [tracerHoldingBoth, State.reset, JobStore.afterReset, Motion.afterReset, Guard.afterReset,
    Pacer.afterReset, PathQueue.afterReset, loneTracerRecord, Work.hasRole, JobStore.started]

/-- The station after the RESUME. -/
def tracerResumed : State := resumeJob ((tracerHoldingBoth.setPending []).dropFrame [])

/-- Refutes O5: at a RESUME the held enrolment with no entries takes the tracer back to ARMED (R78, R89), while the FINISH, with
no place in MUTE, stays due (R88), which only a started job's may be. -/
theorem not_stepKeepsTheStationSettled : ¬ Obligations.StepKeepsTheStationSettled := by
  intro h
  have hstep : step tracerHoldingBoth = .next tracerResumed := rfl
  have hdue : tracerResumed.pacer.finishDue = true := rfl
  have hstate : tracerResumed.job.state = .armed := rfl
  obtain ⟨-, hstarted⟩ := (h _ _ settled_tracerHoldingBoth hstep).pacer (.inr hdue)
  simp [JobStore.started, hstate] at hstarted

end Sys2Proof.Machine

/-! SUPPORT. Resets and the end of STARTING (R21 to R29): the outcome of a release and of a memory's test. -/

namespace Sys2Proof.Machine

open Sys2Proof

variable {s : State}

/-! ## Conditions raised (R187) -/

theorem has_eq_getLsbD (u : ConditionUnit) (c : Cond) : u.has c = u.set.getLsbD (31 - c.number) :=
  and_mask_ne_zero u.set c

/-- A condition found set leaves the set as it is, and one found clear adds its bit: either way its bit is or-ed in. -/
theorem set_raise (c : Cond) (s : State) : (raise c s).cond.set = s.cond.set ||| c.mask := by
  unfold raise
  split
  case isTrue hset =>
    have hc := c.number_lt
    rw [has_eq_getLsbD] at hset
    ext i hi
    rw [Cond.mask_eq_twoPow, BitVec.getElem_or, ← BitVec.getLsbD_eq_getElem, ← BitVec.getLsbD_eq_getElem,
      BitVec.getLsbD_twoPow]
    by_cases heq : 31 - c.number = i
    · simp [← heq, hset]
    · simp [heq]
  case isFalse => split <;> simp

theorem has_raise (c k : Cond) (s : State) : (raise c s).cond.has k = (s.cond.has k || decide (k = c)) := by
  simp only [has_eq_getLsbD, set_raise, BitVec.getLsbD_or, Cond.getLsbD_mask]

/-- What a change that grows keeps of the condition set. -/
theorem Evolves.has {a : Bool} {s t : State} (h : Evolves a s t) {k : Cond} (hk : s.cond.has k = true) :
    t.cond.has k = true := by
  rw [has_eq_getLsbD] at hk ⊢
  exact h.conds _ hk

/-- A condition that does not alert leaves the first-risen one as it was (R188). -/
theorem risen_raise_of_silent {c : Cond} (h : c.alerts = false) (s : State) : (raise c s).cond.risen = s.cond.risen := by
  unfold raise
  split <;> simp [h]

theorem bus_raise_of_silent {c : Cond} (h : c.alerts = false) (s : State) : (raise c s).bus = s.bus := by
  unfold raise
  split <;> simp [h]

/-! ## The end of STARTING (R27) -/

theorem endStarting_selfTest (result : Nat) (s : State) : (endStarting result s).selfTest = none := by
  simp [endStarting]

@[simp] theorem offerJoin_entries (answer : Bool) (s : State) : (offerJoin answer s).roster.entries = s.roster.entries := by
  unfold offerJoin
  split <;> simp

theorem job_setStation (st : StationState) (s : State) : (setStation st s).job = { s.job with state := st } := rfl

theorem endStarting_state (result : Nat) (s : State) :
    (endStarting result s).job = { s.job with state := if result = 0 then .ready else .failed } := by
  simp [endStarting, job_setStation]

theorem endStarting_entries (result : Nat) (s : State) : (endStarting result s).roster.entries =
    s.roster.entries.set s.straps.number.val (some (ownPeer s.straps result)) := by
  simp [endStarting, writeOwnEntry, State.number]

theorem endStarting_rxPhase (result : Nat) (s : State) : (endStarting result s).bus.rxPhase = .waitIdle := by
  simp [endStarting]

theorem endStarting_reachTimer (result : Nat) (s : State) : (endStarting result s).guard.reachTimer = some 50 := by
  simp [endStarting]

/-- The station with its result known: the first part of the end of STARTING. -/
def resultKnown (result : Nat) (s : State) : State :=
  raiseIf (result != 0) .selfCheckFail
    (setStation (if result = 0 then .ready else .failed) (writeOwnEntry result (s.setSelfTest none)))

/-- The receiver and the Guard started: the second part, up to the offers. -/
def blocksStarted (s : State) : State :=
  let s := lookUpNeighbours (offerPendingAlert (s.setBus { s.bus with rxPhase := .waitIdle }))
  s.setGuard { s.guard with reachTimer := some 50 }

theorem evolves_blocksStarted {a : Bool} (s : State) : Evolves a s (blocksStarted s) :=
  .trans (evolves_setPhase .waitIdle s) (.setGuard ((evolves_offerPendingAlert _).trans (evolves_lookUpNeighbours _)) _)

theorem has_endStarting {result : Nat} (h : result ≠ 0) (s : State) :
    (endStarting result s).cond.has .selfCheckFail = true := by
  have hraised : (resultKnown result s).cond.has .selfCheckFail = true := by
    simp [resultKnown, raiseIf, h, has_raise]
  have hrest : Evolves false (resultKnown result s) (endStarting result s) :=
    ((evolves_blocksStarted _).trans (evolves_offerReach _)).trans
      ((evolves_offerJoin false _).trans (evolves_readStandingFault _))
  exact hrest.has hraised

/-! ## The first two offers (R27, R30) -/

/-- A report offered with the queue empty takes its place alone. -/
theorem bus_offerReport_of_empty {k : Kind} {dest : Byte} (hcan : s.canOffer = true) (hqueue : s.bus.queue = [])
    (hsending : s.bus.sending = none) (hmute : s.bus.mute = false) :
    (offerReport k dest s).bus = s.bus.fill k dest [] := by
  simp [offerReport, hcan, Bus.offerReport, hsending, hmute, Bus.fillReport, hqueue]

theorem offerPendingAlert_of_none (h : s.cond.risen = none) : offerPendingAlert s = s := by
  simp [offerPendingAlert, h]

theorem readStandingFault_of_none (h : s.inputs.driveFault = none) : readStandingFault s = s := by
  simp [readStandingFault, h]

theorem risen_resultKnown (result : Nat) (s : State) : (resultKnown result s).cond.risen = s.cond.risen := by
  unfold resultKnown raiseIf
  split
  · rw [risen_raise_of_silent rfl]
    simp
  · simp

theorem bus_resultKnown (result : Nat) (s : State) : (resultKnown result s).bus = s.bus := by
  unfold resultKnown raiseIf
  split
  · rw [bus_raise_of_silent rfl]
    simp
  · simp

/-- The own entry read back holds the result of the self-check (R29). -/
theorem selfCheckResult_of_entries {p : Straps} {r : Nat} {l : List (Option Peer)} (hlen : l.length = 32)
    (hentries : s.roster.entries = l.set s.number (some (ownPeer p r))) : s.selfCheckResult = r := by
  have hnumber : s.number < l.length := hlen ▸ s.straps.number.isLt
  simp [State.selfCheckResult, hentries, List.getD_eq_getElem?_getD, hnumber, ownPeer]

/-- With nothing before them, the REACH and the start-up JOIN stand in the queue in that order. -/
theorem queue_endStarting {result : Nat} (hlen : s.roster.entries.length = 32) (hqueue : s.bus.queue = [])
    (hsending : s.bus.sending = none) (hmute : s.bus.mute = false) (hrisen : s.cond.risen = none)
    (hfault : s.inputs.driveFault = none) :
    (endStarting result s).bus.queue.map (fun f => (f.kind, f.dest, f.payload)) =
      [(.reach, 255#8, []), (.join, 255#8, [0xB6#8, byteOf (roleCode s.straps.role), byteOf s.straps.rail.val,
        byteOf s.straps.slot.val, byteOf result, byteOf (pathCapacityOf s.straps.role),
        byteOf (storeCapacityOf s.straps.role), 0#8])] := by
  set u := blocksStarted (resultKnown result s) with hu
  have hfaultless : (offerJoin false (offerReach u)).inputs.driveFault = none := by
    simpa [hu, blocksStarted, resultKnown] using hfault
  have hbus : u.bus = { s.bus with rxPhase := .waitIdle } := by
    have hnone : ((resultKnown result s).setBus { (resultKnown result s).bus with rxPhase := .waitIdle }).cond.risen =
        none := (risen_resultKnown result s).trans hrisen
    rw [hu, blocksStarted, offerPendingAlert_of_none hnone]
    simp [bus_resultKnown]
  have hcan : u.canOffer = true := by
    have hstate : u.job.state = if result = 0 then .ready else .failed := by
      simp [hu, blocksStarted, resultKnown, job_setStation]
    rw [canOffer_iff, hstate]
    split <;> decide
  have hreach : (offerReach u).bus = u.bus.fill .reach 255 [] :=
    bus_offerReport_of_empty hcan (by rw [hbus]; exact hqueue) (by rw [hbus]; exact hsending) (by rw [hbus]; exact hmute)
  have hroom : (offerReach u).bus.hasRoom = true := by
    simp [hreach, hbus, Bus.hasRoom, Bus.fill, Bus.generalHeld, Bus.places, hsending, hmute, hqueue, place, Kind.isReport]
  have hentries : (offerReach u).selfCheckResult = result :=
    selfCheckResult_of_entries (p := s.straps) hlen (by simp [hu, blocksStarted, resultKnown, writeOwnEntry, State.number])
  have hpayload : (offerReach u).joinPayload false = [0xB6#8, byteOf (roleCode s.straps.role), byteOf s.straps.rail.val,
      byteOf s.straps.slot.val, byteOf result, byteOf (pathCapacityOf s.straps.role),
      byteOf (storeCapacityOf s.straps.role), 0#8] := by
    rw [State.joinPayload, hentries]
    cases hrole : s.straps.role <;>
      simp [hu, blocksStarted, resultKnown, State.isCarver, hrole, putFlag, pathCapacityOf, storeCapacityOf, byteOf]
  have hjoin : (offerJoin false (offerReach u)).bus =
      (offerReach u).bus.fill .join 255 ((offerReach u).joinPayload false) := by
    simp [offerJoin, hroom]
  have hend : endStarting result s = readStandingFault (offerJoin false (offerReach u)) := rfl
  rw [hend, readStandingFault_of_none hfaultless, hjoin, hpayload, hreach]
  simp [Bus.fill, hbus, hqueue, place, TxFrame.before, Kind.cls]

/-! ## The commands -/

theorem exec_leaveReset_of_held (h : s.job.state = .held) (p : Straps) : exec (.leaveReset p) s = .next (leaveReset p s) := by
  have harm : exec (.leaveReset p) s = execLeaveReset p s := rfl
  simp [harm, execLeaveReset, h]

/-- The station with the straps sampled and STARTING entered. -/
def strapsSampled (p : Straps) (s : State) : State :=
  (writeOwnEntry 0 (s.setStraps p)).setJob { s.job with state := .starting }

theorem leaveReset_of_check {p : Straps} (h : p.selfCheck = true) :
    leaveReset p s = (strapsSampled p s).setSelfTest (some (firstMemory p.role)) := by
  simp [leaveReset, strapsSampled, h]

theorem leaveReset_of_skip {p : Straps} (h : p.selfCheck = false) :
    leaveReset p s = endStarting 0 (strapsSampled p s) := by
  simp [leaveReset, strapsSampled, h]

/-- Settles O10: a reset by its setters, a release by the outcome of the end of STARTING, and a RESET as the two in turn. -/
theorem resetsHoldAndReleaseTheStation : Obligations.ResetsHoldAndReleaseTheStation := by
  intro s
  have hframe := commandsWriteOnlyTheirBlocks
  refine ⟨⟨holdReset s, rfl, rfl, rfl, rfl, rfl, rfl, rfl, rfl, rfl, rfl, rfl, rfl, rfl, rfl, hframe .pinReset s _ rfl,
    rfl, rfl, rfl, rfl⟩, fun p => ⟨fun hheld hcheck => ?_, fun hheld hcheck => ?_, fun hfree => ?_, fun hdue => ?_,
      fun hdue => ?_⟩⟩
  · refine ⟨leaveReset p s, exec_leaveReset_of_held hheld p, ?_⟩
    rw [leaveReset_of_check hcheck]
    refine ⟨rfl, rfl, by cases p.role <;> rfl, rfl, fun b hb => ?_⟩
    cases b <;> simp [Block.same, strapsSampled] at hb ⊢
  · refine ⟨leaveReset p s, exec_leaveReset_of_held hheld p, ?_⟩
    have hend := hframe (.leaveReset p) s _ (exec_leaveReset_of_held hheld p)
    rw [leaveReset_of_skip hcheck] at hend ⊢
    refine ⟨by simp [strapsSampled], by simp [endStarting_state, strapsSampled], endStarting_selfTest _ _, ?_,
      endStarting_rxPhase _ _, endStarting_reachTimer _ _, hend⟩
    simp [endStarting_entries, strapsSampled, writeOwnEntry, State.number]
  · have harm : exec (.leaveReset p) s = execLeaveReset p s := rfl
    simp [harm, execLeaveReset, hfree]
  · have harm : exec (.reset p) s = execReset p s := rfl
    refine ⟨holdReset s, rfl, leaveReset p (holdReset s), exec_leaveReset_of_held rfl p, by simp [harm, execReset, hdue], ?_⟩
    cases hcheck : p.selfCheck
    · rw [leaveReset_of_skip hcheck]
      exact ⟨by simp [strapsSampled], by simp [endStarting_state]⟩
    · rw [leaveReset_of_check hcheck]
      exact ⟨rfl, by simp [strapsSampled]⟩
  · have harm : exec (.reset p) s = execReset p s := rfl
    simp [harm, execReset, hdue]

/-- Where STARTING ends (R26, R27), with result 0 or the failed memory's code. -/
theorem memoryTested_of_end {code : Nat} {passed : Bool} (hend : passed = false ∨ code ≠ 1) :
    memoryTested code passed s =
      endStarting (if passed then 0 else code) (if passed then s else leaveFailed code s) := by
  cases passed
  · rfl
  · have hlater : code ≠ 1 := by simpa using hend
    simp [memoryTested, hlater]

/-- Settles O11: the carver's first memory goes on to its second; any other end is the end of STARTING, after the failed
memory is left as it is. -/
theorem memoryTestEndsStarting : Obligations.MemoryTestEndsStarting := by
  intro s code htest hcode passed
  have hnext : exec (.memoryTestEnd passed) s = .next (memoryTested code passed s) := by
    have harm : exec (.memoryTestEnd passed) s = execMemoryTestEnd passed s := rfl
    simp [harm, execMemoryTestEnd, htest]
  refine ⟨fun hpassed hfirst => ⟨_, hnext, ?_⟩, fun hend => ⟨_, hnext, ?_⟩⟩
  · subst hpassed hfirst
    refine ⟨rfl, fun b hb => ?_⟩
    cases b <;> simp [Block.same, memoryTested] at hb ⊢
  · have hframe := commandsWriteOnlyTheirBlocks _ s _ hnext
    rw [memoryTested_of_end hend] at hframe ⊢
    cases passed
    · have hpos : code ≠ 0 := by
        rintro rfl
        simp at hcode
      refine ⟨endStarting_selfTest _ _, by simp [endStarting_state, hpos], by simp [endStarting_entries],
        endStarting_rxPhase _ _, endStarting_reachTimer _ _, fun _ => has_endStarting hpos _,
        fun _ htwo => by simp [leaveFailed, htwo], fun hother => ?_, fun hlen hqueue hsending hmute hrisen hfault => ?_, hframe⟩
      · have hother : code ≠ 2 := by simpa using hother
        simp [leaveFailed, hother]
      · simpa using queue_endStarting (s := leaveFailed code s) (result := code) (by simpa using hlen)
          (by simpa using hqueue) (by simpa using hsending) (by simpa using hmute) (by simpa using hrisen)
          (by simpa using hfault)
    · refine ⟨endStarting_selfTest _ _, by simp [endStarting_state], by simp [endStarting_entries],
        endStarting_rxPhase _ _, endStarting_reachTimer _ _, by simp, by simp, by simp, ?_, hframe⟩
      exact fun hlen hqueue hsending hmute hrisen hfault => queue_endStarting hlen hqueue hsending hmute hrisen hfault

end Sys2Proof.Machine

/-! SUPPORT. The wire (R4 to R18): contention, attempts lost, frames sent, frames received. -/

namespace Sys2Proof.Machine

open Sys2Proof

variable {s : State}

/-! ## Contention (R4, R6, R16) -/

theorem contend_of_waiting (h : s.bus.queue = [] ∨ s.bus.mute = true ∨ s.bus.hold = true) : contend s = s := by
  unfold contend
  split
  · obtain hempty | hmute | hhold := h <;> simp_all
  · rfl

theorem contend_of_head {f : TxFrame} {rest : List TxFrame} (hqueue : s.bus.queue = f :: rest)
    (hmute : s.bus.mute = false) (hhold : s.bus.hold = false) (hsending : s.bus.sending = none) :
    contend s = startAttempt f rest s := by
  simp [contend, hqueue, hmute, hhold, hsending]

theorem bus_startAttempt (f : TxFrame) (rest : List TxFrame) (s : State) : (startAttempt f rest s).bus =
    { s.bus with
      queue := rest, sending := some ⟨{ f with payload := fillPayload f s }, none⟩, rxPhase := .inFrame } := by
  cases hk : f.kind <;> simp [startAttempt, noteAttempt, hk]

theorem guard_startAttempt (f : TxFrame) (rest : List TxFrame) (s : State) : (startAttempt f rest s).guard =
    if f.kind = .reach then { s.guard with announceSent := s.guard.announce.isSome } else s.guard := by
  cases hk : f.kind <;> simp [startAttempt, noteAttempt, hk]

theorem cond_startAttempt (f : TxFrame) (rest : List TxFrame) (s : State) : (startAttempt f rest s).cond =
    if f.kind = .alert then { s.cond with risen := none, inflight := s.cond.risen } else s.cond := by
  cases hk : f.kind <;> simp [startAttempt, noteAttempt, hk]

/-- A payload reads nothing of the wire's own state and of the counters. -/
theorem fillPayload_congr {u : State} (f : TxFrame) (hrisen : u.cond.risen = s.cond.risen) (hset : u.cond.set = s.cond.set)
    (h : UnchangedBut [.bus, .cond] s u) : fillPayload f u = fillPayload f s := by
  have hstraps : u.straps = s.straps := h .straps (by decide)
  have hseed : u.seed = s.seed := h .seed (by decide)
  have hjob : u.job = s.job := h .job (by decide)
  have hpq : u.pq = s.pq := h .pq (by decide)
  have hseq : u.seq = s.seq := h .seq (by decide)
  have hguard : u.guard = s.guard := h .guard (by decide)
  have hid : u.jobId = s.jobId := by rw [State.jobId, State.jobId, hjob]
  have hcarver : u.carverJob = s.carverJob := by rw [State.carverJob, State.carverJob, hjob]
  have hreach : reachPayload u = reachPayload s := by simp only [reachPayload, hguard, hstraps, hjob]
  have hclass : requestedClass u = requestedClass s := by simp only [requestedClass, hcarver, hseq, hseed]
  have hcredit : creditPayload u = creditPayload s := by simp only [creditPayload, hid, hjob, hpq, hseq, hclass]
  have hrisen : firstRisen u = firstRisen s := by simp only [firstRisen, hrisen, hseed]
  have halert : alertPayload u = alertPayload s := by simp only [alertPayload, hid, hjob, hset, hrisen]
  unfold fillPayload
  split
  · exact hreach
  · exact hcredit
  · exact halert
  · rfl

/-- The Bus Controller and the counters as an idle finds them at the contention. -/
theorem exec_busIdle_eq (hsending : s.bus.sending = none) (hon : s.bus.rxPhase ≠ .off) (cut : Bool) :
    ∃ u, exec (.busIdle cut) s = .next (contend u) ∧
      u.bus = { s.bus with rxPhase := .ready, hold := s.bus.hold && !(s.bus.rxPhase == .ready && cut) } ∧
      u.cond = (if s.bus.rxPhase == .inFrame || (s.bus.rxPhase == .ready && cut) then
        s.cond.countUp .badCheckFrames 1 else s.cond) ∧
      UnchangedBut [.bus, .cond] s u := by
  have harm : exec (.busIdle cut) s = execBusIdle cut s := rfl
  have hframe (u : State) (h : u = (s.setBus u.bus).setCond u.cond) : UnchangedBut [.bus, .cond] s u := by
    intro b hb
    rw [h]
    cases b <;> simp [Block.same] at hb ⊢
  cases hphase : s.bus.rxPhase
  case off => exact absurd hphase hon
  case waitIdle =>
    refine ⟨setPhase .ready s, by simp [harm, execBusIdle, hsending, hphase], ?_, rfl, hframe _ rfl⟩
    simp [setPhase]
  case ready =>
    cases cut
    · refine ⟨s, by simp [harm, execBusIdle, hsending, hphase], ?_, rfl, UnchangedBut.refl _ s⟩
      rw [← hphase]
      simp
    · refine ⟨countBadFrame (setHold false s), by simp [harm, execBusIdle, hsending, hphase], ?_, rfl, hframe _ rfl⟩
      simp [countBadFrame, count, setHold, ← hphase]
  case inFrame =>
    refine ⟨setPhase .ready (countBadFrame s), by simp [harm, execBusIdle, hsending, hphase], ?_, rfl, hframe _ rfl⟩
    simp [setPhase, countBadFrame, count]

theorem exec_courtesyHoldEnd_eq (hphase : s.bus.rxPhase = .ready) (hhold : s.bus.hold = true) :
    exec .courtesyHoldEnd s = .next (contend (setHold false s)) := by
  have harm : exec .courtesyHoldEnd s = execCourtesyHoldEnd s := rfl
  simp [harm, execCourtesyHoldEnd, hphase, hhold]

/-- Settles O12: the state at the contention, and then the head's attempt or none. -/
theorem contentionStartsTheHeadFrame : Obligations.ContentionStartsTheHeadFrame := by
  intro s hsending
  refine ⟨fun cut hon => ?_, fun hphase hhold => ⟨fun f rest hqueue hmute => ?_, fun hwait => ?_⟩⟩
  · obtain ⟨u, hnext, hbus, hcond, hframe⟩ := exec_busIdle_eq hsending hon cut
    refine ⟨fun f rest hqueue hmute hheld => ⟨_, hnext, ?_⟩, fun hwait => ⟨_, hnext, ?_⟩⟩
    · have hhead : contend u = startAttempt f rest u :=
        contend_of_head (by rw [hbus]; exact hqueue) (by rw [hbus]; exact hmute) (by rw [hbus]; exact hheld)
          (by rw [hbus]; exact hsending)
      have hfill : fillPayload f u = fillPayload f s := fillPayload_congr f (by rw [hcond]; split <;> rfl)
        (by rw [hcond]; split <;> rfl) hframe
      have hguard : u.guard = s.guard := hframe .guard (by decide)
      refine ⟨?_, ?_, ?_, commandsWriteOnlyTheirBlocks _ s _ hnext⟩
      · rw [hhead, bus_startAttempt, hfill, hbus]
        simp only [hheld]
      · rw [hhead, guard_startAttempt, hguard]
      · rw [hhead, cond_startAttempt, hcond]
    · have hnone : contend u = u := contend_of_waiting (by rw [hbus]; exact hwait)
      rw [hnone]
      exact ⟨hbus, hcond, hframe⟩
  · have hnext := exec_courtesyHoldEnd_eq hphase hhold
    have hframe : UnchangedBut [.bus, .cond] s (setHold false s) := by
      intro b hb
      cases b <;> simp [Block.same] at hb ⊢
    refine ⟨_, hnext, ?_, commandsWriteOnlyTheirBlocks _ s _ hnext⟩
    rw [contend_of_head (s := setHold false s) hqueue hmute rfl hsending, bus_startAttempt,
      fillPayload_congr (s := s) (u := setHold false s) f rfl rfl hframe]
    rfl
  · refine ⟨_, exec_courtesyHoldEnd_eq hphase hhold, ?_⟩
    rw [contend_of_waiting (s := setHold false s) (hwait.imp_right .inl)]
    refine ⟨rfl, fun b hb => ?_⟩
    cases b <;> simp [Block.same] at hb ⊢

/-! ## Frames as bytes (R1 to R3) -/

theorem kindOf_eq_some_iff {n : Nat} {k : Kind} : kindOf n = some k ↔ n = k.code := by
  constructor
  · intro h
    unfold kindOf at h
    split at h
    case h_16 => exact nomatch h
    all_goals
      injection h with h
      exact h ▸ rfl
  · rintro rfl
    cases k <;> rfl

theorem Kind.code_lt (k : Kind) : k.code < 256 := by
  cases k <;> decide

theorem Kind.cls_le (k : Kind) : k.cls ≤ 7 := by
  cases k <;> decide

theorem Kind.le_of_allows {k : Kind} {n : Nat} (h : k.allows n = true) : n ≤ 32 := by
  cases k <;> simp only [Kind.allows, beq_iff_eq, decide_eq_true_eq] at h <;> omega

theorem toNat_byteOf {n : Nat} (h : n < 256) : (byteOf n).toNat = n := by
  simpa [byteOf] using h

theorem byteOf_toNat (b : Byte) : byteOf b.toNat = b := by
  simp [byteOf]

/-- A list of one element more than n is its first n elements and that element. -/
theorem eq_take_append_getD {l : List Byte} {n : Nat} (h : l.length = n + 1) (d : Byte) : l = l.take n ++ [l.getD n d] := by
  have hn : n < l.length := by omega
  rw [List.getD_eq_getElem _ _ hn, List.take_append_getElem, ← h, List.take_length]

/-- Settles O13: the four head bytes are read and written by inverse functions, and the check is the same on both sides. -/
theorem readFrameTakesExactlyWireBytes : Obligations.ReadFrameTakesExactlyWireBytes := by
  intro bytes f
  constructor
  · intro h
    unfold readFrame at h
    split at h
    case h_2 => exact nomatch h
    case h_1 arb kb dest len rest =>
      split at h
      case isFalse => exact nomatch h
      case isTrue hlen =>
        obtain ⟨-, hlen⟩ := hlen
        split at h
        case h_2 => exact nomatch h
        case h_1 k hk =>
          split at h
          case isFalse => exact nomatch h
          case isTrue hgood =>
            obtain ⟨hcls, hallows, hcheck⟩ := hgood
            injection h with h
            subst h
            have hpayload : (rest.take len.toNat).length = len.toNat := by simp [hlen]
            have harb : byteOf (k.cls * 32 + arb.toNat % 32) = arb := by
              rw [← hcls, Nat.div_add_mod', byteOf_toNat]
            have hkind : byteOf k.code = kb := by
              rw [← kindOf_eq_some_iff.1 hk, byteOf_toNat]
            refine ⟨?_, Nat.mod_lt _ (by decide), by simpa only [hpayload] using hallows⟩
            simp only [wireBytes, frameHead, hpayload, harb, hkind, byteOf_toNat, ← hcheck]
            exact congrArg (arb :: kb :: dest :: len :: ·) (eq_take_append_getD hlen 0)
  · rintro ⟨rfl, hsrc, hallows⟩
    have hlen := Kind.le_of_allows hallows
    have hcls := f.kind.cls_le
    have harb : (byteOf (f.kind.cls * 32 + f.src)).toNat = f.kind.cls * 32 + f.src := toNat_byteOf (by omega)
    have hpayload : (byteOf f.payload.length).toNat = f.payload.length := toNat_byteOf (by omega)
    have hkind : kindOf (byteOf f.kind.code).toNat = some f.kind :=
      kindOf_eq_some_iff.2 (toNat_byteOf f.kind.code_lt)
    have hdiv : (f.kind.cls * 32 + f.src) / 32 = f.kind.cls := by omega
    have hmod : (f.kind.cls * 32 + f.src) % 32 = f.src := by omega
    simp [readFrame, wireBytes, frameHead, harb, hpayload, hkind, hdiv, hmod, hlen, hallows]

end Sys2Proof.Machine

/-! SUPPORT. Attempts lost, frames sent and frames received (R5 to R18). -/

namespace Sys2Proof.Machine

open Sys2Proof

variable {s : State}

/-! ## Attempts lost (R5, R9, R17, R18) -/

/-- The frame in transmission, put back with its old age, a report's payload to be filled afresh (R13, R16). -/
def keptFrame (x : Sending) (l : List TxFrame) : List TxFrame :=
  place { x.frame with payload := if x.frame.kind.isReport then [] else x.frame.payload } l

theorem bus_loseAttempt {x : Sending} (h : s.bus.sending = some x) :
    (loseAttempt x s).bus = { s.bus with sending := none, queue := keptFrame x s.bus.queue } := by
  have hframe : (if x.frame.kind.isReport then { x.frame with payload := [] } else x.frame) =
      { x.frame with payload := if x.frame.kind.isReport then [] else x.frame.payload } := by
    split <;> rfl
  simp [loseAttempt, Bus.returnFrame, h, keptFrame, hframe]

theorem risen_loseAttempt (x : Sending) (s : State) : (loseAttempt x s).cond.risen =
    if x.frame.kind = .alert then s.cond.inflight.or s.cond.risen else s.cond.risen := by
  cases hk : x.frame.kind <;> simp [loseAttempt, attemptLost, hk]

/-- The failure counted, with the frame kept and the courtesy hold started: what every failure does (R6, R17). -/
def failureCounted (x : Sending) (s : State) : State :=
  let s := startHold (loseAttempt x s)
  count .transmitFailures 1 (s.setBus { s.bus with failures := s.bus.failures + 1 })

theorem bus_failureCounted {x : Sending} (h : s.bus.sending = some x) : (failureCounted x s).bus = { s.bus with
    sending := none, queue := keptFrame x s.bus.queue, failures := s.bus.failures + 1, hold := s.straps.courtesy } := by
  simp [failureCounted, startHold, setHold, bus_loseAttempt h]

theorem counters_failureCounted (x : Sending) (s : State) :
    (failureCounted x s).cond.counters = (s.cond.countUp .transmitFailures 1).counters := by
  simp [failureCounted, startHold, setHold, count, ConditionUnit.countUp, ConditionUnit.count]

theorem failTransmit_of_lt {x : Sending} (h : s.bus.failures < 15) : failTransmit x s = failureCounted x s := by
  have hlt : (failureCounted x s).bus.failures < 16 := by
    simp [failureCounted, startHold, setHold]
    omega
  exact if_pos hlt

theorem failTransmit_of_ge {x : Sending} (h : 15 ≤ s.bus.failures) : failTransmit x s = enterMute (failureCounted x s) := by
  have hge : ¬ (failureCounted x s).bus.failures < 16 := by
    simp [failureCounted, startHold, setHold]
    omega
  exact if_neg hge

/-- In MUTE nothing is offered: the queue stays empty when BUS_MUTE is raised (R18). -/
theorem bus_raise_of_mute (c : Cond) (h : s.bus.mute = true) : (raise c s).bus = s.bus := by
  have hoffer (k : Kind) (dest : Byte) (u : State) (hu : u.bus.mute = true) : (offerReport k dest u).bus = u.bus := by
    unfold offerReport
    split <;> simp [Bus.offerReport, hu]
  unfold raise
  split
  · rfl
  · split
    · unfold alertRise
      dsimp only
      split
      · exact hoffer _ _ _ h
      · rfl
    · rfl

theorem bus_enterMute (s : State) : (enterMute s).bus = { s.bus with queue := [], mute := true } := by
  have hmute : (s.setBus { s.bus with queue := [], mute := true }).bus.mute = true := rfl
  rw [enterMute, bus_raise_of_mute _ hmute]
  rfl

theorem set_enterMute (s : State) : (enterMute s).cond.set = s.cond.set ||| Cond.busMute.mask := set_raise .busMute _

theorem set_failureCounted (x : Sending) (s : State) : (failureCounted x s).cond.set = s.cond.set := by
  simp [failureCounted, startHold, setHold, count, ConditionUnit.countUp]

/-- Every failure, whether it enters MUTE or not. -/
theorem failTransmit_of_sending {x : Sending} (h : s.bus.sending = some x) :
    (failTransmit x s).bus = { s.bus with
      sending := none, failures := s.bus.failures + 1, hold := s.straps.courtesy
      queue := if s.bus.failures < 15 then keptFrame x s.bus.queue else []
      mute := if s.bus.failures < 15 then s.bus.mute else true } ∧
    (failTransmit x s).cond.set = (if s.bus.failures < 15 then s.cond.set else s.cond.set ||| Cond.busMute.mask) ∧
    (failTransmit x s).cond.counters = (s.cond.countUp .transmitFailures 1).counters := by
  by_cases hlt : s.bus.failures < 15
  · rw [failTransmit_of_lt hlt]
    simp [hlt, bus_failureCounted h, set_failureCounted, counters_failureCounted]
  · rw [failTransmit_of_ge (by omega)]
    simp [hlt, bus_enterMute, bus_failureCounted h, set_enterMute, set_failureCounted, counters_failureCounted]

theorem exec_transmitFailure_eq {x : Sending} (h : s.bus.sending = some x) (cause : FailCause) :
    exec (.transmitFailure cause) s =
      .next (match cause with
        | .bit => failTransmit x s
        | .echo => echoMismatch x s) := by
  have harm : exec (.transmitFailure cause) s = execTransmitFailure cause s := rfl
  cases cause <;> simp [harm, execTransmitFailure, h]

/-- Settles O14: arbitration loss by the frame's return, a failure by its count and, from the sixteenth on, MUTE. -/
theorem lostAttemptsKeepTheFrame : Obligations.LostAttemptsKeepTheFrame := by
  intro s x hx back
  refine ⟨?_, fun cause => ?_⟩
  · have hnext : exec .arbitrationLoss s = .next (loseAttempt x s) := by
      have harm : exec .arbitrationLoss s = execArbitrationLoss s := rfl
      simp [harm, execArbitrationLoss, hx]
    exact ⟨_, hnext, bus_loseAttempt hx, by simp, by simp, risen_loseAttempt x s,
      commandsWriteOnlyTheirBlocks _ s _ hnext⟩
  · have hnext := exec_transmitFailure_eq hx cause
    obtain ⟨hbus, hset, hcounters⟩ := failTransmit_of_sending hx
    have hframe := commandsWriteOnlyTheirBlocks _ s _ hnext
    refine ⟨_, hnext, ?_⟩
    cases cause
    · refine ⟨by simp [hbus], by simp [hbus], by simp [hbus], by simp [hbus], by simp [hbus], ?_, ?_, hcounters, hframe⟩
      · exact fun hlt => by simp [hbus, hset, hlt, back, keptFrame]
      · exact fun hge => by simp [hbus, hset, Nat.not_lt.2 hge]
    · have hecho : (echoMismatch x s).cond.counters =
          ((s.cond.countUp .transmitFailures 1).countUp .badCheckFrames 1).counters := by
        simp [echoMismatch, countBadFrame, count, ConditionUnit.countUp, ConditionUnit.count, hcounters]
      have hset' : (echoMismatch x s).cond.set = (failTransmit x s).cond.set := rfl
      have hbus' : (echoMismatch x s).bus = { (failTransmit x s).bus with rxPhase := .waitIdle } := rfl
      refine ⟨by simp [hbus', hbus], by simp [hbus', hbus], by simp [hbus', hbus], by simp [hbus'], by simp [hbus', hbus],
        ?_, ?_, hecho, hframe⟩
      · exact fun hlt => by simp [hbus', hset', hbus, hset, hlt, back, keptFrame]
      · exact fun hge => by simp [hbus', hset', hbus, hset, Nat.not_lt.2 hge]

/-! ## Frames sent (R10, R14) -/

/-- With nothing waiting for a general place, the freed one is given to none. -/
theorem placeFreed_of_none (hfinish : s.pacer.finishDue = false) (hdue : s.gen.due = []) (hjoin : s.roster.joinDue = none) :
    placeFreed s = s := by
  have hgate : s.gateOpen = false := by simp [State.gateOpen, hdue]
  simp [placeFreed, hfinish, hgate, hjoin]

/-- The station with its frame gone and the failures at 0, before the frame's owner is told (R6, R10, R17). -/
def transmitEnded (heard : Bool) (s : State) : State :=
  let s := startHold (setPhase .waitIdle s)
  countIf (!heard) .unheardFrames (s.setBus { s.bus.dropFrame with failures := 0 })

theorem endTransmit_eq (x : Sending) (heard : Bool) (s : State) :
    endTransmit x heard s = frameLeft x heard (transmitEnded heard s) := rfl

theorem bus_transmitEnded {x : Sending} (h : s.bus.sending = some x) (heard : Bool) : (transmitEnded heard s).bus =
    { s.bus with
      sending := none, failures := 0, hold := s.straps.courtesy, rxPhase := .waitIdle
      queue := match x.again with
        | some g => place ⟨x.frame.kind, g.dest, [], g.age⟩ s.bus.queue
        | none => s.bus.queue } := by
  cases hagain : x.again <;> cases heard <;>
    simp [transmitEnded, startHold, setPhase, setHold, countIf, count, Bus.dropFrame, h, hagain]

theorem cond_transmitEnded (heard : Bool) (s : State) :
    (transmitEnded heard s).cond = if heard then s.cond else s.cond.countUp .unheardFrames 1 := by
  cases heard <;> simp [transmitEnded, startHold, setPhase, setHold, countIf, count]

theorem transmitEnded_unchangedBut (heard : Bool) (s : State) : UnchangedBut [.bus, .cond] s (transmitEnded heard s) := by
  intro b hb
  cases b <;> simp [Block.same, transmitEnded, startHold, setHold] at hb ⊢

theorem exec_frameSent_eq {x : Sending} (h : s.bus.sending = some x) (heard : Bool) :
    exec (.frameSent heard) s = .next (frameLeft x heard (transmitEnded heard s)) := by
  have harm : exec (.frameSent heard) s = execFrameSent heard s := rfl
  simp [harm, execFrameSent, h, endTransmit_eq]

end Sys2Proof.Machine

/-! SUPPORT. What follows an emission, a CREDIT or a timer of the Pacer (chapters 4 to 6): it keeps the frames that wait, the lag
table, the last emitted sequence and the recording. -/

namespace Sys2Proof.Machine

open Sys2Proof

/-- What follows in the same step keeps: the frames that wait their places, a wire free of the station's own frames, the lag
table and the last emitted sequence, and the recording. -/
structure Follows (s t : State) : Prop where
  queue : s.bus.queue ⊆ t.bus.queue
  sending : s.bus.sending = none → t.bus.sending = none
  lag : t.pacer.lag = s.pacer.lag
  emitted : t.pacer.emitted = s.pacer.emitted
  storeState : t.store.state = s.store.state
  records : t.store.records = s.store.records
  storeCls : t.store.cls = s.store.cls
  storeFaces : t.store.faces = s.store.faces

namespace Follows

variable {s t u : State}

/-- What leaves the Bus Controller, the Pacer and the Trace Store as they are. -/
theorem same (hbus : t.bus = s.bus) (hpacer : t.pacer = s.pacer) (hstore : t.store = s.store) : Follows s t := by
  constructor <;> simp [hbus, hpacer, hstore]

theorem refl (s : State) : Follows s s := same rfl rfl rfl

theorem trans (h : Follows s t) (h' : Follows t u) : Follows s u where
  queue := List.Subset.trans h.queue h'.queue
  sending := h'.sending ∘ h.sending
  lag := h'.lag.trans h.lag
  emitted := h'.emitted.trans h.emitted
  storeState := h'.storeState.trans h.storeState
  records := h'.records.trans h.records
  storeCls := h'.storeCls.trans h.storeCls
  storeFaces := h'.storeFaces.trans h.storeFaces

theorem ite {p : Prop} [Decidable p] (ht : Follows s t) (hu : Follows s u) : Follows s (if p then t else u) := by
  split
  · exact ht
  · exact hu

theorem setGen (h : Follows s t) (x : Generator) : Follows s (t.setGen x) := h.trans (same rfl rfl rfl)

theorem setMotion (h : Follows s t) (x : Motion) : Follows s (t.setMotion x) := h.trans (same rfl rfl rfl)

theorem setGuard (h : Follows s t) (x : Guard) : Follows s (t.setGuard x) := h.trans (same rfl rfl rfl)

theorem setPacer (h : Follows s t) {x : Pacer} (hlag : x.lag = t.pacer.lag) (hemitted : x.emitted = t.pacer.emitted) :
    Follows s (t.setPacer x) :=
  h.trans { refl t with lag := hlag, emitted := hemitted }

theorem setStore (h : Follows s t) {x : TraceStore} (hstate : x.state = t.store.state)
    (hrecords : x.records = t.store.records) (hcls : x.cls = t.store.cls) (hfaces : x.faces = t.store.faces) :
    Follows s (t.setStore x) :=
  h.trans { refl t with storeState := hstate, records := hrecords, storeCls := hcls, storeFaces := hfaces }

theorem setBus (h : Follows s t) {b : Bus} (hqueue : t.bus.queue ⊆ b.queue)
    (hsending : t.bus.sending = none → b.sending = none) : Follows s (t.setBus b) :=
  h.trans { refl t with queue := hqueue, sending := hsending }

end Follows

/-! ## Offers -/

theorem follows_fill (k : Kind) (dest : Byte) (payload : List Byte) (s : State) :
    Follows s (s.setBus (s.bus.fill k dest payload)) :=
  (Follows.refl s).setBus (fun _ hg => mem_place.2 (.inr hg)) id

theorem follows_offerReport (k : Kind) (dest : Byte) (s : State) : Follows s (offerReport k dest s) := by
  have hfill : Follows s (s.setBus (s.bus.fillReport k dest)) := by
    unfold Bus.fillReport
    split
    · exact .refl s
    · exact follows_fill k dest [] s
  have hoffer : Follows s (s.setBus (s.bus.offerReport k dest)) := by
    unfold Bus.offerReport
    split
    · exact .refl s
    · split
      case h_1 x hx =>
        split
        · split
          · exact .refl s
          · exact (Follows.refl s).setBus (List.Subset.refl _) fun hnone => absurd (hx.symm.trans hnone) nofun
        · exact hfill
      case h_2 => exact hfill
  exact .ite hoffer (.refl s)

theorem follows_raise (c : Cond) (s : State) : Follows s (raise c s) := by
  have halert (u : State) : Follows u (alertRise c u) := by
    unfold alertRise
    split
    · have hrise : Follows u (u.setCond { u.cond with risen := some c }) := .same rfl rfl rfl
      exact hrise.trans (follows_offerReport _ _ _)
    · exact .refl u
  have hset : Follows s (s.setCond { s.cond with set := s.cond.set ||| c.mask }) := .same rfl rfl rfl
  exact .ite (.refl s) (hset.trans (.ite (halert _) (.refl _)))

theorem follows_raiseIf (p : Bool) (c : Cond) (s : State) : Follows s (raiseIf p c s) := .ite (follows_raise c s) (.refl s)

theorem follows_offerFinish (s : State) : Follows s (offerFinish s) := by
  have hdone (u : State) : Follows u (setStation .done u) := .same rfl rfl rfl
  have htake (u : State) : Follows u (u.setPacer { u.pacer with
      phase := .off, enrolTimer := none, tailTimer := none, tailExpired := false, finishDue := false, decision := none }) :=
    (Follows.refl u).setPacer rfl rfl
  exact .ite ((follows_fill _ _ _ s).trans ((htake _).trans (hdone _))) ((Follows.refl s).setPacer rfl rfl)

/-! ## The Guard's check and the tracer's moves -/

theorem follows_setClaim (iv : Interval) (s : State) : Follows s (setClaim iv s) :=
  .ite (.refl s) (((Follows.refl s).setGuard _).trans (follows_offerReport _ _ _))

theorem follows_setAnnounce (n : Option Interval) (s : State) : Follows s (setAnnounce n s) :=
  .ite (.refl s) (((Follows.refl s).setGuard _).trans (follows_offerReport _ _ _))

theorem follows_enterWait (side : Side) (s : State) : Follows s (enterWait side s) := (follows_setAnnounce none s).setGuard _

theorem follows_announceOn (side : Side) (n : Interval) (s : State) : Follows s (announceOn side n s) :=
  (follows_setAnnounce (some n) s).setGuard _

theorem follows_checkBeyond (side : Side) (n : Interval) (s : State) : Follows s (checkBeyond side n s) := by
  unfold checkBeyond
  split
  · exact (follows_setClaim n s).setGuard _
  · split
    · exact follows_enterWait side s
    · exact .ite (follows_enterWait side s) (follows_announceOn side n s)

theorem follows_beginCheck (sp : Setpoint) (s : State) : Follows s (beginCheck sp s) := by
  have hput : Follows s (s.setGuard { s.guard with atCheck := some sp }) := (Follows.refl s).setGuard _
  obtain h | ⟨side, n, h⟩ := beginCheck_cases sp s
  · exact h ▸ hput.setGuard _
  · exact h ▸ hput.trans (follows_checkBeyond side n _)

theorem follows_pumpMoves (s : State) : Follows s (pumpMoves s) := by
  unfold pumpMoves
  split
  · exact .ite (((Follows.refl s).setMotion _).trans (follows_beginCheck _ _)) (.refl s)
  · exact .refl s

theorem follows_commandMove (sp : Setpoint) (s : State) : Follows s (commandMove sp s) :=
  ((Follows.refl s).setMotion _).trans (follows_pumpMoves _)

/-! ## The Generator (chapter 4) -/

theorem follows_build (b : Built) (s : State) : Follows s (build b s) := (Follows.refl s).setGen _

theorem follows_beginFace (w : TracerJob) (k : Nat) (s : State) : Follows s (beginFace w k s) :=
  ((Follows.refl s).setGen _).trans (follows_build _ _)

theorem follows_takeSample (r : JobRecord) (w : TracerJob) (probe : Option Probe) (s : State) :
    Follows s (takeSample r w probe s) := by
  have hhere : Follows s (s.setGen { s.gen with phase := .atSample }) := (Follows.refl s).setGen _
  unfold takeSample
  refine hhere.trans ?_
  dsimp only
  split
  · exact .ite (.ite ((follows_build _ _).trans (follows_raise _ _)) (follows_build _ _)) (follows_build _ _)
  · exact follows_build _ _

theorem follows_nextPoint (r : JobRecord) (w : TracerJob) (s : State) : Follows s (nextPoint r w s) := by
  unfold nextPoint
  split
  · exact .ite ((((Follows.refl s).setGen _).setGen _).trans (follows_commandMove _ _))
      (((Follows.refl s).setGen _).trans (follows_takeSample r w none _))
  · exact .ite (follows_beginFace _ _ s) (follows_build _ s)

theorem follows_endFollowPass (w : TracerJob) (s : State) : Follows s (endFollowPass w s) :=
  .ite (((follows_build _ s).setGen _).trans (follows_build _ _)) (follows_build _ s)

theorem follows_holdLift (w : TracerJob) (s : State) : Follows s (holdLift w s) := by
  unfold holdLift
  dsimp only
  split
  · exact ((follows_build _ s).setGen _).trans (follows_raiseIf _ _ _)
  · exact .ite (((follows_build _ s).setGen _).trans (follows_raise _ _)) (.refl s)

theorem follows_endHold (s : State) : Follows s (endHold s) := by
  unfold endHold
  split
  · exact .ite (((follows_holdLift _ s).setGen _).trans (.ite (follows_endFollowPass _ _) (.refl _))) (.refl s)
  · exact .refl s

theorem follows_beginLive (r : JobRecord) (w : TracerJob) (p c : Nat) (s : State) : Follows s (beginLive r w p c s) := by
  unfold beginLive
  dsimp only
  split
  · exact (follows_build _ s).setGen _
  · exact ((follows_build _ s).setGen _).trans (follows_commandMove _ _)

/-- The cursor of a replay is not of the recording (R98). -/
theorem follows_setCursor (c : Option Cursor) (s : State) : Follows s (s.setStore { s.store with cursor := c }) :=
  (Follows.refl s).setStore rfl rfl rfl rfl

theorem follows_buildReplay (c : Cursor) (s : State) : Follows s (buildReplay c s) :=
  (follows_setCursor (some c) s).trans (follows_build _ _)

theorem follows_orderPass (p c : Nat) (s : State) : Follows s (orderPass p c s) := by
  have horder : Follows s (s.setPacer { s.pacer with
      pass := p, cls := c, phase := .passing, enrolTimer := none, tailTimer := none, tailExpired := false }) :=
    (Follows.refl s).setPacer rfl rfl
  unfold orderPass
  refine horder.trans ?_
  dsimp only
  split
  · exact .ite (follows_buildReplay _ _) (follows_beginLive _ _ _ _ _)
  · exact .refl _

/-! ## The Pacer (chapter 5) -/

theorem follows_decidePass (p : Nat) (s : State) : Follows s (decidePass p s) := by
  have hdone : Follows s (raise .jobDone (offerFinish s)) := (follows_offerFinish s).trans (follows_raise _ _)
  exact .ite hdone (.ite (hdone.trans (follows_raise _ _)) (follows_orderPass _ _ s))

theorem follows_testCollection (s : State) : Follows s (testCollection s) :=
  .ite (.ite ((Follows.refl s).setPacer rfl rfl) (follows_decidePass _ s)) (.refl s)

theorem follows_enterCollecting (r : JobRecord) (w : TracerJob) (s : State) : Follows s (enterCollecting r w s) := by
  have hcollect (u : State) : Follows u (u.setPacer { u.pacer with
      phase := .collecting, tailTimer := none, tailExpired := false }) := (Follows.refl u).setPacer rfl rfl
  have hquiet : Follows s (s.setGen { s.gen with phase := .quiet, exitPoint := none, passEndNoted := false }) :=
    (Follows.refl s).setGen _
  unfold enterCollecting
  dsimp only
  refine .trans ((hquiet.trans (hcollect _)).trans ?_) (follows_testCollection _)
  split
  · exact follows_commandMove _ _
  · exact .refl _

/-! ## What follows an emission (R58 to R70, R98) -/

theorem follows_afterLive (j : JobRecord) (w : TracerJob) (r : TraceRecord) (s : State) : Follows s (afterLive j w r s) := by
  unfold afterLive
  split
  · exact follows_enterCollecting j w s
  · split
    · exact follows_beginFace w 0 s
    · exact follows_endHold s
  · split
    · exact .ite (follows_commandMove _ s) (follows_nextPoint j w s)
    · exact follows_endHold s

theorem follows_afterReplay (j : JobRecord) (w : TracerJob) (c : Cursor) (s : State) : Follows s (afterReplay j w c s) := by
  unfold afterReplay
  split
  · exact follows_buildReplay _ s
  · exact (follows_setCursor none s).trans (follows_enterCollecting j w _)

/-! ## The emission of the head record (R57, R58, R94) -/

section

variable {s : State} {w : TracerJob} {r : TraceRecord} {rest : List TraceRecord} {j : JobRecord}

theorem tracerJob_of_record (hj : s.job.record = some j) (hw : j.work = .tracer w) : s.tracerJob = some w := by
  simp [State.tracerJob, hj, hw]

theorem recordEmitted_cases (w : TracerJob) (r : TraceRecord) (s : State) :
    ∃ x, recordEmitted w r s = s.setStore x ∨ recordEmitted w r s = raise .storeFull (s.setStore x) := by
  unfold recordEmitted
  split
  case h_1 => split <;> exact ⟨_, .inl rfl⟩
  case h_2 =>
    split
    · exact ⟨_, .inl rfl⟩
    · exact ⟨_, .inl rfl⟩
    · split
      · exact ⟨_, .inl rfl⟩
      · exact ⟨_, .inr rfl⟩
  case h_3 | h_4 => exact ⟨_, .inl rfl⟩

/-- The record stands in the queue as a TRACE to all, its sequence is the last emitted, and what waited still waits. -/
theorem emittedState_sent (w : TracerJob) (r : TraceRecord) (rest : List TraceRecord) (s : State) :
    (⟨.trace, 255, tracePayload r, s.bus.offers⟩ ∈ (emittedState w r rest s).bus.queue ∧
      s.bus.queue ⊆ (emittedState w r rest s).bus.queue) ∧
    (s.bus.sending = none → (emittedState w r rest s).bus.sending = none) ∧
    (emittedState w r rest s).pacer = { s.pacer with emitted := r.seq } := by
  set u := ((s.setGen { s.gen with due := rest }).setBus (s.bus.fill .trace 255 (tracePayload r))).setPacer
    { s.pacer with emitted := r.seq } with hu
  have hqueue : ⟨.trace, 255, tracePayload r, s.bus.offers⟩ ∈ u.bus.queue ∧ s.bus.queue ⊆ u.bus.queue :=
    ⟨mem_place.2 (.inl rfl), fun g hg => mem_place.2 (.inr hg)⟩
  obtain ⟨x, h | h⟩ := recordEmitted_cases w r u
  · have hemit : emittedState w r rest s = u.setStore x := h
    rw [hemit]
    exact ⟨hqueue, id, rfl⟩
  · have hemit : emittedState w r rest s = raise .storeFull (u.setStore x) := h
    have hkept := follows_raise .storeFull (u.setStore x)
    rw [hemit]
    exact ⟨⟨hkept.queue hqueue.1, List.Subset.trans hqueue.2 hkept.queue⟩, hkept.sending, by simp [hu]⟩

theorem follows_emitHead (hdue : s.gen.due = r :: rest) (hj : s.job.record = some j) (hw : s.tracerJob = some w) :
    Follows (emittedState w r rest s) (emitHead s) := by
  rw [emitHead_eq hdue hj hw]
  split
  · exact follows_afterReplay j w _ _
  · exact follows_afterLive j w r _

end

end Sys2Proof.Machine

/-! SUPPORT. The end of a transmission (R10, R14): the frame's owner told, and the freed general place given on. -/

namespace Sys2Proof.Machine

open Sys2Proof

variable {s : State}

theorem endsPass_eq (p : Pacer) (payload : List Byte) : endsPass p payload = decide (p.phase = .collecting ∧
    p.tailExpired = false ∧ p.tailTimer = none ∧ byteAt payload 3 = 5 ∧ byteAt payload 2 = p.pass) := by
  rw [Bool.eq_iff_iff]
  simp [endsPass, RecordKind.code, and_assoc]

/-- The Pacer after a frame of the station's own has left: its tail timer runs from the PASS_END on (R85). -/
def Pacer.frameLeft (p : Pacer) (k : Kind) (payload : List Byte) : Pacer :=
  if k = .trace ∧ p.phase = .collecting ∧ p.tailExpired = false ∧ p.tailTimer = none ∧ byteAt payload 3 = 5 ∧
    byteAt payload 2 = p.pass then { p with tailTimer := some 1000 } else p

theorem Pacer.finishDue_frameLeft (p : Pacer) (k : Kind) (payload : List Byte) :
    (p.frameLeft k payload).finishDue = p.finishDue := by
  unfold Pacer.frameLeft
  split <;> rfl

theorem Pacer.lag_frameLeft (p : Pacer) (k : Kind) (payload : List Byte) : (p.frameLeft k payload).lag = p.lag := by
  unfold Pacer.frameLeft
  split <;> rfl

theorem traceSent_eq (payload : List Byte) (s : State) :
    traceSent payload s = s.setPacer (s.pacer.frameLeft .trace payload) := by
  unfold traceSent Pacer.frameLeft
  rw [endsPass_eq]
  by_cases h : s.pacer.phase = .collecting ∧ s.pacer.tailExpired = false ∧ s.pacer.tailTimer = none ∧
      byteAt payload 3 = 5 ∧ byteAt payload 2 = s.pacer.pass
  · rw [if_pos (by simpa using h), if_pos ⟨rfl, h⟩]
  · rw [if_neg (by simpa using h), if_neg fun hkind => h hkind.2]
    rfl

/-- A frame of a general place frees it (R14). -/
theorem frameLeft_of_general {x : Sending} (h : x.frame.kind.isReport = false) (heard : Bool) (s : State) :
    frameLeft x heard s = placeFreed (s.setPacer (s.pacer.frameLeft x.frame.kind x.frame.payload)) := by
  have hother (hk : x.frame.kind ≠ .trace) : s.setPacer (s.pacer.frameLeft x.frame.kind x.frame.payload) = s := by
    simp [Pacer.frameLeft, hk]
    rfl
  unfold frameLeft
  split
  case h_1 hk | h_2 hk | h_3 hk => simp [hk, Kind.isReport] at h
  case h_4 hk => rw [traceSent_eq, hk]
  case h_5 hk => rw [hother hk]

/-- With nothing waiting for a general place, the frame's owner is told and nothing else changes (R10, R188). -/
theorem frameLeft_of_none (hfinish : s.pacer.finishDue = false) (hdue : s.gen.due = []) (hjoin : s.roster.joinDue = none)
    (x : Sending) (heard : Bool) :
    (frameLeft x heard s).bus = s.bus ∧
    (frameLeft x heard s).cond = (if x.frame.kind = .alert then { s.cond with inflight := none } else s.cond) ∧
    (frameLeft x heard s).guard = (if x.frame.kind = .reach then (reachSent heard s).guard else s.guard) ∧
    (frameLeft x heard s).pacer = s.pacer.frameLeft x.frame.kind x.frame.payload ∧
    UnchangedBut [.pacer, .guard, .cond] s (frameLeft x heard s) := by
  have hpacer (k : Kind) (payload : List Byte) (hk : k ≠ .trace) : s.pacer.frameLeft k payload = s.pacer := by
    simp [Pacer.frameLeft, hk]
  by_cases hreport : x.frame.kind.isReport = true
  · cases hk : x.frame.kind <;> simp only [hk, Kind.isReport, Bool.false_eq_true] at hreport
    case alert | reach | credit =>
      have hsame := hpacer x.frame.kind x.frame.payload (by simp [hk])
      rw [← hk, hsame]
      refine ⟨?_, ?_, ?_, ?_, fun b hb => ?_⟩
      · simp [frameLeft, hk]
      · simp [frameLeft, hk, reachSent]
      · simp [frameLeft, hk]
      · simp [frameLeft, hk]
      · cases b <;> simp [Block.same, frameLeft, hk] at hb ⊢
  · have hkind : x.frame.kind.isReport = false := by simpa using hreport
    have hnone : frameLeft x heard s = s.setPacer (s.pacer.frameLeft x.frame.kind x.frame.payload) := by
      rw [frameLeft_of_general hkind]
      refine placeFreed_of_none ?_ hdue hjoin
      unfold Pacer.frameLeft
      split <;> exact hfinish
    have halert : x.frame.kind ≠ .alert := fun hk => by simp [hk, Kind.isReport] at hkind
    have hreach : x.frame.kind ≠ .reach := fun hk => by simp [hk, Kind.isReport] at hkind
    rw [hnone, if_neg halert, if_neg hreach]
    refine ⟨rfl, rfl, rfl, rfl, fun b hb => ?_⟩
    cases b <;> simp [Block.same] at hb ⊢

/-! ## A freed general place (R14) -/

/-- The frame of a general place gone leaves room for another (R13). -/
theorem hasRoom_transmitEnded {x : Sending} (hsending : s.bus.sending = some x) (hreport : x.frame.kind.isReport = false)
    (hagain : x.again = none) (hmute : s.bus.mute = false) (hheld : s.bus.generalHeld ≤ 5) (heard : Bool) :
    (transmitEnded heard s).bus.hasRoom = true := by
  have hcount : (s.bus.queue.filter fun f => !f.kind.isReport).length + 1 = s.bus.generalHeld := by
    simp [Bus.generalHeld, Bus.places, hsending, hreport]
  rw [Bus.hasRoom_iff, bus_transmitEnded hsending, hagain]
  refine ⟨hmute, ?_⟩
  simp only [Bus.generalHeld, Bus.places]
  omega

theorem offerFinish_of_room (hrunning : s.isRunning = true) (hroom : s.bus.hasRoom = true) :
    (offerFinish s).job = { s.job with state := .done } ∧ (offerFinish s).pacer = { s.pacer with
      phase := .off, enrolTimer := none, tailTimer := none, tailExpired := false, finishDue := false, decision := none } ∧
    (offerFinish s).bus = s.bus.fill .finish 255 (put16 s.jobId) := by
  simp [offerFinish, hrunning, hroom, job_setStation]

theorem placeFreed_of_finish (hfinish : s.pacer.finishDue = true) (hrunning : s.isRunning = true)
    (hroom : s.bus.hasRoom = true) : placeFreed s = offerFinish s := by
  simp [placeFreed, hfinish, hrunning, hroom]

theorem placeFreed_of_gate (hfinish : s.pacer.finishDue = false) (hgate : s.gateOpen = true) :
    placeFreed s = emitHead s := by
  simp [placeFreed, hfinish, hgate]

theorem placeFreed_of_join (hfinish : s.pacer.finishDue = false) (hdue : s.gen.due = []) {answer : Bool}
    (hjoin : s.roster.joinDue = some answer) (hroom : s.bus.hasRoom = true) : placeFreed s = offerJoin answer s := by
  have hgate : s.gateOpen = false := by simp [State.gateOpen, hdue]
  simp [placeFreed, hfinish, hgate, hjoin, hroom]

/-- Settles O15: the frame's place, its count and its owner first; then the freed general place, by what waits for it. -/
theorem frameSentFreesItsPlace : Obligations.FrameSentFreesItsPlace := by
  intro s x hx heard
  have hnext := exec_frameSent_eq hx heard
  have hbus := bus_transmitEnded hx heard
  have hsame := transmitEnded_unchangedBut heard s
  have hpacer : (transmitEnded heard s).pacer = s.pacer := hsame .pacer (by decide)
  have hgen : (transmitEnded heard s).gen = s.gen := hsame .gen (by decide)
  have hroster : (transmitEnded heard s).roster = s.roster := hsame .roster (by decide)
  have hjob : (transmitEnded heard s).job = s.job := hsame .job (by decide)
  have hguard : (transmitEnded heard s).guard = s.guard := hsame .guard (by decide)
  have hstraps : (transmitEnded heard s).straps = s.straps := hsame .straps (by decide)
  refine ⟨fun hfinish hdue hjoin => ⟨_, hnext, ?_⟩, fun hreport hagain hmute hheld => ⟨_, hnext, ?_⟩⟩
  · obtain ⟨hbus', hcond', hguard', hpacer', hframe'⟩ := frameLeft_of_none (s := transmitEnded heard s)
      (by rw [hpacer]; exact hfinish) (by rw [hgen]; exact hdue) (by rw [hroster]; exact hjoin) x heard
    refine ⟨hbus'.trans hbus, ?_, ?_, ?_, ?_, ?_, ?_, ?_⟩
    · rw [hcond', cond_transmitEnded]
      split <;> rfl
    · rw [hcond', cond_transmitEnded]
      split <;> cases heard <;> rfl
    · rw [hcond', cond_transmitEnded]
      split <;> cases heard <;> rfl
    · rw [hcond', cond_transmitEnded]
      split <;> cases heard <;> rfl
    · rw [hguard', reachSent, State.setGuard_guard, hguard]
    · rw [hpacer', hpacer, Pacer.frameLeft]
    · exact (hsame.mono (by decide)).trans (hframe'.mono (by decide))
  · have hroom := hasRoom_transmitEnded hx hreport hagain hmute hheld heard
    rw [frameLeft_of_general hreport]
    set v := (transmitEnded heard s).setPacer
      ((transmitEnded heard s).pacer.frameLeft x.frame.kind x.frame.payload) with hv
    have hvpacer : v.pacer = s.pacer.frameLeft x.frame.kind x.frame.payload := by rw [hv, State.setPacer_pacer, hpacer]
    have hvjob : v.job = s.job := hjob
    have hvgen : v.gen = s.gen := hgen
    have hvroster : v.roster = s.roster := hroster
    have hvroom : v.bus.hasRoom = true := hroom
    have hvqueue : v.bus.queue = s.bus.queue := by
      have hqueue : v.bus.queue = (transmitEnded heard s).bus.queue := rfl
      rw [hqueue, hbus, hagain]
    have hvsending : v.bus.sending = none := by
      have hsending : v.bus.sending = (transmitEnded heard s).bus.sending := rfl
      rw [hsending, hbus]
    have hvfinish : v.pacer.finishDue = s.pacer.finishDue := by rw [hvpacer, Pacer.finishDue_frameLeft]
    have hvrunning : v.isRunning = s.isRunning := by rw [State.isRunning, State.isRunning, hvjob]
    refine ⟨fun hfinish hrunning => ?_, fun hfinish hrunning hrole hphase htraces hwork r rest hdue hallows => ?_,
      fun hfinish hdue a hjoin => ?_⟩
    · obtain ⟨hdone, hoff, hfilled⟩ := offerFinish_of_room (hvrunning.trans hrunning) hvroom
      rw [placeFreed_of_finish (hvfinish.trans hfinish) (hvrunning.trans hrunning) hvroom]
      refine ⟨by rw [hdone], by rw [hoff], by simp [hvgen], by simp [hvroster],
        ⟨⟨.finish, 255, put16 v.jobId, v.bus.offers⟩, ?_, rfl, rfl, ?_⟩⟩
      · rw [hfilled]
        exact mem_place.2 (.inl rfl)
      · simp only [State.jobId, hvjob]
    · have hgate : v.gateOpen = true := by
        have htracesHeld : v.bus.tracesHeld < 4 := by
          simpa only [Bus.tracesHeld, Bus.places, hvsending, hvqueue] using htraces
        have hvallows : v.pacer.allows r.seq = true := by
          simpa only [Pacer.allows, Pacer.participating, hvpacer, Pacer.lag_frameLeft] using hallows
        have hvrole : v.isTracer = true := by
          have hstraps' : v.straps = s.straps := hstraps
          simp [State.isTracer, hstraps', hrole]
        simp [State.gateOpen, hvrole, hvrunning.trans hrunning, Bus.hasTraceRoom, hvroom, htracesHeld, hvgen, hphase, hdue,
          hvallows]
      obtain ⟨w, hw⟩ := Option.isSome_iff_exists.1 hwork
      have hvw : v.tracerJob = some w := by rw [← hw, State.tracerJob, State.tracerJob, hvjob]
      obtain ⟨j, hj⟩ : ∃ j, v.job.record = some j := by
        cases hrecord : v.job.record with
        | none => simp [State.tracerJob, hrecord] at hvw
        | some j => exact ⟨j, rfl⟩
      have hdue' : v.gen.due = r :: rest := hvgen ▸ hdue
      have hfollows := follows_emitHead hdue' hj hvw
      obtain ⟨⟨hmem, -⟩, -, hemitted⟩ := emittedState_sent w r rest v
      rw [placeFreed_of_gate (hvfinish.trans hfinish) hgate]
      refine ⟨by simp [hvroster], ?_, ⟨_, hfollows.queue hmem, rfl, rfl, rfl⟩⟩
      rw [hfollows.emitted, hemitted]
    · rw [placeFreed_of_join (hvfinish.trans hfinish) (hvgen ▸ hdue) (hvroster ▸ hjoin) hvroom]
      have hpayload : v.joinPayload a = s.joinPayload a := by
        have hstraps' : v.straps = s.straps := hstraps
        simp only [State.joinPayload, State.selfCheckResult, State.isCarver, State.number, hstraps', hvroster] <;> rfl
      refine ⟨by simp [offerJoin, hvroom, hvroster], ⟨⟨.join, 255, v.joinPayload a, v.bus.offers⟩, ?_, rfl, rfl, hpayload⟩⟩
      simp [offerJoin, hvroom, Bus.fill, mem_place]

end Sys2Proof.Machine

/-! SUPPORT. Frames received (R4 to R12), the payloads of reports (R116, R178, R188), the lamps and the arm brake (R34, R68). -/

namespace Sys2Proof.Machine

open Sys2Proof

variable {s : State}

/-! ## Frames received -/

/-- The station with the frame in hand read to its end: not acknowledged, the receiver waiting for the idle (R4, R6, R7). -/
def frameRead (s : State) : State := setPhase .waitIdle (endHoldAtStart (clearAck s))

theorem bus_frameRead (s : State) : (frameRead s).bus =
    { s.bus with ack := false, rxPhase := .waitIdle, hold := s.bus.hold && s.bus.rxPhase != .ready } := by
  by_cases hphase : s.bus.rxPhase = .ready <;> simp [frameRead, setPhase, endHoldAtStart, clearAck, setHold, hphase]

theorem frameRead_unchangedBut (s : State) : UnchangedBut [.bus] s (frameRead s) := by
  intro b hb
  cases b <;> simp [Block.same, frameRead] at hb ⊢

theorem exec_badFrame_of_other (hlisten : s.listening = true) (hsending : s.bus.sending = none) :
    exec .badFrame s = .next (countBadFrame (frameRead s)) := by
  have harm : exec .badFrame s = execBadFrame s := rfl
  simp [harm, execBadFrame, hlisten, hsending, frameRead]

theorem exec_badFrame_of_own {x : Sending} (hlisten : s.listening = true) (hsending : s.bus.sending = some x) :
    exec .badFrame s = .next (echoMismatch x (clearAck s)) := by
  have harm : exec .badFrame s = execBadFrame s := rfl
  simp [harm, execBadFrame, hlisten, hsending]

theorem exec_frameReceived_of_other (hlisten : s.listening = true) (hsending : s.bus.sending = none) (bytes : List Byte) :
    exec (.frameReceived bytes) s = .next (settle bytes (frameRead s)) := by
  have harm : exec (.frameReceived bytes) s = execFrameReceived bytes s := rfl
  have hnone : (clearAck s).bus.sending = none := hsending
  rw [harm, execFrameReceived, if_pos hlisten, receive]
  simp only [hnone, frameRead]

theorem exec_frameReceived_of_own {x : Sending} (hlisten : s.listening = true) (hsending : s.bus.sending = some x)
    (bytes : List Byte) : exec (.frameReceived bytes) s = .next (readBack x bytes (clearAck s)) := by
  have harm : exec (.frameReceived bytes) s = execFrameReceived bytes s := rfl
  have hown : (clearAck s).bus.sending = some x := hsending
  rw [harm, execFrameReceived, if_pos hlisten, receive]
  simp only [hown]

theorem addressed_iff (s : State) (dest : Byte) :
    s.addressed dest = true ↔ dest = byteOf s.straps.number.val ∨ dest = 255 := by
  simp [State.addressed, State.number]

theorem settle_of_none {bytes : List Byte} (h : readFrame bytes = none) : settle bytes s = countBadFrame s := by
  simp [settle, h]

theorem settle_of_passing {bytes : List Byte} {f : Frame} (h : readFrame bytes = some f)
    (hdest : s.addressed f.dest = false) : settle bytes s = s := by
  simp [settle, h, hdest]

theorem settle_of_full {bytes : List Byte} {f : Frame} (h : readFrame bytes = some f) (hdest : s.addressed f.dest = true)
    (hrx : 4 ≤ s.bus.rx.length) : settle bytes s = count .receiveOverruns 1 s := by
  simp [settle, h, hdest, Nat.not_lt.2 hrx]

theorem settle_of_free {bytes : List Byte} {f : Frame} (h : readFrame bytes = some f) (hdest : s.addressed f.dest = true)
    (hrx : s.bus.rx.length < 4) : settle bytes s = accept f s := by
  simp [settle, h, hdest, hrx]

theorem count_unchangedBut (c : Counter) (n : Nat) (s : State) : UnchangedBut [.cond] s (count c n s) := by
  intro b hb
  cases b <;> simp [Block.same] at hb ⊢

theorem bus_accept_of_reset {f : Frame} (hreset : f.kind = .reset) (hself : f.dest = byteOf s.number) :
    (accept f s).bus = { s.bus with ack := !s.bus.mute, resetDue := true } := by
  have h (u : State) (hu : u.number = s.number) : f.kind = .reset ∧ f.dest = byteOf u.number := ⟨hreset, hu ▸ hself⟩
  exact congrArg State.bus (if_pos (h (s.setBus { s.bus with ack := !s.bus.mute }) rfl))

theorem bus_accept_of_other {f : Frame} (h : ¬ (f.kind = .reset ∧ f.dest = byteOf s.number)) :
    (accept f s).bus = { s.bus with ack := !s.bus.mute, rx := s.bus.rx ++ [f] } :=
  congrArg State.bus (if_neg h)

/-- A station number is none of the address to all (R1). -/
theorem byteOf_number_ne (s : State) : byteOf s.straps.number.val ≠ 255 := by
  intro h
  have hlt := s.straps.number.isLt
  have hval := congrArg BitVec.toNat h
  rw [toNat_byteOf (by omega)] at hval
  simp at hval
  omega

theorem accept_unchangedBut (f : Frame) (s : State) : UnchangedBut [.bus] s (accept f s) := by
  intro b hb
  cases b <;> simp [Block.same] at hb ⊢

/-- Settles O16: another station's frame is settled by its check, its destination and the room in the buffer; the station's
own is only tested. -/
theorem receivedFramesAreSettled : Obligations.ReceivedFramesAreSettled := by
  intro s hlisten
  refine ⟨fun hsending => ?_, fun hown => ?_⟩
  · have hread := frameRead_unchangedBut s
    have hbus := bus_frameRead s
    have hcond : (frameRead s).cond = s.cond := hread .cond (by decide)
    have hstraps : (frameRead s).straps = s.straps := hread .straps (by decide)
    have hcounted (c : Counter) : UnchangedBut [.bus, .cond] s (count c 1 (frameRead s)) :=
      (hread.mono (by decide)).trans ((count_unchangedBut c 1 _).mono (by decide))
    have hcount (c : Counter) : (count c 1 (frameRead s)).cond = s.cond.countUp c 1 := by rw [← hcond]; rfl
    refine ⟨⟨_, exec_badFrame_of_other hlisten hsending, hbus, hcount _, hcounted _⟩,
      fun bytes => ⟨_, exec_frameReceived_of_other hlisten hsending bytes, fun hbad => ?_, fun f hgood => ⟨?_, ?_⟩⟩⟩
    · rw [settle_of_none hbad]
      exact ⟨hbus, hcount _, hcounted _⟩
    · intro hnumber hall
      have hdest : (frameRead s).addressed f.dest = false := by
        rw [Bool.eq_false_iff, Ne, addressed_iff, hstraps]
        exact fun h => h.elim hnumber hall
      rw [settle_of_passing hgood hdest]
      exact ⟨hbus, hread⟩
    · intro hto
      have hdest : (frameRead s).addressed f.dest = true := by rwa [addressed_iff, hstraps]
      have hrx : (frameRead s).bus.rx = s.bus.rx := by rw [hbus]
      refine ⟨fun hfull => ?_, fun hfree => ?_⟩
      · rw [settle_of_full hgood hdest (hrx ▸ hfull)]
        exact ⟨hbus, hcount _, hcounted _⟩
      · have hnumber : (frameRead s).number = s.straps.number.val := by rw [State.number, hstraps]
        rw [settle_of_free hgood hdest (hrx ▸ hfree)]
        refine ⟨(hread.mono (by decide)).trans (accept_unchangedBut f _), fun hreset hall => ?_, fun hother => ?_⟩
        · have hself : f.dest = byteOf s.straps.number.val := hto.resolve_right hall
          rw [bus_accept_of_reset hreset (hnumber ▸ hself), hbus]
        · have hnot : ¬ (f.kind = .reset ∧ f.dest = byteOf (frameRead s).number) := by
            rw [hnumber]
            rintro ⟨hreset, hself⟩
            exact byteOf_number_ne s (hself.symm.trans (hother.resolve_left (not_not_intro hreset)))
          rw [bus_accept_of_other hnot, hbus]
  · obtain ⟨x, hx⟩ := Option.isSome_iff_exists.1 hown
    have hx' : (clearAck s).bus.sending = some x := hx
    have hecho := exec_transmitFailure_eq hx' .echo
    refine ⟨(exec_badFrame_of_own hlisten hx).trans hecho.symm, fun bytes => ⟨fun hbad => ?_, fun f hgood => ?_⟩⟩
    · rw [exec_frameReceived_of_own hlisten hx, hecho]
      simp [readBack, hbad]
    · refine ⟨_, exec_frameReceived_of_own hlisten hx bytes, ?_⟩
      have hread : readBack x bytes (clearAck s) =
          countIf ((clearAck s).addressed f.dest && decide (4 ≤ s.bus.rx.length)) .receiveOverruns (clearAck s) := by
        simp only [readBack, hgood] <;> rfl
      have hdest : ((clearAck s).addressed f.dest && decide (4 ≤ s.bus.rx.length)) =
          decide ((f.dest = byteOf s.straps.number.val ∨ f.dest = 255) ∧ 4 ≤ s.bus.rx.length) := by
        rw [Bool.eq_iff_iff, Bool.and_eq_true, addressed_iff]
        simp [clearAck]
      rw [hread, hdest, countIf]
      split
      case isTrue h =>
        rw [if_pos (of_decide_eq_true h)]
        refine ⟨rfl, rfl, fun b hb => ?_⟩
        cases b <;> simp [Block.same] at hb ⊢
      case isFalse h =>
        rw [if_neg fun htrue => h (decide_eq_true htrue)]
        refine ⟨rfl, rfl, fun b hb => ?_⟩
        cases b <;> simp [Block.same] at hb ⊢

end Sys2Proof.Machine

/-! SUPPORT. Reports as they are filled (R116, R178, R188), the lamps and the arm brake (R34, R68). -/

namespace Sys2Proof.Machine

open Sys2Proof

variable {s : State}

/-! ## The payloads of reports -/

theorem jobId_eq (s : State) : s.jobId = (s.job.record.map (·.id)).getD 0 := by
  cases h : s.job.record <;> simp [State.jobId, h]

theorem carverJob_of_carver {r : JobRecord} {c : CarverJob} (hr : s.job.record = some r) (hc : r.work = .carver c) :
    s.carverJob = some c := by
  simp [State.carverJob, hr, hc]

/-- A bit of one of the bytes that hold a number is a bit of the number. -/
theorem getLsbD_byteOf_div (w : BitVec 32) (j i : Nat) (hi : i < 8) :
    (byteOf (w.toNat / 2 ^ j)).getLsbD i = w.getLsbD (j + i) := by
  rw [byteOf, BitVec.getLsbD_ofNat]
  simp [hi, BitVec.getLsbD, Nat.testBit_div_two_pow, Nat.add_comm]

theorem putSet_eq (w : BitVec 32) : putSet w =
    [byteOf (w.toNat / 2 ^ 24), byteOf (w.toNat / 2 ^ 16), byteOf (w.toNat / 2 ^ 8), byteOf (w.toNat / 2 ^ 0)] := by
  simp [putSet, put16, Nat.div_div_eq_div_mul]

/-- The four bytes of the set hold condition k as bit 7 − k mod 8 of byte k / 8 (section 13.6). -/
theorem getLsbD_putSet (u : ConditionUnit) (k : Cond) :
    ((putSet u.set).getD (k.number / 8) 0).getLsbD (7 - k.number % 8) = u.has k := by
  have hk := k.number_lt
  have hbit : 7 - k.number % 8 < 8 := by omega
  rw [has_eq_getLsbD, putSet_eq]
  obtain hbyte | hbyte | hbyte | hbyte : k.number / 8 = 0 ∨ k.number / 8 = 1 ∨ k.number / 8 = 2 ∨ k.number / 8 = 3 := by
    omega
  all_goals
    simp only [hbyte, List.getD_cons_zero, List.getD_cons_succ]
    rw [getLsbD_byteOf_div _ _ _ hbit]
    congr 1
    omega

/-- Settles O17: the bytes by the wire's order of them, each report's payload by its fields. -/
theorem reportsAreFilledFromTheState : Obligations.ReportsAreFilledFromTheState := by
  intro s
  refine ⟨fun x hx => ?_, fun hnone => ?_, fun f => ⟨fun hk a ha => ?_, fun hk hnone => ?_, fun hk r hr c hc p hp => ?_,
    fun hk c hc => ?_, fun hreach hcredit halert => ?_⟩⟩
  · simp [sentBytes, hx, Sending.wire, wireBytes, frameHead, State.number]
  · simp [sentBytes, hnone]
  · simp [fillPayload, hk, reachPayload, ha, putInterval]
  · have hzero : putLength 0 = [0, 0, 0] := by decide
    simp [fillPayload, hk, reachPayload, hnone, putInterval, hzero]
  · have hid : s.jobId = r.id := by simp [jobId_eq, hr]
    have hclass : requestedClass s = p.cls := by
      cases hindex : s.seq.index <;> simp_all [requestedClass, carverJob_of_carver hr hc]
    have hwants : putFlag (!s.seq.resting) = if s.seq.resting then 0 else 1 := by
      cases s.seq.resting <;> rfl
    have hbroken : putFlag s.seq.reported.broken = if s.seq.reported.broken then 1 else 0 := rfl
    simp only [fillPayload, hk, creditPayload, hid, hclass, hwants, hbroken]
  · have hrisen : firstRisen s = byteOf c.number := by simp [firstRisen, hc]
    have hfill : fillPayload f s = put16 s.jobId ++ [byteOf c.number] ++ putSet s.cond.set ++ [byteOf s.job.state.code] := by
      simp [fillPayload, hk, alertPayload, hrisen]
    have hset : (putSet s.cond.set).length = 4 := rfl
    rw [hfill, ← jobId_eq]
    refine ⟨rfl, rfl, fun k => ?_, rfl⟩
    have hbyte : k.number / 8 < (putSet s.cond.set).length := by
      have hk := k.number_lt
      omega
    have hplace : (put16 s.jobId ++ [byteOf c.number] ++ putSet s.cond.set ++ [byteOf s.job.state.code]).getD
        (3 + k.number / 8) 0 = (putSet s.cond.set ++ [byteOf s.job.state.code]).getD (k.number / 8) 0 := by
      rw [Nat.add_comm]
      rfl
    rw [hplace, List.getD_append _ _ _ _ hbyte, getLsbD_putSet]
  · cases hk : f.kind <;> simp_all [fillPayload]

/-! ## Lamps (R34) -/

/-- 250 ms on, the other half of the cycle is shown. -/
theorem flashOn_shift (s : State) : flashOn { s with now := s.now + 2500 } = !flashOn s := by
  simp only [flashOn]
  have hhalf : (s.now + 2500 + Config.flashOffset) / 2500 = (s.now + Config.flashOffset) / 2500 + 1 := by omega
  rw [hhalf]
  obtain h | h : (s.now + Config.flashOffset) / 2500 % 2 = 0 ∨ (s.now + Config.flashOffset) / 2500 % 2 = 1 := by omega
  · simp [Nat.add_mod, h]
  · simp [Nat.add_mod, h]

/-- Within 250 ms the half changes once at most. -/
theorem flashOn_between {i j k : Nat} (hij : i ≤ j) (hjk : j ≤ k) (hk : k < 2500)
    (h : flashOn { s with now := s.now + i } = flashOn { s with now := s.now + k }) :
    flashOn { s with now := s.now + j } = flashOn { s with now := s.now + i } := by
  simp only [flashOn] at h ⊢
  rw [Bool.eq_iff_iff, beq_iff_eq, beq_iff_eq] at h ⊢
  omega

/-- The levels of a pattern of R34's table. -/
theorem lampLevels_of_lamps {a : StateLamp} {c : CodeLamps} (h : lamps s = (a, c)) : lampLevels s =
    ⟨(a.lit (flashOn s)).1, (a.lit (flashOn s)).2, (c.lit (flashOn s)).1, (c.lit (flashOn s)).2⟩ := by
  simp only [lampLevels, h]

theorem codeLit_eq (n : Nat) : codeLit n = (decide (n = 1 ∨ n = 3), decide (n = 2 ∨ n = 3)) := by
  simp only [codeLit, Bool.decide_or]
  rfl

theorem lit_flashing (on : Bool) (n : Nat) : (CodeLamps.flashing n).lit on = (on && (codeLit n).1, on && (codeLit n).2) := by
  cases on <;> rfl

/-- The pattern of each station state outside MUTE (R34). -/
def stateLamps (s : State) : StationState → StateLamp × CodeLamps
  | .held => (.off, .off)
  | .starting => (.redSteady, (s.selfTest.map CodeLamps.flashing).getD .off)
  | .failed => (.redFlashing, .steady s.selfCheckResult)
  | .stopped => (.alternating, .off)
  | .armed | .running => (.greenFlashing, .off)
  | .suspended => (.greenSteady, .flashing 1)
  | .excused => (.greenSteady, .flashing 2)
  | .ready | .idle | .loading | .done => (.greenSteady, .off)

theorem lamps_of_state (hmute : s.bus.mute = false) {st : StationState} (h : s.job.state = st) :
    lamps s = stateLamps s st := by
  subst h
  cases hstate : s.job.state
  case starting => cases htest : s.selfTest <;> simp [lamps, stateLamps, hstate, hmute, htest]
  all_goals simp [lamps, stateLamps, hstate, hmute]

theorem lampLevels_of_state (hmute : s.bus.mute = false) {st : StationState} (h : s.job.state = st) : lampLevels s =
    ⟨((stateLamps s st).1.lit (flashOn s)).1, ((stateLamps s st).1.lit (flashOn s)).2,
      ((stateLamps s st).2.lit (flashOn s)).1, ((stateLamps s st).2.lit (flashOn s)).2⟩ :=
  lampLevels_of_lamps (lamps_of_state hmute h)

/-- The four cases of the arm brake (R68). -/
theorem armBrake_iff {w : TracerJob} (hw : s.tracerJob = some w) (hmode : w.mode = .follow)
    (hrole : s.straps.role = .tracer) : armBrake s = true ↔
      (s.gen.phase = .inPass ∧ s.gen.due ≠ [] ∧ s.gateOpen = false) ∨ s.job.state = .stopped ∨
        (s.job.state = .running ∧ s.gen.phase = .quiet) ∨ (s.gen.phase = .awaitStart ∧ s.gen.tableArrived = false) := by
  simp [armBrake, hw, hmode, State.isTracer, hrole, State.isStopped, State.isRunning, or_assoc, and_assoc]

/-- Settles O18: the lamps by the row of R34's table for each state, the halves by arithmetic, the brake by its four cases. -/
theorem lampsAndBrakeShowTheState : Obligations.LampsAndBrakeShowTheState := by
  intro s lit code here
  have hcode (n : Nat) : codeLit n = code n := codeLit_eq n
  refine ⟨fun h => ?_, fun h hmute => ?_, fun hmute => ⟨fun h k hk => ?_, fun h hk => ?_, fun h => ?_, fun h => ?_,
    fun h => ?_, fun h => ?_, fun h => ?_, fun h => ?_⟩, flashOn_shift s, fun i j k => flashOn_between,
    fun r hr w hw hrole => ⟨fun hmode => ?_, fun hmode => ?_⟩, fun h => ?_⟩
  · exact lampLevels_of_lamps (s := s) (a := .off) (c := .off) (by simp [lamps, h])
  · exact lampLevels_of_lamps (a := .redSteady) (c := .steady 3) (by simp [lamps, h, hmute])
  · rw [show here = _ from lampLevels_of_state hmute h]
    simp [stateLamps, hk, lit_flashing, hcode, lit, StateLamp.lit]
  · rw [show here = _ from lampLevels_of_state hmute h]
    simp [stateLamps, hk, StateLamp.lit, CodeLamps.lit]
  · rw [show here = _ from lampLevels_of_state hmute h]
    simp [stateLamps, StateLamp.lit, CodeLamps.lit, hcode, lit]
  · rw [show here = _ from lampLevels_of_state hmute h]
    simp [stateLamps, StateLamp.lit, CodeLamps.lit, lit]
  · obtain h | h := h
    all_goals
      rw [show here = _ from lampLevels_of_state hmute h]
      simp [stateLamps, StateLamp.lit, CodeLamps.lit, lit]
  · rw [show here = _ from lampLevels_of_state hmute h]
    simp [stateLamps, StateLamp.lit, lit_flashing, codeLit, lit]
  · rw [show here = _ from lampLevels_of_state hmute h]
    simp [stateLamps, StateLamp.lit, lit_flashing, codeLit, lit]
  · rw [show here = _ from lampLevels_of_state hmute rfl]
    cases hstate : s.job.state <;> simp [hstate, stateLamps, StateLamp.lit, CodeLamps.lit] at h ⊢
  · simp [armBrake, tracerJob_of_record hr hw, hmode]
  · exact armBrake_iff (tracerJob_of_record hr hw) hmode hrole
  · obtain hnone | hcarver := h
    · simp [armBrake, State.tracerJob, hnone]
    · cases hjob : s.tracerJob <;> simp [armBrake, hjob, State.isTracer, hcarver]

end Sys2Proof.Machine

/-! SUPPORT. Frames that are not taken (R2, R11, R47 to R52, R106). -/

namespace Sys2Proof.Machine

open Sys2Proof

variable {s : State} {f : Frame} {rest : List Frame}

/-- The command of a kind finds nothing to do while the oldest frame is of another, or there is none. -/
theorem takeFrame_of_other {k : Kind} {act : Frame → State → State} (h : s.bus.rx.head?.map (·.kind) ≠ some k) :
    takeFrame k act s = s := by
  unfold takeFrame
  split
  · rename_i g more hrx
    have hkind : g.kind ≠ k := by simpa [hrx] using h
    exact if_neg hkind
  · rfl

theorem dropFrame_unchangedBut (s : State) (rest : List Frame) : UnchangedBut [.bus] s (s.dropFrame rest) := by
  intro b hb
  cases b <;> simp [Block.same] at hb ⊢

/-- A control frame taken as a stray. -/
theorem strayed {c : Instr} (h : exec c s = .next (strayControl (s.dropFrame rest))) : ∃ t, exec c s = .next t ∧
    t.bus = { s.bus with rx := rest } ∧ t.cond = s.cond.countUp .strayControls 1 ∧ UnchangedBut [.bus, .cond] s t :=
  ⟨_, h, rfl, rfl, ((dropFrame_unchangedBut s rest).mono (by decide)).trans
    ((count_unchangedBut .strayControls 1 _).mono (by decide))⟩

/-! ## Conditions that fail -/

theorem takesPart_iff (st : StationState) : st.takesPart = true ↔ st ∈ [.armed, .running, .stopped] := by
  simp [StationState.takesPart, or_assoc]

theorem hasLeft_iff (st : StationState) : st.hasLeft = true ↔ st ∈ [.suspended, .excused, .done] := by
  simp [StationState.hasLeft, or_assoc]

theorem inJob_iff (s : State) : s.inJob = true ↔ s.job.state ∈ [.running, .stopped] := by
  simp [State.inJob, State.isRunning, State.isStopped]

theorem holdsId_of_record {r : JobRecord} (h : s.job.record = some r) (id : Nat) : s.holdsId id = (r.id == id) := by
  simp [State.holdsId, h]

/-- A tracer's EXCUSE is a stray out of the job, of another job, or of a carver that is not on the enrol list (R50). -/
theorem tracerExcuse_of_stray (h : s.job.state ∉ [.armed, .running, .stopped] ∨ s.holdsId f.jobId = false ∨
    byteAt f.payload 2 ∉ (s.tracerJob.map (·.enrol)).getD []) : tracerExcuse f s = strayControl s := by
  unfold tracerExcuse
  split
  case h_2 => rfl
  case h_1 r w hr hw =>
    refine if_neg fun htake => ?_
    obtain ⟨hid, hpart, hlisted⟩ := htake
    obtain hstate | hother | hout := h
    · exact hstate ((takesPart_iff _).1 hpart)
    · simp [holdsId_of_record hr, hid] at hother
    · exact hout (by simpa [hw] using hlisted)

/-- A carver's EXCUSE is a stray outside every state that takes part or has left, and of another job (R51). -/
theorem carverExcuse_of_stray (hself : byteAt f.payload 2 = s.straps.number.val)
    (h : s.job.state ∉ [.armed, .running, .stopped, .suspended, .excused, .done] ∨ s.holdsId f.jobId = false) :
    carverExcuse f s = strayControl s := by
  have hpart : (s.holdsId f.jobId && s.job.state.takesPart) = false := by
    obtain hstate | hother := h
    · cases hst : s.job.state <;> simp [hst, StationState.takesPart] at hstate ⊢
    · simp [hother]
  have hleft : (s.holdsId f.jobId && s.job.state.hasLeft) = false := by
    obtain hstate | hother := h
    · cases hst : s.job.state <;> simp [hst, StationState.hasLeft] at hstate ⊢
    · simp [hother]
  simp [carverExcuse, State.number, hself, hpart, hleft]

theorem takeResume_of_stray (hstate : s.job.state ≠ .stopped)
    (h : s.holdsId f.jobId = true ∨ (f.jobId = 0 ∧ s.job.record.isSome = true)) : takeResume f s = strayControl s := by
  have hstopped : s.isStopped = false := by simpa [State.isStopped] using hstate
  have hconcerns : (s.holdsId f.jobId || (f.jobId == 0 && s.job.record.isSome)) = true := by simpa using h
  simp [takeResume, hconcerns, hstopped]

/-- A FINISH is a stray on a tracer, outside the job's states, of another job, and from another tracer (R52). -/
theorem takeFinish_of_stray (h : s.straps.role = .tracer ∨
    s.job.state ∈ [.ready, .idle, .loading, .armed, .failed] ∨ s.holdsId f.jobId = false ∨
      s.carverJob.map (·.tracer) ≠ some f.src) : takeFinish f s = strayControl s := by
  have hnot : s.concernsFinish f = false ∨ (s.inJob = false ∧ s.job.state.hasLeft = false) := by
    obtain hrole | hstate | hother | hsrc := h
    · exact .inl (by simp [State.concernsFinish, State.isCarver, hrole])
    · refine .inr ?_
      simp only [State.inJob, State.isRunning, State.isStopped]
      cases hst : s.job.state <;> simp [hst, StationState.hasLeft] at hstate ⊢
    · exact .inl (by simp [State.concernsFinish, hother])
    · refine .inl ?_
      cases hc : s.carverJob with
      | none => simp [State.concernsFinish, hc]
      | some c =>
        have hne : c.tracer ≠ f.src := by simpa [hc] using hsrc
        simp [State.concernsFinish, hc, hne]
  obtain hconcerns | ⟨hjob, hleft⟩ := hnot
  · simp [takeFinish, hconcerns]
  · simp [takeFinish, hjob, hleft]

theorem pass_of_readTrace {p : List Byte} {r : TraceRecord} (h : readTrace p = some r) : r.pass = byteAt p 2 := by
  unfold readTrace at h
  split at h
  · injection h with h
    exact h ▸ rfl
  · exact nomatch h

theorem traceFrame_of_tracer (hrole : s.straps.role = .tracer) : traceFrame f s = s := by
  simp [traceFrame, State.isTracer, hrole]

/-- A TRACE on a carver that is not to be taken into intake (R106). -/
theorem traceFrame_of_stray (hrole : s.straps.role = .carver) (h : s.job.state ∉ [.running, .stopped] ∨
    s.job.finishing = true ∨ s.carverJob.map (·.tracer) ≠ some f.src ∨ readTrace f.payload = none ∨
      byteAt f.payload 2 = 0) : traceFrame f s = count .strayTraces 1 s := by
  have hcarver : s.isTracer = false := by simp [State.isTracer, hrole]
  simp only [traceFrame, hcarver, Bool.false_eq_true, if_false]
  split
  case h_2 => rfl
  case h_1 r hr =>
    refine if_neg fun htake => ?_
    obtain ⟨htakes, hpass⟩ := Bool.and_eq_true_iff.1 htake
    simp only [State.takesTrace, Bool.and_eq_true, inJob_iff, Bool.not_eq_true'] at htakes
    obtain ⟨⟨hjob, hfinishing⟩, hsrc⟩ := htakes
    obtain hstate | hfin | hother | hnone | hzero := h
    · exact hstate hjob
    · simp [hfinishing] at hfin
    · cases hc : s.carverJob with
      | none => simp [hc] at hsrc
      | some c => simp [hc] at hsrc hother; exact hother hsrc
    · simp [hr] at hnone
    · simp [pass_of_readTrace hr, hzero] at hpass

/-- Settles O19: each command's condition fails, and its other branch counts a stray or does nothing. -/
theorem untakenFramesHaveNoFurtherEffect : Obligations.UntakenFramesHaveNoFurtherEffect := by
  intro s
  refine ⟨fun p hp hkind => ?_, fun f rest hrx => ⟨fun hk => ?_, fun hk h => ?_, fun hk h => ?_, fun hk hrole h => ?_,
    fun hk hrole hself h => ?_, fun hk hstate h => ?_, fun hk h => ?_, fun hk hrole => ?_, fun hk hrole h => ?_⟩⟩
  · simp only [List.mem_cons, List.not_mem_nil, or_false] at hp
    rcases hp with rfl | rfl | rfl | rfl | rfl | rfl | rfl | rfl | rfl | rfl | rfl | rfl
    all_goals exact congrArg Host.Outcome.next (takeFrame_of_other hkind)
  · have harm : exec .unusedFrameTaken s = execUnusedFrameTaken s := rfl
    have hunused : f.kind.unused = true := by
      obtain hk | hk | hk := hk <;> rw [hk] <;> rfl
    exact ⟨s.dropFrame rest, by simp [harm, execUnusedFrameTaken, hrx, hunused], rfl, dropFrame_unchangedBut s rest⟩
  · have harm : exec .start s = .next (takeFrame .start takeStart s) := rfl
    rw [takeFrame_of_front takeStart hrx hk] at harm
    refine strayed (harm.trans (congrArg _ (if_neg fun htake => ?_)))
    obtain ⟨harmed, hid⟩ := htake
    exact h.elim (fun hstate => hstate harmed) fun hother => Bool.false_ne_true (hother.symm.trans hid)
  · have harm : exec .abort s = .next (takeFrame .abort takeAbort s) := rfl
    rw [takeFrame_of_front takeAbort hrx hk] at harm
    refine strayed (harm.trans (congrArg _ (if_neg ?_)))
    have hnot : (s.job.state.abortable && (f.jobId == 0 || s.holdsId f.jobId || s.assemblesId f.jobId)) = false := by
      obtain hstate | ⟨hzero, hholds, hassembles⟩ := h
      · obtain hstate | hstate | hstate : s.job.state = .ready ∨ s.job.state = .idle ∨ s.job.state = .failed := by
          simpa using hstate
        all_goals simp [hstate, StationState.abortable]
      · simp [Frame.jobId, hzero, hholds, hassembles]
    exact Bool.eq_false_iff.1 hnot
  · have harm : exec .excuse s = .next (takeFrame .excuse takeExcuse s) := rfl
    have htracer : takeExcuse f (s.dropFrame rest) = tracerExcuse f (s.dropFrame rest) := by simp [takeExcuse, hrole]
    rw [takeFrame_of_front takeExcuse hrx hk, htracer, tracerExcuse_of_stray (s := s.dropFrame rest) h] at harm
    exact strayed harm
  · have harm : exec .excuse s = .next (takeFrame .excuse takeExcuse s) := rfl
    have hcarver : takeExcuse f (s.dropFrame rest) = carverExcuse f (s.dropFrame rest) := by simp [takeExcuse, hrole]
    rw [takeFrame_of_front takeExcuse hrx hk, hcarver, carverExcuse_of_stray (s := s.dropFrame rest) hself h] at harm
    exact strayed harm
  · have harm : exec .resume s = .next (takeFrame .resume takeResume s) := rfl
    rw [takeFrame_of_front takeResume hrx hk, takeResume_of_stray (s := s.dropFrame rest) hstate h] at harm
    exact strayed harm
  · have harm : exec .finish s = .next (takeFrame .finish takeFinish s) := rfl
    rw [takeFrame_of_front takeFinish hrx hk, takeFinish_of_stray (s := s.dropFrame rest) h] at harm
    exact strayed harm
  · have harm : exec .trace s = .next (takeFrame .trace traceFrame s) := rfl
    rw [takeFrame_of_front traceFrame hrx hk, traceFrame_of_tracer (s := s.dropFrame rest) hrole] at harm
    exact ⟨_, harm, rfl, dropFrame_unchangedBut s rest⟩
  · have harm : exec .trace s = .next (takeFrame .trace traceFrame s) := rfl
    rw [takeFrame_of_front traceFrame hrx hk, traceFrame_of_stray (s := s.dropFrame rest) hrole h] at harm
    exact ⟨_, harm, rfl, rfl, ((dropFrame_unchangedBut s rest).mono (by decide)).trans
      ((count_unchangedBut .strayTraces 1 _).mono (by decide))⟩

end Sys2Proof.Machine

/-! SUPPORT. The drives' reports and the load timers: drive faults (R172), the breach test (R186), the claim of an idle
station (R177), and the feed override (R170). -/

namespace Sys2Proof.Machine

open Sys2Proof

variable {s : State}

/-! ## Drive faults (R172) -/

theorem exec_driveFaultReport_of_started (h : s.canOffer = true) (code : Byte) : exec (.driveFaultReport code) s =
    .next (driveFault code (s.setInputs { s.inputs with driveFault := some code })) := by
  have h' : (s.setInputs { s.inputs with driveFault := some code }).canOffer = true := h
  simp [exec, execDriveFaultReport, h']

theorem exec_driveFaultReport_of_early (h : s.job.state ∈ [.held, .starting]) (code : Byte) :
    exec (.driveFaultReport code) s = .next (s.setInputs { s.inputs with driveFault := some code }) := by
  have h' : (s.setInputs { s.inputs with driveFault := some code }).canOffer = false := by
    rw [← Bool.not_eq_true, canOffer_iff]
    exact not_not_intro h
  simp [exec, execDriveFaultReport, h']

/-- A further report while a fault stands changes the code alone. -/
theorem driveFault_of_standing (h : s.motion.faultStanding = true) (code : Byte) :
    driveFault code s = s.setMotion { s.motion with faultCode := code } := by
  simp [driveFault, h]

theorem motion_driveFault (h : s.motion.faultStanding = false) (code : Byte) : (driveFault code s).motion =
    { s.motion with
      faultCode := code, faultStanding := true, spindle := .off, highTimer := none, lowTimer := none
      stallTimer := none, halt := s.motion.halt.stop } := by
  simp [driveFault, h, spindleOff]

theorem stop_ne_moving (h : HaltState) : h.stop ≠ .moving := by
  cases h <;> simp [HaltState.stop]

theorem raises_driveFault (h : s.motion.faultStanding = false) (code : Byte) :
    (driveFault code s).bus.drivePull = true ∧ (driveFault code s).bus.rx = s.bus.rx ∧
      (driveFault code s).cond.has .driveFault = true := by
  simp [driveFault, h, has_raise]

/-- Settles O53. -/
theorem driveFaultStopsTheStation : Obligations.DriveFaultStopsTheStation := by
  intro s
  constructor
  · intro code
    let u := s.setInputs { s.inputs with driveFault := some code }
    by_cases hearly : s.job.state ∈ [.held, .starting]
    · have hexec := exec_driveFaultReport_of_early hearly code
      have hframe : UnchangedBut [.inputs] s u := by
        intro b hb
        cases b <;> simp [Block.same, u] at hb ⊢
      exact ⟨u, hexec, rfl, fun _ => hframe, fun h => absurd hearly h, fun h => absurd hearly h, hframe.mono (by decide)⟩
    have hexec : exec (.driveFaultReport code) s = .next (driveFault code u) :=
      exec_driveFaultReport_of_started ((canOffer_iff s).2 hearly) code
    refine ⟨_, hexec, by simp [u], fun h => absurd h hearly, fun _ hstands => ?_, fun _ hfirst => ?_,
      commandsWriteOnlyTheirBlocks _ _ _ hexec⟩
    · rw [driveFault_of_standing (s := u) hstands]
      refine ⟨rfl, fun b hb => ?_⟩
      cases b <;> simp [Block.same, u] at hb ⊢
    · have hmotion := motion_driveFault (s := u) hfirst code
      obtain ⟨hpull, hrx, hhas⟩ := raises_driveFault (s := u) hfirst code
      refine ⟨hmotion, hpull, hrx, hhas, ?_, ?_⟩
      · simp [stopCommand, hmotion, stop_ne_moving, -driveFault_motion]
      · simp only [List.mem_cons, List.not_mem_nil, or_false, not_or] at hearly
        simpa [pullsLine, Bus.pulls, hpull, u] using hearly.1
  · refine ⟨(s.setInputs { s.inputs with driveFault := none }).setMotion { s.motion with faultStanding := false }, rfl, rfl,
      rfl, fun b hb => ?_⟩
    cases b <;> simp [Block.same] at hb ⊢

/-! ## The claim of an idle station and the breach test (R177, R186) -/

/-- The neighbour of a side, heard and not stale, is nearer than half the guard gap while a record is held (R186). -/
def closeOn (side : Side) (s : State) : Bool :=
  match s.job.record, (s.guard.view side).heard with
  | some r, some h => !h.stale && decide (2 * gapTo side s.occupied h.seen.claim < r.gap)
  | _, _ => false

/-- The neighbour of a side, heard and not stale, is half the guard gap away or more while a record is held (R186). -/
def clearOn (side : Side) (s : State) : Bool :=
  match s.job.record, (s.guard.view side).heard with
  | some r, some h => !h.stale && decide (r.gap ≤ 2 * gapTo side s.occupied h.seen.claim)
  | _, _ => false

/-- The breach test of a side at work: it raises GUARD_BREACH, arms itself again, or leaves the station as it is. -/
theorem testBreach_cases (side : Side) (s : State) :
    (closeOn side s = true ∧ clearOn side s = false ∧ s.guard.armed side = true ∧ testBreach side s =
      raise .guardBreach ((s.setGuard (s.guard.setArmed side false)).setBus { s.bus with breachPull := true })) ∨
    (closeOn side s = false ∧ clearOn side s = true ∧ testBreach side s = s.setGuard (s.guard.setArmed side true)) ∨
    ((closeOn side s = true → s.guard.armed side = false) ∧ clearOn side s = false ∧ testBreach side s = s) := by
  unfold testBreach closeOn clearOn
  cases s.job.record with
  | none => simp
  | some r =>
    cases (s.guard.view side).heard with
    | none => simp
    | some h =>
      by_cases hstale : h.stale = true
      · simp [hstale]
      by_cases hnear : 2 * gapTo side s.occupied h.seen.claim < r.gap
      · cases harmed : s.guard.armed side <;> simp [hstale, hnear]
      · simp [hstale, hnear, not_lt.1 hnear]

theorem setArmed_self (g : Guard) (side : Side) : g.setArmed side (g.armed side) = g := by
  cases side <;> rfl

theorem guard_testBreach (side : Side) (s : State) : (testBreach side s).guard =
    s.guard.setArmed side (clearOn side s || (s.guard.armed side && !closeOn side s)) := by
  obtain ⟨hclose, hclear, harmed, h⟩ | ⟨hclose, hclear, h⟩ | ⟨hclose, hclear, h⟩ := testBreach_cases side s
  · simp [h, hclose, hclear]
  · simp [h, hclear]
  · have hkeep : (s.guard.armed side && !closeOn side s) = s.guard.armed side := by
      cases hc : closeOn side s <;> simp [hc, hclose]
    rw [h, hclear, hkeep, Bool.false_or, setArmed_self]

theorem breachPull_testBreach (side : Side) (s : State) : (testBreach side s).bus.breachPull =
    (s.bus.breachPull || (closeOn side s && s.guard.armed side)) := by
  obtain ⟨hclose, hclear, harmed, h⟩ | ⟨hclose, hclear, h⟩ | ⟨hclose, hclear, h⟩ := testBreach_cases side s
  · simp [h, hclose, harmed]
  · simp [h, hclose]
  · cases hc : closeOn side s <;> simp [h, hc, hclose]

theorem has_testBreach {side : Side} (h : (closeOn side s && s.guard.armed side) = true) :
    (testBreach side s).cond.has .guardBreach = true := by
  rw [Bool.and_eq_true] at h
  obtain ⟨-, -, -, hs⟩ | ⟨hclose, -, -⟩ | ⟨hclose, -, -⟩ := testBreach_cases side s
  · simp [hs, has_raise]
  · simp [hclose] at h
  · simp [hclose h.1] at h

theorem testBreach_of_quiet {side : Side} (h : (closeOn side s && s.guard.armed side) = false) :
    (testBreach side s).cond = s.cond ∧ (testBreach side s).bus = s.bus := by
  obtain ⟨hclose, -, harmed, -⟩ | ⟨-, -, hs⟩ | ⟨-, -, hs⟩ := testBreach_cases side s
  · simp [hclose, harmed] at h
  · simp [hs]
  · simp [hs]

theorem closeOn_congr {t : State} (side : Side) (hrecord : t.job.record = s.job.record)
    (hview : t.guard.view side = s.guard.view side) (hocc : t.occupied = s.occupied) :
    closeOn side t = closeOn side s := by
  rw [closeOn, closeOn, hrecord, hview, hocc]

theorem clearOn_congr {t : State} (side : Side) (hrecord : t.job.record = s.job.record)
    (hview : t.guard.view side = s.guard.view side) (hocc : t.occupied = s.occupied) :
    clearOn side t = clearOn side s := by
  rw [clearOn, clearOn, hrecord, hview, hocc]

theorem occupied_congr {t : State} (hinputs : t.inputs = s.inputs) (hjob : t.job = s.job) : t.occupied = s.occupied := by
  simp [State.occupied, State.intervalAt, State.halfWidths, hinputs, hjob]

/-- Both sides tested, the left before the right: what becomes of the pulls, the condition and the tests. -/
theorem testBreach_both (s : State) :
    let t := testBreach .right (testBreach .left s)
    let breach := (closeOn .left s && s.guard.leftArmed) || (closeOn .right s && s.guard.rightArmed)
    t.guard = { s.guard with
      leftArmed := clearOn .left s || (s.guard.leftArmed && !closeOn .left s)
      rightArmed := clearOn .right s || (s.guard.rightArmed && !closeOn .right s) } ∧
    t.bus.breachPull = (s.bus.breachPull || breach) ∧ (breach = true → t.cond.has .guardBreach = true) ∧
    (breach = false → t.cond = s.cond) := by
  dsimp only
  have hguard := guard_testBreach .left s
  have hview : (testBreach .left s).guard.view .right = s.guard.view .right := by rw [hguard]; rfl
  have harmed : (testBreach .left s).guard.armed .right = s.guard.rightArmed := by rw [hguard]; rfl
  have hclose : closeOn .right (testBreach .left s) = closeOn .right s :=
    closeOn_congr _ (by simp) hview (occupied_congr (by simp) (by simp))
  have hclear : clearOn .right (testBreach .left s) = clearOn .right s :=
    clearOn_congr _ (by simp) hview (occupied_congr (by simp) (by simp))
  refine ⟨?_, ?_, fun h => ?_, fun h => ?_⟩
  · rw [guard_testBreach, hclose, hclear, harmed, hguard]
    rfl
  · rw [breachPull_testBreach, breachPull_testBreach, hclose, harmed, Bool.or_assoc]
    rfl
  · by_cases hright : (closeOn .right s && s.guard.rightArmed) = true
    · exact has_testBreach (by rwa [hclose, harmed])
    · rw [Bool.not_eq_true] at hright
      rw [(testBreach_of_quiet (by rwa [hclose, harmed])).1]
      exact has_testBreach (by simpa [hright, Guard.armed] using h)
  · rw [Bool.or_eq_false_iff] at h
    rw [(testBreach_of_quiet (by rw [hclose, harmed]; exact h.2)).1, (testBreach_of_quiet h.1).1]

theorem guard_setClaim (iv : Interval) (s : State) : (setClaim iv s).guard = { s.guard with claim := iv } := by
  unfold setClaim
  split
  case isTrue h => rw [h]
  case isFalse => simp

theorem guard_followClaim_of_idle (h : s.motion.halt = .moving ∧ s.motion.outstanding = [] ∧ s.guard.isFree = true) :
    (followClaim s).guard = { s.guard with claim := s.occupied } := by
  rw [followClaim, if_pos h, guard_setClaim]

theorem followClaim_of_busy (h : ¬ (s.motion.halt = .moving ∧ s.motion.outstanding = [] ∧ s.guard.isFree = true)) :
    followClaim s = s := by
  rw [followClaim, if_neg h]

/-- Settles O54. -/
theorem positionMovesTheClaimAndTestsBreach : Obligations.PositionMovesTheClaimAndTestsBreach := by
  intro s x y angle
  dsimp only
  let u := s.setInputs { s.inputs with x := x, y := y, angle := angle }
  let v := followClaim u
  have hexec : exec (.actualPositionChange x y angle) s = .next (testBreach .right (testBreach .left v)) := rfl
  have hclaim : v.guard = { s.guard with claim := v.guard.claim } := by
    by_cases h : u.motion.halt = .moving ∧ u.motion.outstanding = [] ∧ u.guard.isFree = true
    · have h' := guard_followClaim_of_idle h
      simp only [v, h']
      rfl
    · simp only [v, followClaim_of_busy h]
      rfl
  have hbus : v.bus.breachPull = s.bus.breachPull := by simp [v, u]
  have hcond : v.cond = s.cond := by simp [v, u]
  have hocc : v.occupied = ⟨x - s.halfWidths.1, x + s.halfWidths.2⟩ := by
    simp [v, u, State.occupied, State.intervalAt, State.halfWidths]
  have hview (side : Side) : v.guard.view side = s.guard.view side := by rw [hclaim]; cases side <;> rfl
  have hrecord : v.job.record = s.job.record := by simp [v, u]
  obtain ⟨hguard, hpull, hhas, hkeep⟩ := testBreach_both v
  simp only [closeOn, clearOn, hocc, hview, hrecord, hbus, hcond] at hguard hpull hhas hkeep
  have harmed : v.guard.leftArmed = s.guard.leftArmed ∧ v.guard.rightArmed = s.guard.rightArmed := by
    rw [hclaim]; exact ⟨rfl, rfl⟩
  rw [harmed.1, harmed.2] at hguard hpull hhas hkeep
  refine ⟨_, hexec, by simp [v, u], fun hidle => ?_, fun hbusy => ?_, hpull, hhas, hkeep, ?_, ?_, ?_, ?_, ?_,
    commandsWriteOnlyTheirBlocks _ _ _ hexec⟩
  · rw [hguard]
    exact congrArg Guard.claim (guard_followClaim_of_idle (s := u)
      ⟨hidle.1, hidle.2.1, (isFree_iff _).2 hidle.2.2⟩)
  · rw [hguard]
    exact congrArg (·.guard.claim) (followClaim_of_busy (s := u) fun h =>
      hbusy ⟨h.1, h.2.1, (isFree_iff _).1 h.2.2⟩)
  · exact congrArg Guard.leftArmed hguard
  · exact congrArg Guard.rightArmed hguard
  · exact (congrArg Guard.left hguard).trans (hview .left)
  · exact (congrArg Guard.right hguard).trans (hview .right)
  · exact (congrArg Guard.phase hguard).trans (show v.guard.phase = s.guard.phase by rw [hclaim])

/-! ## The load timers and the override (R169, R170) -/

/-- The load is watched: a carver RUNNING with the spindle on (R170). -/
def Watched (s : State) : Prop := s.straps.role = .carver ∧ s.job.state = .running ∧ s.motion.spindle = .on

theorem loadWatched_iff (s : State) : s.loadWatched = true ↔ Watched s := by
  simp [State.loadWatched, Watched, State.isCarver, State.isRunning, and_assoc]

theorem above80_iff (i : Inputs) : i.above80 = true ↔ i.stall = true ∨ 80 < i.load := by simp [Inputs.above80]

theorem above100_iff (i : Inputs) : i.above100 = true ↔ i.stall = true ∨ 100 < i.load := by simp [Inputs.above100]

theorem below60_iff (i : Inputs) : i.below60 = true ↔ i.stall = false ∧ i.load < 60 := by simp [Inputs.below60]

theorem runWhile_of_iff {b : Bool} {p : Prop} [Decidable p] (h : b = true ↔ p) (full : Nat) (t : Option Nat) :
    runWhile b full t = if decide p = true then some (t.getD full) else none := by
  rw [runWhile, if_congr (h.trans decide_eq_true_iff.symm) rfl rfl]

theorem motion_refreshLoad (s : State) : (refreshLoad s).motion =
    let watched := s.straps.role = .carver ∧ s.job.state = .running ∧ s.motion.spindle = .on
    let run (p : Bool) (full : Nat) (timer : Option Nat) : Option Nat := if p then some (timer.getD full) else none
    { s.motion with
      highTimer := run (decide (watched ∧ (s.inputs.stall = true ∨ 80 < s.inputs.load))) 500 s.motion.highTimer
      lowTimer := run (decide (watched ∧ s.inputs.stall = false ∧ s.inputs.load < 60)) 2000 s.motion.lowTimer
      stallTimer := run (decide (watched ∧ (s.inputs.stall = true ∨ 100 < s.inputs.load) ∧ s.motion.override = .p25))
        5000 s.motion.stallTimer } := by
  have hhigh := runWhile_of_iff (b := s.loadWatched && s.inputs.above80) (full := 500) (t := s.motion.highTimer)
    (by rw [Bool.and_eq_true, loadWatched_iff, above80_iff, Watched])
  have hlow := runWhile_of_iff (b := s.loadWatched && s.inputs.below60) (full := 2000) (t := s.motion.lowTimer)
    (by rw [Bool.and_eq_true, loadWatched_iff, below60_iff, Watched])
  have hstall := runWhile_of_iff (b := s.loadWatched && s.inputs.above100 && s.motion.override == .p25) (full := 5000)
    (t := s.motion.stallTimer)
    (by rw [Bool.and_eq_true, Bool.and_eq_true, loadWatched_iff, above100_iff, beq_iff_eq, Watched, and_assoc])
  rw [refreshLoad, hhigh, hlow, hstall]
  rfl

theorem refreshLoad_unchangedBut (s : State) : UnchangedBut [.motion] s (refreshLoad s) := by
  intro b hb
  cases b <;> simp [Block.same] at hb ⊢

theorem relieve_unchangedBut (o : Override) (s : State) : UnchangedBut [.motion, .cond] s (relieve o s) := by
  intro b hb
  cases b <;> simp [Block.same, relieve, bus_raise_of_silent (c := .loadRelief) rfl] at hb ⊢

/-- The state the load timers are set from at the high-load timer's end: the override has stepped down, or not. -/
def highLoadEnded (s : State) : State :=
  match s.motion.override.down with
  | some o => relieve o (s.setMotion { s.motion with highTimer := none })
  | none => s.setMotion { s.motion with highTimer := none }

theorem exec_highLoadExpiry_eq (h : s.motion.highTimer.isSome = true) :
    exec .highLoadExpiry s = .next (refreshLoad (highLoadEnded s)) := by
  simp only [exec, execHighLoadExpiry, h, if_true, highLoadEnded] <;> rfl

theorem motion_highLoadEnded (s : State) : (highLoadEnded s).motion =
    { s.motion with highTimer := none, override := s.motion.override.down.getD s.motion.override } := by
  unfold highLoadEnded
  cases h : s.motion.override <;> simp [Override.down, relieve, h]

theorem highLoadEnded_unchangedBut (s : State) : UnchangedBut [.motion, .cond] s (highLoadEnded s) := by
  have hset : UnchangedBut [.motion, .cond] s (s.setMotion { s.motion with highTimer := none }) := by
    intro b hb
    cases b <;> simp [Block.same] at hb ⊢
  unfold highLoadEnded
  split
  · exact hset.trans (relieve_unchangedBut _ _)
  · exact hset

theorem cond_highLoadEnded_of_relief (h : s.motion.override ≠ .p25) :
    (highLoadEnded s).cond.counters = (s.cond.countUp .loadReliefs 1).counters ∧
      (highLoadEnded s).cond.has .loadRelief = true := by
  unfold highLoadEnded
  cases hover : s.motion.override with
  | p25 => exact absurd hover h
  | p50 => simp [Override.down, relieve, count, has_raise]
  | p75 => simp [Override.down, relieve, count, has_raise]
  | p100 => simp [Override.down, relieve, count, has_raise]

theorem cond_highLoadEnded_of_lowest (h : s.motion.override = .p25) : (highLoadEnded s).cond = s.cond := by
  simp [highLoadEnded, h, Override.down]

/-- Settles O55. -/
theorem loadTimersFollowTheLoad : Obligations.LoadTimersFollowTheLoad := by
  intro s
  dsimp only
  refine ⟨fun n hn => ?_, fun load stall => ?_, fun htimer => ?_, fun htimer => ?_⟩
  · have hexec : exec .spinUpEnd s = .next (refreshLoad (s.setMotion { s.motion with spindle := .on })) := by
      simp [exec, execSpinUpEnd, hn, Spindle.isSpinningUp]
    exact ⟨_, hexec, motion_refreshLoad _, commandsWriteOnlyTheirBlocks _ _ _ hexec⟩
  · have hexec : exec (.loadChange load stall) s =
        .next (refreshLoad (s.setInputs { s.inputs with load := load, stall := stall })) := rfl
    exact ⟨_, hexec, by simp, motion_refreshLoad _, commandsWriteOnlyTheirBlocks _ _ _ hexec⟩
  · have hframe := highLoadEnded_unchangedBut s
    have hstraps : (highLoadEnded s).straps = s.straps := hframe .straps (by decide)
    have hjob : (highLoadEnded s).job = s.job := hframe .job (by decide)
    have hinputs : (highLoadEnded s).inputs = s.inputs := hframe .inputs (by decide)
    refine ⟨_, exec_highLoadExpiry_eq htimer, ?_, fun h => ?_, fun h => ?_,
      hframe.trans ((refreshLoad_unchangedBut _).mono (by decide))⟩
    · rw [motion_refreshLoad, motion_highLoadEnded, hstraps, hjob, hinputs]
      cases s.motion.override <;> rfl
    · simpa using cond_highLoadEnded_of_relief h
    · simpa using cond_highLoadEnded_of_lowest h
  · have hexec : exec .lowLoadExpiry s = .next (refreshLoad (s.setMotion { s.motion with
        lowTimer := none, override := s.motion.override.up.getD s.motion.override })) := by
      simp [exec, execLowLoadExpiry, htimer]
    refine ⟨_, hexec, ?_, commandsWriteOnlyTheirBlocks _ _ _ hexec⟩
    rw [motion_refreshLoad]
    cases s.motion.override <;> rfl

end Sys2Proof.Machine

/-! SUPPORT. The Guard (R177 to R184): what each of its operations leaves of it, and the check, the join notices, the
replies and the claim in terms of what the neighbour reports. -/

namespace Sys2Proof.Machine

open Sys2Proof

variable {s : State}

/-! ## The operations on claim, announce and check -/

theorem guard_setAnnounce (a : Option Interval) (s : State) : (setAnnounce a s).guard =
    { s.guard with
      announce := a, announceSent := if a = s.guard.announce then s.guard.announceSent else false } := by
  unfold setAnnounce
  split
  case isTrue h => rw [h]
  case isFalse => simp

theorem guard_setAnnounce_none (h : s.guard.announce = none) : (setAnnounce none s).guard = s.guard := by
  rw [setAnnounce, if_pos h.symm]

theorem bus_setAnnounce_none (h : s.guard.announce = none) : (setAnnounce none s).bus = s.bus := by
  rw [setAnnounce, if_pos h.symm]

/-- The Guard with the setpoint at its check passed (R180). -/
def Guard.passes (g : Guard) : Guard :=
  { g with passed := g.atCheck, atCheck := none, phase := .none, settleTimer := none, waitTimer := none, waitExpired := false }

/-- The Guard waiting on a side, with no announce (R183). -/
def Guard.waits (g : Guard) (side : Side) : Guard :=
  { g with
    phase := .wait, side := side, settleTimer := none
    waitTimer := if g.waitExpired then none else some (g.waitTimer.getD 20000) }

/-- The Guard settling on an announce of n toward a side (R180). -/
def Guard.announces (g : Guard) (side : Side) (n : Interval) : Guard :=
  { g with
    announce := some n, announceSent := false, phase := .settle, side := side, settleTimer := some 120
    heard := false, reply := none }

theorem guard_passCheck (s : State) : (passCheck s).guard = s.guard.passes := rfl

theorem guard_enterWait (side : Side) (s : State) : (enterWait side s).guard =
    { s.guard.waits side with
      announce := none
      announceSent := if none = s.guard.announce then s.guard.announceSent else false } := by
  simp only [enterWait, guard_setAnnounce]
  rfl

theorem guard_enterWait_of_no_announce (h : s.guard.announce = none) (side : Side) :
    (enterWait side s).guard = s.guard.waits side := by
  simp only [enterWait, guard_setAnnounce_none h]
  rfl

theorem bus_enterWait_of_no_announce (h : s.guard.announce = none) (side : Side) : (enterWait side s).bus = s.bus :=
  bus_setAnnounce_none h

theorem guard_announceOn_of_no_announce (h : s.guard.announce = none) (side : Side) (n : Interval) :
    (announceOn side n s).guard = s.guard.announces side n := by
  simp only [announceOn, guard_setAnnounce, h]
  rfl

theorem view_setView (g : Guard) (side : Side) (v : View) : (g.setView side v).view side = v := by
  cases side <;> rfl

/-! ## Offers of REACH (R178) -/

theorem exists_reach_offerReach (hmute : s.bus.mute = false) (hstate : s.job.state ∉ [.held, .starting]) :
    ∃ g ∈ (offerReach s).bus.places, g.kind = .reach := by
  rw [offerReach, offerReport, if_pos ((canOffer_iff s).2 hstate)]
  exact Bus.exists_place_offerReport hmute _ _

theorem exists_reach_setClaim {iv : Interval} (h : iv ≠ s.guard.claim) (hmute : s.bus.mute = false)
    (hstate : s.job.state ∉ [.held, .starting]) : ∃ g ∈ (setClaim iv s).bus.places, g.kind = .reach := by
  rw [setClaim, if_neg h]
  exact exists_reach_offerReach hmute hstate

theorem exists_reach_setAnnounce {a : Option Interval} (h : a ≠ s.guard.announce) (hmute : s.bus.mute = false)
    (hstate : s.job.state ∉ [.held, .starting]) : ∃ g ∈ (setAnnounce a s).bus.places, g.kind = .reach := by
  rw [setAnnounce, if_neg h]
  exact exists_reach_offerReach hmute hstate

/-! ## The check of a setpoint beyond the claim (R180) -/

/-- The neighbour of a view keeps a gap from n: it is heard and not stale, and its claim and its announce lie `gap` from n or
more (R180). -/
def Keeps (gap : Int) (side : Side) (n : Interval) (v : View) : Prop :=
  ∃ h, v.heard = some h ∧ h.stale = false ∧ gap ≤ gapTo side n h.seen.claim ∧
    ∀ a, h.seen.announce = some a → gap ≤ gapTo side n a

theorem gap_le_reach_iff (gap : Int) (side : Side) (n : Interval) (v : Seen) : gap ≤ gapTo side n v.reach ↔
    gap ≤ gapTo side n v.claim ∧ ∀ a, v.announce = some a → gap ≤ gapTo side n a := by
  unfold Seen.reach
  cases v.announce with
  | none => simp
  | some a =>
    simp only [Option.some.injEq, forall_eq']
    cases side with
    | left =>
      simp only [gapTo, Interval.hull]
      omega
    | right =>
      simp only [gapTo, Interval.hull]
      omega

theorem keeps_iff_reach (gap : Int) (side : Side) (n : Interval) (v : View) :
    Keeps gap side n v ↔ ∃ h, v.heard = some h ∧ ¬ (h.stale = true ∨ gapTo side n h.seen.reach < gap) := by
  unfold Keeps
  simp only [not_or, Bool.not_eq_true, not_lt, gap_le_reach_iff]

theorem checkBeyond_of_alone {side : Side} (h : (s.guard.view side).station = none) (n : Interval) :
    checkBeyond side n s = passCheck (setClaim n s) := by
  simp only [checkBeyond, h]

theorem checkBeyond_of_keeps {side : Side} {n : Interval} (h : (s.guard.view side).station.isSome = true)
    (hk : Keeps s.guardGap side n (s.guard.view side)) : checkBeyond side n s = announceOn side n s := by
  obtain ⟨v, hv, hfar⟩ := (keeps_iff_reach _ _ _ _).1 hk
  obtain ⟨k, hk⟩ := Option.isSome_iff_exists.1 h
  simp only [checkBeyond, hk, hv, if_neg hfar]

theorem checkBeyond_of_not_keeps {side : Side} {n : Interval} (h : (s.guard.view side).station.isSome = true)
    (hk : ¬ Keeps s.guardGap side n (s.guard.view side)) : checkBeyond side n s = enterWait side s := by
  obtain ⟨k, hstation⟩ := Option.isSome_iff_exists.1 h
  rw [keeps_iff_reach] at hk
  simp only [checkBeyond, hstation]
  cases hv : (s.guard.view side).heard with
  | none => rfl
  | some v => exact if_pos (not_not.1 fun hfar => hk ⟨v, hv, hfar⟩)

theorem guard_passCheck_setClaim (n : Interval) (s : State) :
    (passCheck (setClaim n s)).guard = { s.guard.passes with claim := n } := by
  rw [guard_passCheck, guard_setClaim]
  rfl

theorem guardGap_of_record {r : JobRecord} (h : s.job.record = some r) : s.guardGap = r.gap := by
  simp [State.guardGap, h]

theorem intervalAt_of_record {r : JobRecord} (h : s.job.record = some r) (x : Int) :
    s.intervalAt x = ⟨x - r.halfLeft, x + r.halfRight⟩ := by
  simp [State.intervalAt, State.halfWidths, h]

section

variable {sp : Setpoint} {n : Interval}

theorem runCheck_of_within (h : s.guard.atCheck = some sp)
    (hn : Interval.hull s.guard.claim (s.intervalAt sp.x) = s.guard.claim) : runCheck s = passCheck s := by
  simp only [runCheck, h, if_pos hn]

theorem runCheck_of_right (h : s.guard.atCheck = some sp)
    (hn : Interval.hull s.guard.claim (s.intervalAt sp.x) = n) (hhi : s.guard.claim.hi < n.hi) :
    runCheck s = checkBeyond .right n s := by
  have hne : n ≠ s.guard.claim := fun he => by
    rw [he] at hhi
    exact lt_irrefl _ hhi
  simp only [runCheck, h, hn, if_neg hne, if_pos hhi]

theorem runCheck_of_left (h : s.guard.atCheck = some sp)
    (hn : Interval.hull s.guard.claim (s.intervalAt sp.x) = n) (hhi : n.hi = s.guard.claim.hi)
    (hlo : n.lo < s.guard.claim.lo) : runCheck s = checkBeyond .left n s := by
  have hne : n ≠ s.guard.claim := fun he => by
    rw [he] at hlo
    exact lt_irrefl _ hlo
  simp only [runCheck, h, hn, if_neg hne, hhi, lt_irrefl, if_false]

end

theorem keeps_iff_near {gap : Int} {side : Side} {n : Interval} {v : View} :
    (∃ h, v.heard = some h ∧ h.stale = false ∧
      gap ≤ (match side with | .left => n.lo - h.seen.claim.hi | .right => h.seen.claim.lo - n.hi) ∧
      ∀ a, h.seen.announce = some a → gap ≤ (match side with | .left => n.lo - a.hi | .right => a.lo - n.hi)) ↔
    Keeps gap side n v := by
  cases side <;> rfl

/-- A check run from its start, with no announce standing, does to the Guard what R180 has it do. -/
theorem checkRuns_runCheck {sp : Setpoint} {r : JobRecord} (hr : s.job.record = some r)
    (hsp : s.guard.atCheck = some sp) (hquiet : s.guard.announce = none) : CheckRuns sp r s.guard (runCheck s).guard := by
  have hn : Interval.hull s.guard.claim (s.intervalAt sp.x) =
      ⟨min s.guard.claim.lo (sp.x - r.halfLeft), max s.guard.claim.hi (sp.x + r.halfRight)⟩ := by
    rw [intervalAt_of_record hr]
    rfl
  refine ⟨fun hwithin => ?_, fun side hside => ?_⟩
  · rw [runCheck_of_within hsp (hn.trans hwithin), guard_passCheck, Guard.passes, hsp]
  have hrun : runCheck s = checkBeyond side
      ⟨min s.guard.claim.lo (sp.x - r.halfLeft), max s.guard.claim.hi (sp.x + r.halfRight)⟩ s := by
    obtain ⟨rfl, -, hhi⟩ | ⟨rfl, hhi, hlo⟩ := hside
    · exact runCheck_of_right hsp hn hhi
    · exact runCheck_of_left hsp hn hhi hlo
  have hgap := guardGap_of_record hr
  dsimp only
  rw [hrun]
  refine ⟨fun halone => ?_, fun hstation hclear => ?_, fun hstation hclear => ?_⟩
  · rw [checkBeyond_of_alone halone, guard_passCheck_setClaim, Guard.passes, hsp]
  · rw [checkBeyond_of_keeps hstation (by rw [hgap]; exact keeps_iff_near.1 hclear),
      guard_announceOn_of_no_announce hquiet]
    rfl
  · rw [checkBeyond_of_not_keeps hstation (by rw [hgap]; exact fun h => hclear (keeps_iff_near.2 h)),
      guard_enterWait_of_no_announce hquiet]
    rfl

/-! ## The claim recomputed (R183, R184) -/

theorem foldl_hull_intervalAt (r : JobRecord) (hr : s.job.record = some r) (l : List Outstanding) (iv : Interval) :
    l.foldl (fun iv o => Interval.hull iv (s.intervalAt o.sp.x)) iv =
      ⟨(l.map fun o => o.sp.x - r.halfLeft).foldl min iv.lo, (l.map fun o => o.sp.x + r.halfRight).foldl max iv.hi⟩ := by
  induction l generalizing iv with
  | nil => rfl
  | cons o l ih =>
    rw [List.foldl_cons, ih, intervalAt_of_record hr]
    rfl

theorem neededInterval_of_record {r : JobRecord} (hr : s.job.record = some r) (hpassed : s.guard.passed = none) :
    s.neededInterval = needed r s.inputs.x s.motion.outstanding := by
  simp only [State.neededInterval, hpassed]
  rw [foldl_hull_intervalAt r hr, State.occupied, intervalAt_of_record hr]
  rfl

theorem neededInterval_of_idle (hout : s.motion.outstanding = []) (hpassed : s.guard.passed = none) :
    s.neededInterval = s.occupied := by
  simp only [State.neededInterval, hpassed, hout, List.foldl_nil]

theorem recomputeClaim_of_moving (h : s.motion.halt = .moving) : recomputeClaim s = setClaim s.neededInterval s := if_pos h

theorem guard_shrinkClaim_of_no_wait (h : s.motion.halt = .moving)
    (hkeep : s.guard.phase ≠ .wait ∨ s.neededInterval = s.guard.claim) :
    (shrinkClaim s).guard = { s.guard with claim := s.neededInterval } := by
  rw [shrinkClaim, recomputeClaim_of_moving h, recheckIfMoved]
  split
  case isTrue => exact guard_setClaim _ s
  case isFalse hmoved =>
    rw [guard_setClaim] at hmoved
    have hphase : (setClaim s.neededInterval s).guard.phase ≠ .wait := by
      rw [guard_setClaim]
      exact hkeep.resolve_right hmoved
    rw [recheck, if_neg hphase, guard_setClaim]

theorem shrinkClaim_of_wait (h : s.motion.halt = .moving) (hphase : s.guard.phase = .wait)
    (hmoved : s.neededInterval ≠ s.guard.claim) : shrinkClaim s = runCheck (setClaim s.neededInterval s) := by
  have hphase' : (setClaim s.neededInterval s).guard.phase = .wait := by
    rw [guard_setClaim]
    exact hphase
  have hmoved' : ¬ (setClaim s.neededInterval s).guard.claim = s.guard.claim := by
    rw [guard_setClaim]
    exact hmoved
  rw [shrinkClaim, recomputeClaim_of_moving h, recheckIfMoved, if_neg hmoved', recheck, if_pos hphase']

/-- At an arrival and at a halted report the claim is recomputed as R183 and R184 have it. -/
theorem claimRecomputed_shrinkClaim {r : JobRecord} (hr : s.job.record = some r) (h : s.motion.halt = .moving)
    (hpassed : s.guard.passed = none) :
    ClaimRecomputed (needed r s.inputs.x s.motion.outstanding) r s.guard (shrinkClaim s).guard := by
  rw [← neededInterval_of_record hr hpassed]
  refine ⟨guard_shrinkClaim_of_no_wait h, fun hphase hmoved sp hsp hquiet => ?_⟩
  rw [shrinkClaim_of_wait h hphase hmoved]
  have hguard := guard_setClaim s.neededInterval s
  rw [← hguard]
  refine checkRuns_runCheck ?_ ?_ ?_
  · simpa using hr
  · rw [hguard]
    exact hsp
  · rw [hguard]
    exact hquiet

end Sys2Proof.Machine

/-! SUPPORT. The report timers and the Guard's timers (R117, R178, R179, R181, R183), and a head whose check goes beyond the
claim (R180). -/

namespace Sys2Proof.Machine

open Sys2Proof

variable {s : State}

/-! ## The report timers (R117, R178) -/

theorem Bus.offerReport_of_mute {b : Bus} (h : b.mute = true) (k : Kind) (dest : Byte) : b.offerReport k dest = b := by
  simp [Bus.offerReport, h]

theorem pq_offerCredit {c : CarverJob} (hc : s.carverJob = some c) : (offerCredit s).pq =
    { s.pq with creditTimer := if s.inJob then some 100 else none, freeAtOffer := s.pq.free } := by
  simp [offerCredit, hc, offerCreditTo]

theorem bus_offerCredit {c : CarverJob} (hc : s.carverJob = some c) (hstate : s.job.state ∉ [.held, .starting]) :
    (offerCredit s).bus = s.bus.offerReport .credit (byteOf c.tracer) := by
  have hcan (q : PathQueue) : (s.setPq q).canOffer = true := (canOffer_iff s).2 hstate
  simp [offerCredit, hc, offerCreditTo, offerReport, hcan]

theorem guard_offerReach (s : State) : (offerReach s).guard = s.guard := by simp

theorem bus_offerReach (hstate : s.job.state ∉ [.held, .starting]) :
    (offerReach s).bus = s.bus.offerReport .reach 255 := by
  rw [offerReach, offerReport, if_pos ((canOffer_iff s).2 hstate)]
  rfl

/-! ## A view goes stale (R179, R181) -/

/-- The state in which a view has gone stale and NEIGHBOUR_STALE is raised. -/
def staleNoted (side : Side) (h : Heard) (s : State) : State :=
  raise .neighbourStale (s.setGuard (s.guard.setView side ⟨(s.guard.view side).station, some { h with stale := true }⟩))

theorem guard_staleNoted (side : Side) (h : Heard) (s : State) : (staleNoted side h s).guard =
    s.guard.setView side ⟨(s.guard.view side).station, some { h with stale := true }⟩ := by
  simp [staleNoted]

theorem exec_viewStale_eq {side : Side} {h : Heard} (hview : (s.guard.view side).heard = some h) (hfresh : h.stale = false) :
    exec (.viewStale side) s = .next (if s.guard.phase = .settle ∧ s.guard.side = side then
      enterWait side (staleNoted side h s) else staleNoted side h s) := by
  have hphase : (staleNoted side h s).guard.phase = s.guard.phase := by simp [guard_staleNoted]
  have hside : (staleNoted side h s).guard.side = s.guard.side := by simp [guard_staleNoted]
  rw [← hphase, ← hside]
  simp only [exec, execViewStale, hview, hfresh]
  rfl

theorem anyStale_iff (g : Guard) : g.anyStale = true ↔ ∃ side h, (g.view side).heard = some h ∧ h.stale = true := by
  simp only [Guard.anyStale, Bool.or_eq_true]
  constructor
  · rintro (h | h)
    · cases hl : g.left.heard with
      | none => simp [hl] at h
      | some v => exact ⟨.left, v, hl, by simpa [hl] using h⟩
    · cases hr : g.right.heard with
      | none => simp [hr] at h
      | some v => exact ⟨.right, v, hr, by simpa [hr] using h⟩
  · rintro ⟨side, h, hv, hstale⟩
    cases side with
    | left =>
      rw [Guard.view] at hv
      simp [hv, hstale]
    | right =>
      rw [Guard.view] at hv
      simp [hv, hstale]

theorem view_enterWait (side o : Side) (s : State) : (enterWait side s).guard.view o = s.guard.view o := by
  rw [guard_enterWait]
  cases o <;> rfl

/-! ## The look at the last reply (R181) -/

theorem replyClear_iff (gap : Int) (side : Side) (n : Interval) (v : Seen) : replyClear gap side n v = true ↔
    gap ≤ gapTo side n v.claim ∧ ∀ a, v.announce = some a → gap ≤ gapTo side n a := by
  simp only [replyClear, Bool.and_eq_true, decide_eq_true_eq]
  cases v.announce <;> simp

theorem gapTo_eq_ite (side : Side) (n iv : Interval) :
    gapTo side n iv = if side = .left then n.lo - iv.hi else iv.lo - n.hi := by
  cases side <;> rfl

theorem takeOnClearReply_of_clear {n : Interval} {v : Seen} (hphase : s.guard.phase = .settle)
    (htimer : s.guard.settleTimer = none) (hn : s.guard.announce = some n) (hv : s.guard.reply = some v)
    (hclear : replyClear s.guardGap s.guard.side n v = true) :
    takeOnClearReply s = passCheck (setAnnounce none (setClaim n s)) := by
  simp only [takeOnClearReply, hphase, htimer, hn, hv, hclear, and_self, if_true]

theorem takeOnClearReply_of_not_clear {n : Interval} (hn : s.guard.announce = some n)
    (hclear : ∀ v, s.guard.reply = some v → replyClear s.guardGap s.guard.side n v = false) : takeOnClearReply s = s := by
  unfold takeOnClearReply
  split
  case isFalse => rfl
  case isTrue =>
    cases hv : s.guard.reply with
    | none => simp [hn]
    | some v => simp [hn, hclear v hv]

theorem guard_taken (n : Interval) (s : State) : (passCheck (setAnnounce none (setClaim n s))).guard =
    { s.guard.passes with
      claim := n, announce := none
      announceSent := if none = s.guard.announce then s.guard.announceSent else false } := by
  rw [guard_passCheck, guard_setAnnounce, guard_setClaim]
  rfl

/-- Settles O51. -/
theorem reportAndGuardTimersEnd : Obligations.ReportAndGuardTimersEnd := by
  intro s
  refine ⟨fun c hc htimer hstate => ?_, fun htimer hstate => ?_, fun side h hview hfresh => ?_,
    fun n hn sp hsp hphase htimer r hr => ?_, fun htimer => ?_⟩
  · have hexec : exec .creditTimerExpiry s = .next (offerCredit s) := by simp [exec, execCreditTimerExpiry, htimer]
    have hearly : s.job.state ∉ [.held, .starting] := by
      intro hin
      simp only [List.mem_cons, List.not_mem_nil, or_false] at hstate hin
      rcases hstate with h | h <;> simp [h] at hin
    refine ⟨_, hexec, ?_, fun hmute => exists_credit_offerCredit hc hmute hearly, fun hmute => ?_,
      commandsWriteOnlyTheirBlocks _ _ _ hexec⟩
    · rw [pq_offerCredit hc, if_pos ((inJob_iff s).2 hstate)]
    · rw [bus_offerCredit hc hearly, Bus.offerReport_of_mute hmute]
  · have hexec : exec .reachTimerExpiry s = .next (offerReach (s.setGuard { s.guard with reachTimer := some 50 })) := by
      simp [exec, execReachTimerExpiry, htimer]
    refine ⟨_, hexec, guard_offerReach _, fun hmute => exists_reach_offerReach hmute hstate, fun hmute => ?_,
      commandsWriteOnlyTheirBlocks _ _ _ hexec⟩
    exact (bus_offerReach (s := s.setGuard { s.guard with reachTimer := some 50 }) hstate).trans
      (Bus.offerReport_of_mute hmute _ _)
  · have hexec := exec_viewStale_eq hview hfresh
    have hguard := guard_staleNoted side h s
    have hhas : (staleNoted side h s).cond.has .neighbourStale = true := by simp [staleNoted, has_raise]
    have hv : (staleNoted side h s).guard.view side = ⟨(s.guard.view side).station, some { h with stale := true }⟩ := by
      rw [hguard, view_setView]
    by_cases hsettle : s.guard.phase = .settle ∧ s.guard.side = side
    · rw [if_pos hsettle] at hexec
      have hv' := (view_enterWait side side (staleNoted side h s)).trans hv
      refine ⟨_, hexec, hv', by simpa using hhas, (anyStale_iff _).2 ⟨side, _, congrArg View.heard hv', rfl⟩, ?_, ?_,
        fun _ _ => ?_, fun hnot => ?_, commandsWriteOnlyTheirBlocks _ _ _ hexec⟩
      · simp [hguard]
      · simp [hguard]
      · rw [guard_enterWait]
        exact ⟨rfl, rfl⟩
      · exact (hnot.elim (· hsettle.1) (· hsettle.2)).elim
    · rw [if_neg hsettle] at hexec
      refine ⟨_, hexec, hv, hhas, (anyStale_iff _).2 ⟨side, _, congrArg View.heard hv, rfl⟩, ?_, ?_,
        fun hphase hside => absurd ⟨hphase, hside⟩ hsettle, fun _ => ?_, commandsWriteOnlyTheirBlocks _ _ _ hexec⟩
      · simp [hguard]
      · simp [hguard]
      · simp [hguard]
  · dsimp only
    let u := s.setGuard { s.guard with settleTimer := none }
    have hexec : exec .settleTimerExpiry s = .next (takeOnClearReply u) := by
      simp [exec, execSettleTimerExpiry, hphase, htimer, u]
    have hgap : u.guardGap = r.gap := guardGap_of_record hr
    simp only [← gapTo_eq_ite]
    refine ⟨_, hexec, commandsWriteOnlyTheirBlocks _ _ _ hexec, fun hclear => ?_, fun hclear => ?_⟩
    · obtain ⟨v, hv, hfar⟩ := hclear
      rw [takeOnClearReply_of_clear (s := u) hphase rfl hn hv
        (by rw [hgap]; exact (replyClear_iff _ _ _ _).2 hfar), guard_taken]
      exact ⟨rfl, rfl, hsp, rfl, rfl⟩
    · rw [takeOnClearReply_of_not_clear (s := u) hn fun v hv => ?_]
      · rfl
      · rw [hgap, ← Bool.not_eq_true, replyClear_iff]
        exact hclear v hv
  · have hexec : exec .waitTimerExpiry s =
        .next (raise .guardWaitLong (s.setGuard { s.guard with waitTimer := none, waitExpired := true })) := by
      simp [exec, execWaitTimerExpiry, htimer]
    exact ⟨_, hexec, by simp, by simp [has_raise], commandsWriteOnlyTheirBlocks _ _ _ hexec⟩

/-! ## An entry at the head (R111, R120, R180) -/

theorem pumpLifts_of_none (hport : s.motion.portLift = none) (hclosing : s.motion.closing = none) : pumpLifts s = s := by
  rw [pumpLifts_of_no_portLift hport]
  simp only [pumpClosing, hclosing]

theorem headOpen_iff (s : State) : s.headOpen = true ↔ s.straps.role = .carver ∧ s.job.state = .running ∧
    s.map.sweeping = false ∧ s.seq.phase = .none ∧ ∀ drain, s.motion.portLift ≠ some (.resume drain) := by
  have hwaits : s.motion.resumeWaits = false ↔ ∀ drain, s.motion.portLift ≠ some (.resume drain) := by
    unfold Motion.resumeWaits
    cases s.motion.portLift with
    | none => simp
    | some l => cases l <;> simp
  simp [State.headOpen, State.isCarver, State.isRunning, hwaits, and_assoc]

theorem exec_headHandedOn_of_open {e : Entry} {rest : List Entry} (hposted : s.pq.posted = e :: rest)
    (hopen : s.headOpen = true) : exec .headHandedOn s = .next (pumpLifts (handHead e s)) := by
  simp only [exec, execHeadHandedOn, hposted, hopen, if_true]

section

variable {e : Entry} {rest : List Entry} {r : JobRecord} {c : CarverJob} {k : Nat} {p : PlanStep} {ref : Setpoint}

theorem handHead_of_candidate (hplan : s.seq.resting = false) (hkind : e.kind ∈ [.surface, .stroke, .lift, .gapLift]) :
    handHead e s = if s.setpointOpen then handSetpoint e s else s := by
  unfold handHead
  rw [hplan]
  cases h : e.kind <;> simp [h] at hkind <;> rfl

theorem handSetpoint_of_plan (hr : s.job.record = some r) (hc : r.work = .carver c) (hk : s.seq.index = some k)
    (hp : c.plan[k]? = some p) (href : s.motion.reference = some ref) : handSetpoint e s =
      beginCheck (s.map.airTest r c ref (transform r c s.seq.floor p.kind ref e)) s := by
  have hjob := carverJob_of_carver hr hc
  simp only [handSetpoint, hr, hjob, State.planStep, hk, hp, href]

theorem setpointOpen_iff (hport : s.motion.portLift = none) : s.setpointOpen = true ↔
    s.pq.issued.length < 2 ∧ s.guard.atCheck = none ∧ s.guard.passed = none := by
  simp [State.setpointOpen, hport, isFree_iff]

/-- An entry at the head that produces a setpoint has it checked, where its list and the Guard have room for it. -/
theorem exec_headHandedOn_of_candidate (hposted : s.pq.posted = e :: rest) (hopen : s.headOpen = true)
    (hrest : s.seq.resting = false)
    (hkind : e.kind ∈ [.surface, .stroke, .lift, .gapLift]) : exec .headHandedOn s =
      .next (pumpLifts (if s.setpointOpen then handSetpoint e s else s)) := by
  rw [exec_headHandedOn_of_open hposted hopen, handHead_of_candidate hrest hkind]

theorem pumpLifts_beginCheck_of_none (sp : Setpoint) (hport : s.motion.portLift = none)
    (hclosing : s.motion.closing = none) : pumpLifts (beginCheck sp s) = beginCheck sp s :=
  pumpLifts_of_none (by simpa using hport) (by simpa using hclosing)

theorem beginCheck_unchangedBut (sp : Setpoint) (s : State) : UnchangedBut [.bus, .guard] s (beginCheck sp s) := by
  intro b hb
  cases b <;> simp [Block.same] at hb ⊢

/-- A setpoint put at the check is there still, or has passed. -/
theorem atCheck_or_passed_beginCheck (sp : Setpoint) (s : State) :
    (beginCheck sp s).guard.atCheck = some sp ∨ (beginCheck sp s).guard.passed = some sp := by
  obtain h | ⟨side, n, h⟩ := beginCheck_cases sp s
  · exact .inr (by rw [h]; rfl)
  · rw [h, checkBeyond]
    split
    · exact .inr (by rw [guard_passCheck_setClaim]; rfl)
    · split
      · exact .inl (by simp)
      · split <;> exact .inl (by simp)

theorem guard_beginCheck_of_within {sp : Setpoint}
    (hn : Interval.hull s.guard.claim (s.intervalAt sp.x) = s.guard.claim) :
    beginCheck sp s = passCheck (s.setGuard { s.guard with atCheck := some sp }) :=
  runCheck_of_within (sp := sp) (s := s.setGuard { s.guard with atCheck := some sp }) rfl hn

end

/-- Settles O46. -/
theorem headEntryGoesToTheGuard : Obligations.HeadEntryGoesToTheGuard := by
  intro s e rest hposted hrole r hr c hc k hk p hp ref href hstate hsweep hphase hport hclosing hrest hkind
  have hopen : s.headOpen = true := (headOpen_iff s).2 ⟨hrole, hstate, hsweep, hphase, by simp [hport]⟩
  have hexec := exec_headHandedOn_of_candidate hposted hopen hrest hkind
  dsimp only
  refine ⟨fun hissued hcheck hpassed => ?_, fun hbusy => ?_⟩
  · rw [if_pos ((setpointOpen_iff hport).2 ⟨hissued, hcheck, hpassed⟩), handSetpoint_of_plan hr hc hk hp href,
      pumpLifts_beginCheck_of_none _ hport hclosing] at hexec
    refine ⟨_, hexec, beginCheck_unchangedBut _ s, atCheck_or_passed_beginCheck _ s, fun hwithin => ?_⟩
    rw [guard_beginCheck_of_within (by rw [intervalAt_of_record hr]; exact hwithin)]
    exact ⟨rfl, rfl, rfl, rfl⟩
  · rw [if_neg fun h => ?_, pumpLifts_of_none hport hclosing] at hexec
    · exact hexec
    · obtain ⟨hissued, hcheck, hpassed⟩ := (setpointOpen_iff hport).1 h
      obtain h2 | h | h := hbusy
      · omega
      · exact h hcheck
      · exact h hpassed

/-- Settles O47. -/
theorem aCheckBeyondTheClaimAnnouncesOrWaits : Obligations.ACheckBeyondTheClaimAnnouncesOrWaits := by
  intro s e rest hposted hrole r hr c hc k hk p hp ref href hstate hsweep hphase hport hclosing hrest hkind hissued hcheck
    hpassed hquiet
  have hopen : s.headOpen = true := (headOpen_iff s).2 ⟨hrole, hstate, hsweep, hphase, by simp [hport]⟩
  have hexec := exec_headHandedOn_of_candidate hposted hopen hrest hkind
  rw [if_pos ((setpointOpen_iff hport).2 ⟨hissued, hcheck, hpassed⟩), handSetpoint_of_plan hr hc hk hp href,
    pumpLifts_beginCheck_of_none _ hport hclosing] at hexec
  generalize hsp : s.map.airTest r c ref (transform r c s.seq.floor p.kind ref e) = sp at hexec ⊢
  dsimp only
  intro side hside
  let u := s.setGuard { s.guard with atCheck := some sp }
  have hframe := beginCheck_unchangedBut sp s
  have hn : Interval.hull u.guard.claim (u.intervalAt sp.x) =
      ⟨min s.guard.claim.lo (sp.x - r.halfLeft), max s.guard.claim.hi (sp.x + r.halfRight)⟩ := by
    rw [intervalAt_of_record (s := u) hr]
    rfl
  have hrun : beginCheck sp s = checkBeyond side
      ⟨min s.guard.claim.lo (sp.x - r.halfLeft), max s.guard.claim.hi (sp.x + r.halfRight)⟩ u := by
    obtain ⟨rfl, hhi⟩ | ⟨rfl, hhi, hlo⟩ := hside
    · exact runCheck_of_right (s := u) rfl hn hhi
    · exact runCheck_of_left (s := u) rfl hn hhi hlo
  have hmoved : (⟨min s.guard.claim.lo (sp.x - r.halfLeft), max s.guard.claim.hi (sp.x + r.halfRight)⟩ : Interval) ≠
      u.guard.claim := by
    intro he
    obtain ⟨-, hhi⟩ | ⟨-, -, hlo⟩ := hside
    · exact absurd (congrArg Interval.hi he) hhi.ne'
    · exact absurd (congrArg Interval.lo he) hlo.ne
  have hearly : u.job.state ∉ [.held, .starting] := by simp [u, hstate]
  have hgap : u.guardGap = r.gap := guardGap_of_record hr
  refine ⟨_, hexec, fun halone => ?_, fun hstation hclear => ?_, fun hstation hclear => ?_, hframe⟩
  · have hbeyond := hrun.trans (checkBeyond_of_alone (s := u) halone _)
    refine ⟨?_, fun hmute t ht => ?_⟩
    · rw [hbeyond, guard_passCheck_setClaim]
      simp [Guard.passes, u, hcheck]
    · rw [hexec, Host.Outcome.next.injEq] at ht
      rw [← ht, hbeyond]
      exact exists_reach_setClaim (s := u) hmoved hmute hearly
  · have hbeyond := hrun.trans (checkBeyond_of_keeps (s := u) hstation (by rw [hgap]; exact keeps_iff_near.1 hclear))
    refine ⟨?_, fun hmute t ht => ?_⟩
    · rw [hbeyond, guard_announceOn_of_no_announce (s := u) hquiet]
      rfl
    · rw [hexec, Host.Outcome.next.injEq] at ht
      rw [← ht, hbeyond]
      exact exists_reach_setAnnounce (s := u) (by simp [u, hquiet]) hmute hearly
  · have hbeyond := hrun.trans
      (checkBeyond_of_not_keeps (s := u) hstation (by rw [hgap]; exact fun h => hclear (keeps_iff_near.2 h)))
    rw [hbeyond, guard_enterWait_of_no_announce (s := u) hquiet, bus_enterWait_of_no_announce (s := u) hquiet]
    exact ⟨rfl, rfl⟩

end Sys2Proof.Machine

/-! SUPPORT. A REACH taken (R9, R179, R181 to R183, R186). -/

namespace Sys2Proof.Machine

open Sys2Proof

variable {s : State} {f : Frame} {rest : List Frame}

theorem raise_unchangedBut (c : Cond) (s : State) : UnchangedBut [.bus, .cond] s (raise c s) := by
  intro b hb
  cases b <;> simp [Block.same] at hb ⊢

/-! ## The view of the sender's side (R179) -/

/-- The state in which a REACH of the neighbour on a side is written into its view. -/
def reachNoted (side : Side) (v : Seen) (s : State) : State :=
  s.setGuard (s.guard.setView side ⟨(s.guard.view side).station, some ⟨v, s.now, false⟩⟩)

/-- What the check in progress does with a REACH of the neighbour on a side, once it is written. -/
def reachActed (side : Side) (v : Seen) (s : State) : State :=
  if s.guard.side = side then
    match s.guard.phase with
    | .settle => settleOnReach v s
    | .wait => runCheck s
    | .none => s
  else s

theorem reachFrom_eq (side : Side) (v : Seen) (s : State) :
    reachFrom side v s = testBreach side (reachActed side v (reachNoted side v s)) := rfl

theorem takeReach_of_own (h : f.src = s.straps.number.val) : takeReach f s = raise .duplicateNumber s := if_pos h

theorem sideOf_eq_some {side : Side} {k : Nat} (hl : side = .left → s.guard.left.station = some k)
    (hr : side = .right → s.guard.right.station = some k ∧ s.guard.left.station ≠ some k) : sideOf k s = some side := by
  unfold sideOf
  cases side with
  | left => rw [if_pos (hl rfl)]
  | right => rw [if_neg (hr rfl).2, if_pos (hr rfl).1]

theorem station_of_side {side : Side} {k : Nat} (hl : side = .left → s.guard.left.station = some k)
    (hr : side = .right → s.guard.right.station = some k ∧ s.guard.left.station ≠ some k) :
    (s.guard.view side).station = some k := by
  cases side with
  | left => exact hl rfl
  | right => exact (hr rfl).1

theorem takeReach_of_neighbour {side : Side} (hother : f.src ≠ s.straps.number.val)
    (hrail : byteAt f.payload 0 % 128 = s.straps.rail.val) (hside : sideOf f.src s = some side) :
    takeReach f s = reachFrom side (readReach f.payload) s := by
  rw [takeReach, State.number, if_neg hother]
  simp only [hside, if_pos hrail]

theorem sideOf_eq_none {k : Nat} (hl : s.guard.left.station ≠ some k) (hr : s.guard.right.station ≠ some k) :
    sideOf k s = none := by
  rw [sideOf, if_neg hl, if_neg hr]

theorem takeReach_of_discarded (hother : f.src ≠ s.straps.number.val)
    (h : byteAt f.payload 0 % 128 ≠ s.straps.rail.val ∨
      (s.guard.left.station ≠ some f.src ∧ s.guard.right.station ≠ some f.src)) : takeReach f s = s := by
  rw [takeReach, State.number, if_neg hother]
  cases hside : sideOf f.src s with
  | none => rfl
  | some side =>
    obtain hrail | ⟨hl, hr⟩ := h
    · exact if_neg hrail
    · rw [sideOf_eq_none hl hr] at hside
      cases hside

/-! ## What the check in progress leaves as it is -/

theorem guard_reachActed_keeps (side : Side) (v : Seen) (s : State) :
    (reachActed side v s).guard.left = s.guard.left ∧ (reachActed side v s).guard.right = s.guard.right ∧
      (reachActed side v s).guard.leftArmed = s.guard.leftArmed ∧
      (reachActed side v s).guard.rightArmed = s.guard.rightArmed := by
  unfold reachActed
  (repeat' split) <;> simp

theorem reachActed_keeps (side : Side) (v : Seen) (s : State) :
    (reachActed side v s).inputs = s.inputs ∧ (reachActed side v s).job = s.job ∧ (reachActed side v s).cond = s.cond ∧
      (reachActed side v s).bus.breachPull = s.bus.breachPull ∧ (reachActed side v s).bus.rx = s.bus.rx := by
  unfold reachActed
  (repeat' split) <;> simp

theorem view_reachActed (side : Side) (v : Seen) (s : State) (o : Side) :
    (reachActed side v s).guard.view o = s.guard.view o := by
  obtain ⟨hl, hr, -, -⟩ := guard_reachActed_keeps side v s
  cases o with
  | left => exact hl
  | right => exact hr

theorem armed_reachActed (side : Side) (v : Seen) (s : State) (o : Side) :
    (reachActed side v s).guard.armed o = s.guard.armed o := by
  obtain ⟨-, -, hl, hr⟩ := guard_reachActed_keeps side v s
  cases o with
  | left => exact hl
  | right => exact hr

theorem reachActed_of_idle {side : Side} {v : Seen} (h : s.guard.side ≠ side ∨ s.guard.phase = .none) :
    reachActed side v s = s := by
  unfold reachActed
  split
  case isTrue hside =>
    rw [h.resolve_left (not_not_intro hside)]
  case isFalse => rfl

theorem reachActed_of_wait {side : Side} {v : Seen} (hside : s.guard.side = side) (hphase : s.guard.phase = .wait) :
    reachActed side v s = runCheck s := by
  rw [reachActed, if_pos hside, hphase]

theorem reachActed_of_settle {side : Side} {v : Seen} (hside : s.guard.side = side) (hphase : s.guard.phase = .settle) :
    reachActed side v s = settleOnReach v s := by
  rw [reachActed, if_pos hside, hphase]

theorem armed_setArmed (g : Guard) (side o : Side) (b : Bool) :
    (g.setArmed side b).armed o = if o = side then b else g.armed o := by
  cases side <;> cases o <;> rfl

theorem armed_setView (g : Guard) (side o : Side) (v : View) : (g.setView side v).armed o = g.armed o := by
  cases side <;> cases o <;> rfl

theorem setArmed_forget (g : Guard) (side : Side) (b : Bool) : { g.setArmed side b with
    leftArmed := g.leftArmed, rightArmed := g.rightArmed } = g := by
  cases side <;> rfl

theorem setArmed_eq (g : Guard) (side : Side) (b : Bool) : g.setArmed side b = { g with
    leftArmed := (g.setArmed side b).leftArmed, rightArmed := (g.setArmed side b).rightArmed } := by
  cases side <;> rfl

theorem gapTo_eq_match (side : Side) (n iv : Interval) : gapTo side n iv = match side with
    | .left => n.lo - iv.hi
    | .right => iv.lo - n.hi := by
  cases side <;> rfl

/-- A REACH that is taken answers with the state its frame leaves. -/
theorem exec_reach_eq (hrx : s.bus.rx = f :: rest) (hk : f.kind = .reach) :
    exec .reach s = .next (takeReach f (s.dropFrame rest)) := by
  have harm : exec .reach s = .next (takeFrame .reach takeReach s) := rfl
  rwa [takeFrame_of_front takeReach hrx hk] at harm

/-- Settles O58. -/
theorem reachWritesTheView : Obligations.ReachWritesTheView := by
  intro s f rest hrx hk
  dsimp only
  let u := s.dropFrame rest
  have hexec := exec_reach_eq hrx hk
  refine ⟨fun hown => ?_, fun hother hrail side hleft hright => ?_, fun hother hnot => ?_⟩
  · rw [takeReach_of_own (s := u) hown] at hexec
    exact ⟨_, hexec, by simp [u, State.dropFrame], by simp [u, State.dropFrame], by simp [has_raise],
      ((dropFrame_unchangedBut s rest).mono (by decide)).trans (raise_unchangedBut _ u)⟩
  · rw [takeReach_of_neighbour (s := u) hother hrail (sideOf_eq_some hleft hright), reachFrom_eq] at hexec
    have hstation : (u.guard.view side).station = some f.src := station_of_side hleft hright
    let v := readReach f.payload
    let n := reachNoted side v u
    let a := reachActed side v n
    have hn : n.guard = s.guard.setView side ⟨some f.src, some ⟨v, s.now, false⟩⟩ := by
      simp only [n, reachNoted, hstation]
      rfl
    obtain ⟨hinputs, hjob, hcond, hpull, hrx'⟩ := reachActed_keeps side v n
    have hview : a.guard.view side = ⟨some f.src, some ⟨v, s.now, false⟩⟩ := by
      rw [view_reachActed, hn, view_setView]
    have harmed (o : Side) : a.guard.armed o = s.guard.armed o := by
      rw [armed_reachActed, hn, armed_setView]
    have hclose : closeOn side a = match s.job.record with
        | some r => decide (2 * gapTo side s.occupied v.claim < r.gap)
        | none => false := by
      rw [closeOn, hview, occupied_congr (s := s) hinputs hjob, hjob]
      cases h : s.job.record <;> simp [n, reachNoted, u, State.dropFrame, h]
    have hclear : clearOn side a = match s.job.record with
        | some r => decide (r.gap ≤ 2 * gapTo side s.occupied v.claim)
        | none => false := by
      rw [clearOn, hview, occupied_congr (s := s) hinputs hjob, hjob]
      cases h : s.job.record <;> simp [n, reachNoted, u, State.dropFrame, h]
    have hguard : (testBreach side a).guard = a.guard.setArmed side
        (clearOn side a || (s.guard.armed side && !closeOn side a)) := by
      rw [guard_testBreach, harmed]
    have hbreach : (testBreach side a).bus.breachPull = (s.bus.breachPull || (closeOn side a && s.guard.armed side)) := by
      rw [breachPull_testBreach, harmed, hpull]
      rfl
    rw [gapTo_eq_match] at hclose hclear
    refine ⟨_, hexec, ?_, fun o => ?_, ?_, fun hfound => ?_, fun hquiet => ?_, fun hidle => ?_,
      fun hside hphase hannounce sp hsp r hr => ?_, commandsWriteOnlyTheirBlocks _ _ _ hexec⟩
    · rw [(testBreach_bus _ _).1, hrx']
      rfl
    · rw [hguard, armed_setArmed, harmed, hclose, hclear]
      rfl
    · rw [hbreach, hclose]
      rfl
    · exact has_testBreach (by rw [harmed, hclose]; exact hfound)
    · rw [(testBreach_of_quiet (by rw [harmed, hclose]; exact hquiet)).1, hcond]
      rfl
    · have hsame : a = n := reachActed_of_idle (by simpa [hn] using hidle)
      rw [hguard, hsame, hn]
      exact setArmed_eq _ _ _
    · have hrun : a = runCheck n := reachActed_of_wait (by simpa [hn] using hside) (by simpa [hn] using hphase)
      have hruns := checkRuns_runCheck (s := n) (r := r) (sp := sp) hr (by simpa [hn] using hsp) (by simpa [hn] using hannounce)
      rw [← hrun, hn] at hruns
      have hforget : { (testBreach side a).guard with leftArmed := s.guard.leftArmed, rightArmed := s.guard.rightArmed } =
          a.guard := by
        have hl : a.guard.leftArmed = s.guard.leftArmed := harmed .left
        have hr : a.guard.rightArmed = s.guard.rightArmed := harmed .right
        rw [hguard, ← hl, ← hr, setArmed_forget]
      rw [← hforget] at hruns
      exact hruns
  · rw [takeReach_of_discarded (s := u) hother hnot] at hexec
    exact ⟨_, hexec, rfl, dropFrame_unchangedBut s rest⟩

/-! ## A REACH while the Guard settles (R181, R182) -/

/-- The state in which a REACH heard after the announce is the last reply. -/
def replyNoted (v : Seen) (s : State) : State := if s.guard.heard then s.setGuard { s.guard with reply := some v } else s

theorem guard_replyNoted (v : Seen) (s : State) :
    (replyNoted v s).guard = { s.guard with reply := if s.guard.heard then some v else s.guard.reply } := by
  by_cases h : s.guard.heard = true
  · simp only [replyNoted, if_pos h]
    rfl
  · simp only [replyNoted, if_neg h]

theorem job_replyNoted (v : Seen) (s : State) : (replyNoted v s).job = s.job := by
  unfold replyNoted
  split <;> simp

/-- A reply conflicts with the announce of n: its claim is nearer than the gap, or, seen from the left, its announce (R182). -/
def Conflicts (gap : Int) (side : Side) (n : Interval) (v : Seen) : Prop :=
  gapTo side n v.claim < gap ∨ (side = .left ∧ ∃ a, v.announce = some a ∧ gapTo side n a < gap)

section

variable {n : Interval} {v : Seen}

theorem settleOnReach_eq (hn : s.guard.announce = some n) [Decidable (Conflicts s.guardGap s.guard.side n v)] :
    settleOnReach v s =
      if Conflicts s.guardGap s.guard.side n v then enterWait s.guard.side (replyNoted v s)
      else if s.guard.heard then takeOnClearReply (replyNoted v s) else replyNoted v s := by
  have hside : (replyNoted v s).guard.side = s.guard.side := by rw [guard_replyNoted]
  have hheard : (replyNoted v s).guard.heard = s.guard.heard := by rw [guard_replyNoted]
  have hgap : (replyNoted v s).guardGap = s.guardGap := by
    unfold replyNoted
    split <;> rfl
  have hiff : (decide (gapTo s.guard.side n v.claim < s.guardGap) ||
      ((match v.announce with
        | some a => decide (gapTo s.guard.side n a < s.guardGap)
        | none => false) && s.guard.side == .left)) = true ↔ Conflicts s.guardGap s.guard.side n v := by
    unfold Conflicts
    cases v.announce with
    | none => simp
    | some a => simp [and_comm]
  have hnoted : (if s.guard.heard = true then s.setGuard { s.guard with reply := some v } else s) = replyNoted v s := rfl
  unfold settleOnReach
  split
  case h_1 hnone => simp [hn] at hnone
  case h_2 m hm =>
    obtain rfl : n = m := by simpa [hn] using hm
    simp only [hnoted, hside, hheard, hgap]
    exact if_congr hiff rfl rfl

theorem settleOnReach_of_conflict (hn : s.guard.announce = some n) (h : Conflicts s.guardGap s.guard.side n v) :
    settleOnReach v s = enterWait s.guard.side (replyNoted v s) := by
  classical
  rw [settleOnReach_eq hn, if_pos h]

theorem settleOnReach_of_heard (hn : s.guard.announce = some n) (h : ¬ Conflicts s.guardGap s.guard.side n v)
    (hheard : s.guard.heard = true) : settleOnReach v s = takeOnClearReply (replyNoted v s) := by
  classical
  rw [settleOnReach_eq hn, if_neg h, if_pos hheard]

theorem settleOnReach_of_unheard (hn : s.guard.announce = some n) (h : ¬ Conflicts s.guardGap s.guard.side n v)
    (hheard : s.guard.heard = false) : settleOnReach v s = replyNoted v s := by
  classical
  rw [settleOnReach_eq hn, if_neg h, hheard, if_neg Bool.false_ne_true]

theorem not_conflicts_of_clear {gap : Int} {side : Side} (h : replyClear gap side n v = true) : ¬ Conflicts gap side n v := by
  obtain ⟨hclaim, hann⟩ := (replyClear_iff _ _ _ _).1 h
  rintro (hlt | ⟨-, a, ha, hlt⟩)
  · exact absurd hlt (not_lt.2 hclaim)
  · exact absurd hlt (not_lt.2 (hann a ha))

theorem takeOnClearReply_of_timer (h : s.guard.settleTimer.isSome = true) : takeOnClearReply s = s := by
  rw [takeOnClearReply, if_neg]
  rintro ⟨-, hnone⟩
  simp [hnone] at h

end

/-- Settles O59. -/
theorem reachSettlesTheAnnounce : Obligations.ReachSettlesTheAnnounce := by
  intro s f rest hrx hk hother hrail r hr n hn sp hsp hphase hleft hright
  dsimp only
  let u := s.dropFrame rest
  let v := readReach f.payload
  let side := s.guard.side
  have hstation : (u.guard.view side).station = some f.src := station_of_side hleft hright
  have hexec := exec_reach_eq hrx hk
  rw [takeReach_of_neighbour (s := u) hother hrail (sideOf_eq_some (side := side) hleft hright), reachFrom_eq] at hexec
  let w := reachNoted side v u
  have hw : w.guard = s.guard.setView side ⟨some f.src, some ⟨v, s.now, false⟩⟩ := by
    simp only [w, reachNoted, hstation]
    rfl
  have hwside : w.guard.side = side := by simp [hw, side]
  have hwn : w.guard.announce = some n := by simp [hw, hn]
  have hwgap : w.guardGap = r.gap := guardGap_of_record hr
  have hacted : reachActed side v w = settleOnReach v w := reachActed_of_settle hwside (by simp [hw, hphase])
  have hview : (testBreach side (reachActed side v w)).guard.view side = ⟨some f.src, some ⟨v, s.now, false⟩⟩ := by
    rw [guard_testBreach]
    have hset (g : Guard) (b : Bool) : (g.setArmed side b).view side = g.view side := by
      cases side <;> rfl
    rw [hset, view_reachActed, hw, view_setView]
  have hrx' : (testBreach side (reachActed side v w)).bus.rx = rest := by
    obtain ⟨-, -, -, -, hkeep⟩ := reachActed_keeps side v w
    rw [(testBreach_bus _ _).1, hkeep]
    rfl
  have hclaim : (v.claim : Interval) = ⟨lengthAt f.payload 1, lengthAt f.payload 4⟩ := rfl
  have hann (q : Interval → Prop) : (∃ a, v.announce = some a ∧ q a) ↔
      128 ≤ byteAt f.payload 0 ∧ q ⟨lengthAt f.payload 7, lengthAt f.payload 10⟩ := by
    simp only [v, readReach]
    split <;> simp [*]
  have hconf : (Conflicts r.gap side n v) ↔ (gapTo side n ⟨lengthAt f.payload 1, lengthAt f.payload 4⟩ < r.gap ∨
      (side = .left ∧ 128 ≤ byteAt f.payload 0 ∧ gapTo side n ⟨lengthAt f.payload 7, lengthAt f.payload 10⟩ < r.gap)) := by
    rw [Conflicts, hann, hclaim]
  have hclear : replyClear r.gap side n v = true ↔ (r.gap ≤ gapTo side n ⟨lengthAt f.payload 1, lengthAt f.payload 4⟩ ∧
      (128 ≤ byteAt f.payload 0 → r.gap ≤ gapTo side n ⟨lengthAt f.payload 7, lengthAt f.payload 10⟩)) := by
    rw [replyClear_iff, hclaim]
    simp only [v, readReach]
    split <;> simp [*]
  have hgap (a b : Int) : (if s.guard.side = .left then n.lo - b else a - n.hi) = gapTo side n ⟨a, b⟩ :=
    (gapTo_eq_ite side n ⟨a, b⟩).symm
  simp only [hgap]
  refine ⟨_, hexec, hrx', hview, fun hconflict => ?_, fun hheard htimer hfar => ?_, fun hconflict hstays => ?_,
    commandsWriteOnlyTheirBlocks _ _ _ hexec⟩
  · have hact := hacted.trans (settleOnReach_of_conflict hwn (by rw [hwgap, hwside]; exact hconf.2 hconflict))
    rw [guard_testBreach, hact, guard_enterWait, guard_replyNoted, hw]
    refine ⟨by simp [Guard.waits], by simp, by simp [Guard.waits, hsp], by simp [Guard.waits], by simp [Guard.waits],
      fun hfirst => ?_⟩
    simp [Guard.waits, hfirst]
  · have hc := hclear.2 hfar
    have hact := hacted.trans (settleOnReach_of_heard hwn
      (by rw [hwgap, hwside]; exact not_conflicts_of_clear hc) (by simp [hw, hheard]))
    rw [takeOnClearReply_of_clear (n := n) (v := v) (by simp [guard_replyNoted, hw, hphase])
      (by simp [guard_replyNoted, hw, htimer]) (by simp [guard_replyNoted, hw, hn])
      (by simp [guard_replyNoted, hw, hheard]) ?_] at hact
    · rw [guard_testBreach, hact, guard_taken, guard_replyNoted, hw]
      simp [Guard.passes, hsp]
    · rw [guardGap_of_record ((congrArg JobStore.record (job_replyNoted v w)).trans hr)]
      rw [guard_replyNoted]
      exact hwside ▸ hc
  · have hact : reachActed side v w = replyNoted v w := by
      rw [hacted]
      have hno : ¬ Conflicts w.guardGap w.guard.side n v := by
        rw [hwgap, hwside, hconf]
        exact hconflict
      by_cases hheard : s.guard.heard = true
      case neg => exact settleOnReach_of_unheard hwn hno (by simpa [hw] using hheard)
      rw [settleOnReach_of_heard hwn hno (by simpa [hw] using hheard)]
      obtain h | htimer | hfar := hstays
      · simp [hheard] at h
      · exact takeOnClearReply_of_timer (by simpa [guard_replyNoted, hw] using htimer)
      · refine takeOnClearReply_of_not_clear (n := n) (by simp [guard_replyNoted, hw, hn]) fun x hx => ?_
        rw [guard_replyNoted, hw] at hx
        obtain rfl : v = x := by simpa [hheard] using hx
        rw [guardGap_of_record ((congrArg JobStore.record (job_replyNoted v w)).trans hr), guard_replyNoted,
          ← Bool.not_eq_true]
        exact fun h => hfar (hclear.1 (hwside ▸ h))
    rw [guard_testBreach, hact, guard_replyNoted, hw]
    simp [hphase, hn, hsp]
    rfl

end Sys2Proof.Machine

/-! SUPPORT. A JOIN taken (R30, R84, R181): a rejoin whose pass order runs a check of the Guard's. -/

namespace Sys2Proof.Machine

open Sys2Proof

/-- The record of a FOLLOW job whose enrol list names the carvers 1 and 2. -/
def followRecord : JobRecord where
  id := 1
  halfLeft := 0
  halfRight := 0
  gap := 5000
  xMin := 0
  xMax := 0
  yMin := 0
  yMax := 0
  clearance := -2000
  feeds := ⟨10, 10, 10, 10⟩
  work := .tracer
    { mode := .follow, u0 := 0, u1 := 0, v0 := 0, v1 := 0, spacing := 50, stepovers := [50, 50, 50, 50], passLimit := 2
      useStore := false, faces := [0], enrol := [1, 2] }
  clamped := []

/-- The entry of a carver that has completed pass 1 and wants another. -/
def entryWanting (k : Nat) : LagEntry where
  carver := k
  capacity := 240
  released := 0
  last := .running
  completed := 1
  wants := true
  cls := 0
  free := 240
  lastHeard := 0
  silent := false
  dropped := false
  presumed := false

/-- The peer of a carver in slot 1 of rail 0, as a JOIN of it describes it. -/
def carverPeer : Peer := ⟨.carver, 0, 1, 0, 240, 0, 0⟩

/-- The JOIN of the carver 1 after its restart, with the answer flag clear. -/
def restartedJoin : Frame := ⟨.join, 1, 255, [0xB6#8, 1, 0, 1, 0, 240, 0, 0]⟩

/-- A tracer in COLLECTING, whose Guard is in SETTLE toward the right with nothing at the check, and which has received the JOIN
of its restarted carver 1. -/
def tracerCollecting : State :=
  { State.reset with
    straps := { Straps.unsampled with role := .tracer }
    bus := { Bus.afterReset with rx := [restartedJoin] }
    roster := { Roster.afterReset with entries := Roster.afterReset.entries.set 1 (some carverPeer) }
    job := { JobStore.afterReset with state := .running, record := some followRecord }
    pacer := { Pacer.afterReset with phase := .collecting, pass := 1, lag := [entryWanting 1, entryWanting 2] }
    guard := { Guard.afterReset 0 with phase := .settle, side := .right } }

/-- The station after the JOIN. -/
def tracerRejoined : State := takeJoin restartedJoin (tracerCollecting.dropFrame [])

/-- Refutes O60: the rejoin's entry removed, the next pass is ordered (R86), and its turntable move, which finds the Guard free,
runs a check that ends the SETTLE phase before the join notice comes to it. -/
theorem not_joinWritesTheEntry : ¬ Obligations.JoinWritesTheEntry := by
  intro h
  obtain ⟨-, hgood⟩ := h tracerCollecting restartedJoin [] rfl rfl
  obtain ⟨-, hother⟩ := hgood carverPeer (by decide)
  obtain ⟨t, ht, -, -, -, -, -, -, -, -, -, hrail, -⟩ := hother (by decide) (by decide)
  have hexec : exec .join tracerCollecting = .next tracerRejoined := rfl
  obtain rfl : tracerRejoined = t := Host.Outcome.next.inj (hexec.symm.trans ht)
  obtain ⟨-, hnamed⟩ := hrail (.inl rfl) .right
  obtain ⟨-, -, hfall, -⟩ := hnamed (.inr (by decide))
  have hphase : tracerRejoined.guard.phase = .none := by decide
  simp [(hfall rfl rfl).1] at hphase

end Sys2Proof.Machine

/-! SUPPORT. A stall (R114, R168, R171, R180): a retract that has to be announced. -/

namespace Sys2Proof.Machine

open Sys2Proof

/-- The carver's part of a job with no plan. -/
def idleCarver : CarverJob where
  tracer := 0
  snum := 1
  sden := 1
  mirror := false
  reversed := false
  xOff := 0
  yOff := 0
  dOff := 0
  phase := 0
  dMax := 0
  letterFactor := 0
  letterLimit := 0
  baseX := 0
  baseY := 0
  shift := 0
  faces := [0]
  plan := []

/-- The record of that job. -/
def idleRecord : JobRecord where
  id := 1
  halfLeft := 0
  halfRight := 0
  gap := 5000
  xMin := 0
  xMax := 0
  yMin := 0
  yMax := 0
  clearance := -2000
  feeds := ⟨10, 10, 10, 10⟩
  work := .carver idleCarver
  clamped := []

/-- A RUNNING carver at the end of its stall timer, whose carriage stands 1 mm to the right of its claim, with a neighbour
heard on that side whose claim is 1 m away. -/
def carverBesideItsClaim : State :=
  { State.reset with
    straps := { Straps.unsampled with role := .carver }
    inputs := { Inputs.atPowerUp with x := 1000 }
    job := { JobStore.afterReset with state := .running, record := some idleRecord }
    motion := { Motion.afterReset with stallTimer := some 0 }
    guard := { Guard.afterReset 0 with right := ⟨some 1, some ⟨⟨⟨1000000, 1000000⟩, none⟩, 0, false⟩⟩ } }

/-- No clause keeps the carriage within its claim. -/
theorem settled_carverBesideItsClaim : carverBesideItsClaim.Settled := by
  constructor <;> simp [carverBesideItsClaim, State.reset, JobStore.afterReset, Motion.afterReset, Guard.afterReset,
    Pacer.afterReset, idleRecord, Work.hasRole]

/-- The station after the stall. -/
def carverStalled : State := stallCarver carverBesideItsClaim

/-- Refutes O56: the retract falls due with nothing before it, and the Guard's check of it, which goes beyond the claim,
announces (R180), so that an announce stands. -/
theorem not_stallSuspendsTheCarver : ¬ Obligations.StallSuspendsTheCarver := by
  intro h
  obtain ⟨t, ht, -, -, -, -, -, -, -, -, -, -, -, hquiet, -⟩ := h carverBesideItsClaim rfl idleRecord rfl idleCarver rfl
  have hexec : exec .stall carverBesideItsClaim = .next carverStalled := rfl
  obtain rfl : carverStalled = t := Host.Outcome.next.inj (hexec.symm.trans ht)
  have hannounce : carverStalled.guard.announce = some ⟨0, 1000⟩ := by decide
  simp [hquiet settled_carverBesideItsClaim] at hannounce

end Sys2Proof.Machine

/-! SUPPORT. The bed stop (R20, R53, R113, R173, R185): the check abandoned, and a station that stops. -/

namespace Sys2Proof.Machine

open Sys2Proof

variable {s : State}

/-! ## The check abandoned (R185) -/

/-- The Guard with its check abandoned and its passed setpoint dropped (R185). -/
def Guard.abandoned (g : Guard) : Guard :=
  { g with
    announce := none
    announceSent := if none = g.announce then g.announceSent else false
    phase := .none, atCheck := none, passed := none, settleTimer := none, waitTimer := none, waitExpired := false
    heard := false, reply := none }

theorem abandonCheck_of_free (h : s.guard.isFree = true) : abandonCheck s = s := if_pos h

theorem guard_recomputeClaim (s : State) : (recomputeClaim s).guard =
    { s.guard with claim := if s.motion.halt = .moving then s.neededInterval else s.guard.claim } := by
  unfold recomputeClaim
  split
  · rw [guard_setClaim]
  · rfl

theorem neededInterval_congr {t : State} (hinputs : t.inputs = s.inputs) (hjob : t.job = s.job)
    (hout : t.motion.outstanding = s.motion.outstanding) (hpassed : t.guard.passed = s.guard.passed) :
    t.neededInterval = s.neededInterval := by
  have hocc := occupied_congr hinputs hjob
  have hat (x : Int) : t.intervalAt x = s.intervalAt x := by simp [State.intervalAt, State.halfWidths, hjob]
  simp only [State.neededInterval, hocc, hout, hpassed, hat]

theorem guard_abandonCheck_of_busy (h : s.guard.isFree = false) : (abandonCheck s).guard =
    { s.guard.abandoned with
      claim := if s.motion.halt = .moving then (s.setGuard s.guard.abandoned).neededInterval else s.guard.claim } := by
  let u := setAnnounce none s
  let v := u.setGuard { u.guard with
    phase := .none, atCheck := none, passed := none, settleTimer := none, waitTimer := none, waitExpired := false
    heard := false, reply := none }
  have habandon : abandonCheck s = recomputeClaim v := if_neg (by simp [h])
  have hv : v.guard = s.guard.abandoned := by
    simp only [v, u, guard_setAnnounce]
    rfl
  have hneeded : v.neededInterval = (s.setGuard s.guard.abandoned).neededInterval :=
    neededInterval_congr (by simp [v, u]) (by simp [v, u]) (by simp [v, u]) (by rw [hv]; rfl)
  have hhalt : v.motion.halt = s.motion.halt := by simp [v, u]
  rw [habandon, guard_recomputeClaim, hneeded, hhalt, hv]
  rfl

theorem isFree_abandonCheck (s : State) : (abandonCheck s).guard.isFree = true := by
  cases h : s.guard.isFree with
  | true => rwa [abandonCheck_of_free h]
  | false =>
    rw [guard_abandonCheck_of_busy h]
    rfl

/-- What the check's end leaves of the Guard, whatever the drives do. -/
theorem guard_abandonCheck (s : State) : (abandonCheck s).guard.atCheck = none ∧ (abandonCheck s).guard.passed = none ∧
    (s.guard.atCheck ≠ none ∨ s.guard.passed ≠ none →
      (abandonCheck s).guard.phase = .none ∧ (abandonCheck s).guard.announce = none) ∧
    (s.guard.atCheck = none → s.guard.passed = none → abandonCheck s = s) ∧
    (s.motion.halt ≠ .moving → (abandonCheck s).guard.claim = s.guard.claim) := by
  obtain ⟨hcheck, hpassed⟩ := (isFree_iff _).1 (isFree_abandonCheck s)
  refine ⟨hcheck, hpassed, fun hbusy => ?_, fun h h' => abandonCheck_of_free ((isFree_iff _).2 ⟨h, h'⟩), fun hhalt => ?_⟩
  · have hfree : s.guard.isFree = false := by
      rw [← Bool.not_eq_true, isFree_iff]
      exact fun h => hbusy.elim (· h.1) (· h.2)
    rw [guard_abandonCheck_of_busy hfree]
    exact ⟨rfl, rfl⟩
  · cases h : s.guard.isFree with
    | true => rw [abandonCheck_of_free h]
    | false => rw [guard_abandonCheck_of_busy h, if_neg hhalt]

/-! ## Stop sensed (R20, R173) -/

theorem stopCommand_of_halting (h : s.motion.halt ≠ .moving) : stopCommand s = true := by simp [stopCommand, h]

theorem exec_stopSensed_eq (hstate : s.job.state ≠ .held) (hhigh : s.bus.sensedLow = false) :
    exec .stopSensed s = .next (stopPort (senseLow s)) := by
  have hnot : ¬ (s.job.state = .held ∨ s.bus.sensedLow = true) := by simp [hstate, hhigh]
  exact congrArg Host.Outcome.next (if_neg hnot)

theorem senseLow_unchangedBut (s : State) : UnchangedBut [.inputs, .bus, .cond] s (senseLow s) := by
  intro b hb
  cases b <;> simp [Block.same, senseLow] at hb ⊢

theorem inputs_senseLow (s : State) : (senseLow s).inputs =
    { s.inputs with lineLow := s.inputs.lineLow || !(s.bus.drivePull || s.bus.breachPull) } := by
  simp [senseLow, Bus.pulls]

theorem stopPort_of_started (h : s.job.state = .armed ∨ s.job.state = .running) :
    stopPort s = enterStopped (stopDrives s) := by
  obtain h | h := h <;> simp [stopPort, h]

theorem stopPort_of_kept (h : s.job.state ∉ [.armed, .running, .stopped]) : stopPort s = stopInPlace (stopDrives s) := by
  unfold stopPort
  cases hs : s.job.state <;> simp [hs] at h ⊢

theorem motion_stopDrives (s : State) : (stopDrives s).motion =
    { s.motion with
      halt := s.motion.halt.stop, portLift := none, spindle := .off, highTimer := none, lowTimer := none
      stallTimer := none } := by
  simp [stopDrives, spindleOff]

/-- The station whose started job has its setpoints taken back, before the check is dropped. -/
def setpointsReturned (s : State) : State :=
  ((s.setMotion { s.motion with outstanding := [], closing := none, held := s.unarrivedMoves, waiting := [] }).setPq
    s.pq.returned).setSeq s.seq.stopAwaiting

theorem enterStopped_eq (s : State) : enterStopped s =
    offerCredit (setStation .stopped ((abandonCheck (setpointsReturned s)).setJob
      { s.job with remembered := s.job.state })) := by
  have hjob : (abandonCheck (setpointsReturned s)).job = s.job := by simp [setpointsReturned]
  rw [← hjob]
  rfl

theorem motion_enterStopped (s : State) :
    (enterStopped s).motion.outstanding = [] ∧ (enterStopped s).motion.closing = none ∧
      (enterStopped s).motion.held = s.unarrivedMoves ∧ (enterStopped s).motion.waiting = [] ∧
      (enterStopped s).motion.spindle = s.motion.spindle ∧ (enterStopped s).motion.halt = s.motion.halt ∧
      (enterStopped s).motion.portLift = s.motion.portLift := by
  rw [enterStopped_eq]
  simp [setpointsReturned]

theorem guard_enterStopped (s : State) : (enterStopped s).guard = (abandonCheck (setpointsReturned s)).guard := by
  rw [enterStopped_eq]
  simp

theorem job_enterStopped (s : State) :
    (enterStopped s).job = { s.job with state := .stopped, remembered := s.job.state } := by
  rw [enterStopped_eq]
  simp [job_setStation]

theorem pq_enterStopped (s : State) :
    (enterStopped s).pq.issued = [] ∧ (enterStopped s).pq.posted = s.pq.issued.map (·.entry) ++ s.pq.posted ∧
      (enterStopped s).pq.free = s.pq.free ∧ (enterStopped s).pq.released = s.pq.released := by
  rw [enterStopped_eq]
  simp [setpointsReturned, PathQueue.returned]

theorem seq_enterStopped (s : State) : (enterStopped s).seq = s.seq.stopAwaiting := by
  rw [enterStopped_eq]
  simp [setpointsReturned]

theorem exists_credit_enterStopped {c : CarverJob} (hc : s.carverJob = some c) (hmute : s.bus.mute = false) :
    ∃ g ∈ (enterStopped s).bus.places, g.kind = .credit := by
  rw [enterStopped_eq]
  refine exists_credit_offerCredit (c := c) ?_ ?_ ?_
  · simpa [State.carverJob] using hc
  · simpa [setpointsReturned] using hmute
  · simp [job_setStation]

theorem stopAwaiting_eq (q : Sequencer) :
    q.stopAwaiting = { q with phase := if q.phase = .awaiting then .none else q.phase } := by
  unfold Sequencer.stopAwaiting
  split
  case h_1 h => rw [if_pos h]
  case h_2 h => rw [if_neg h]

theorem unarrivedMoves_congr {t : State} (hout : t.motion.outstanding = s.motion.outstanding)
    (hwaiting : t.motion.waiting = s.motion.waiting) (hguard : t.guard = s.guard) :
    t.unarrivedMoves = s.unarrivedMoves := by
  rw [State.unarrivedMoves, State.unarrivedMoves, hout, hwaiting, hguard]

/-! ## The closing lift of a station that keeps its state (R173) -/

theorem closingAmong_of_none {l : List Outstanding} (h : ∀ o ∈ l, ∀ c, o.sp.origin ≠ .closingLift c) :
    closingAmong l = none := by
  induction l with
  | nil => rfl
  | cons o l ih =>
    have ho := h o List.mem_cons_self
    rw [closingAmong, ih fun x hx => h x (List.mem_cons_of_mem o hx)]
    split
    case h_1 c hc => exact absurd hc (ho c)
    case h_2 => rfl

theorem closingAmong_of_first {before after : List Outstanding} {o : Outstanding} {c : ClosingLift}
    (ho : o.sp.origin = .closingLift c) (h : ∀ x ∈ before, ∀ d, x.sp.origin ≠ .closingLift d) :
    closingAmong (before ++ o :: after) = some c := by
  induction before with
  | nil => simp [closingAmong, ho]
  | cons x before ih =>
    have hx := h x List.mem_cons_self
    rw [List.cons_append, closingAmong, ih fun y hy => h y (List.mem_cons_of_mem x hy)]
    split
    case h_1 d hd => exact absurd hd (hx d)
    case h_2 => rfl

/-- The station that keeps its state with its setpoints taken away, before the check is dropped. -/
def setpointsGone (s : State) : State :=
  s.setMotion { s.motion with closing := closingAgain s.motion, outstanding := [], held := [], waiting := [] }

theorem stopInPlace_eq (s : State) : stopInPlace s = abandonCheck (setpointsGone s) := rfl

/-- The check dropped while the drives halt leaves the claim. -/
theorem guard_checkDropped {v : State} (hv : v.guard = s.guard) (hhalt : v.motion.halt ≠ .moving) :
    (abandonCheck v).guard.atCheck = none ∧ (abandonCheck v).guard.passed = none ∧
      (abandonCheck v).guard.claim = s.guard.claim ∧
      (s.guard.atCheck ≠ none ∨ s.guard.passed ≠ none →
        (abandonCheck v).guard.phase = .none ∧ (abandonCheck v).guard.announce = none) ∧
      (s.guard.atCheck = none → s.guard.passed = none → (abandonCheck v).guard = s.guard) := by
  obtain ⟨hcheck, hpassed, hbusy, hfree, hclaim⟩ := guard_abandonCheck v
  rw [hv] at hbusy hfree hclaim
  exact ⟨hcheck, hpassed, hclaim hhalt, hbusy, fun h h' => by rw [hfree h h', hv]⟩

/-- Settles O57. -/
theorem stopSensedStopsTheStation : Obligations.StopSensedStopsTheStation := by
  intro s hheld hhigh
  have hexec := exec_stopSensed_eq hheld hhigh
  have hlow := senseLow_unchangedBut s
  have hjob : (senseLow s).job = s.job := hlow .job (by decide)
  have hmotion : (senseLow s).motion = s.motion := hlow .motion (by decide)
  have hguard : (senseLow s).guard = s.guard := hlow .guard (by decide)
  have hpq : (senseLow s).pq = s.pq := hlow .pq (by decide)
  have hseq : (senseLow s).seq = s.seq := hlow .seq (by decide)
  have hhas : (senseLow s).cond.has .bedStop = true := by simp [senseLow, has_raise]
  have hsensed : (senseLow s).bus.sensedLow = true := by simp [senseLow]
  have hinputs := inputs_senseLow s
  by_cases hstopped : s.job.state = .stopped
  · have hstay : stopPort (senseLow s) = senseLow s := by simp [stopPort, hstopped]
    rw [hstay] at hexec
    refine ⟨_, hexec, hsensed, hhas, by rw [hpq], hinputs, fun _ => hlow, fun h => absurd hstopped h, fun h => ?_,
      fun h => ?_, commandsWriteOnlyTheirBlocks _ _ _ hexec⟩
    · simp [hstopped] at h
    · simp [hstopped] at h
  let u := stopDrives (senseLow s)
  have hu := motion_stopDrives (senseLow s)
  have hjob' : u.job = s.job := by simp [u]
  have huguard : u.guard = s.guard := by simp [u]
  have huhalt : u.motion.halt ≠ .moving := by simp [u, hu, stop_ne_moving]
  have hmoves : u.unarrivedMoves = s.unarrivedMoves :=
    unarrivedMoves_congr (by simp [u, hu]) (by simp [u, hu]) huguard
  by_cases hstarted : s.job.state = .armed ∨ s.job.state = .running
  · rw [stopPort_of_started (by rwa [hjob])] at hexec
    obtain ⟨hout, hclosing, hheldMoves, hwaiting, hspindle, hhalt, hlift⟩ := motion_enterStopped u
    obtain ⟨hissued, hposted, hfree, hreleased⟩ := pq_enterStopped u
    have hupq : u.pq = s.pq := by simp [u]
    obtain ⟨hcheck, hpassed, hclaim, hbusy, hidle⟩ :=
      guard_checkDropped (s := s) (v := setpointsReturned u) (by simp [setpointsReturned, huguard])
        (by simpa [setpointsReturned] using huhalt)
    rw [← guard_enterStopped] at hcheck hpassed hclaim hbusy hidle
    refine ⟨_, hexec, by simp, by simpa using hhas, by rw [hreleased, hupq], by simp [hinputs],
      fun h => absurd h hstopped, fun _ => ?_, fun _ => ?_, fun h => ?_, commandsWriteOnlyTheirBlocks _ _ _ hexec⟩
    · refine ⟨by rw [hspindle, hu], hout, by rwa [hhalt], by rw [hlift, hu], hwaiting, hcheck, hpassed, hclaim, ?_, hbusy,
        hidle⟩
      exact stopCommand_of_halting (by rwa [hhalt])
    · refine ⟨by rw [job_enterStopped, hjob'], hissued, by rw [hposted, hupq], by rw [hfree, hupq], by rw [hheldMoves, hmoves],
        hclosing, fun c hc hmute => ?_, ?_⟩
      · exact exists_credit_enterStopped (c := c) (by simpa [State.carverJob, hjob'] using hc)
          (by simpa [u, senseLow] using hmute)
      · rw [seq_enterStopped, stopAwaiting_eq]
        simp
    · obtain h' | h' := hstarted <;> simp [h'] at h
  · have hkept : s.job.state ∉ [.armed, .running, .stopped] := by
      simp only [List.mem_cons, List.not_mem_nil, or_false]
      tauto
    rw [stopPort_of_kept (by rwa [hjob]), stopInPlace_eq] at hexec
    obtain ⟨hcheck, hpassed, hclaim, hbusy, hidle⟩ :=
      guard_checkDropped (s := s) (v := setpointsGone u) (by simp [setpointsGone, huguard])
        (by simpa [setpointsGone] using huhalt)
    have hagain : (abandonCheck (setpointsGone u)).motion.closing =
        s.motion.closing.or (closingAmong s.motion.outstanding) := by
      simp [setpointsGone, closingAgain, u, hu]
    refine ⟨_, hexec, by simp [setpointsGone], by simpa [setpointsGone, u] using hhas,
      by simp [setpointsGone], by simp [setpointsGone, hinputs], fun h => absurd h hstopped, fun _ => ?_,
      fun h => absurd h hstarted, fun _ => ?_, commandsWriteOnlyTheirBlocks _ _ _ hexec⟩
    · refine ⟨by simp [setpointsGone, hu], by simp [setpointsGone], by simpa [setpointsGone] using huhalt,
        by simp [setpointsGone, hu], by simp [setpointsGone], hcheck, hpassed, hclaim, ?_, hbusy, hidle⟩
      exact stopCommand_of_halting (by simpa [setpointsGone] using huhalt)
    · refine ⟨by simp [setpointsGone], by simp [setpointsGone], by simp [setpointsGone],
        by simp [setpointsGone], fun h => ?_, fun h hno => ?_, fun h before o after c hout ho hfirst => ?_⟩
      · obtain ⟨c, hc⟩ := Option.isSome_iff_exists.1 h
        rw [hagain, hc, Option.some_or]
      · rw [hagain, h, Option.none_or, closingAmong_of_none hno]
      · rw [hagain, h, Option.none_or, hout, closingAmong_of_first ho hfirst]

end Sys2Proof.Machine

/-! SUPPORT. Arrivals (R61 to R63, R112, R166 to R168, R184) and the drives' halted and released reports (R168, R173). -/

namespace Sys2Proof.Machine

open Sys2Proof

variable {s : State}

/-! ## What waits for the port -/

theorem pumpPort_of_no_lifts (hport : s.motion.portLift = none) (hclosing : s.motion.closing = none) :
    pumpPort s = pumpMoves s := by
  rw [pumpPort, pumpLifts_of_none hport hclosing]

theorem pumpMoves_of_no_move (h : s.motion.waiting = []) : pumpMoves s = s := by
  simp only [pumpMoves, h]

theorem pumpMoves_of_busy (h : s.guard.isFree = false) : pumpMoves s = s := by
  unfold pumpMoves
  split
  · rw [h, Bool.false_and, if_neg Bool.false_ne_true]
  · rfl

theorem pumpMoves_unchangedBut (s : State) : UnchangedBut [.bus, .motion, .guard] s (pumpMoves s) := by
  intro b hb
  cases b <;> simp [Block.same] at hb ⊢

theorem shrinkClaim_unchangedBut (s : State) : UnchangedBut [.bus, .guard] s (shrinkClaim s) := by
  intro b hb
  cases b <;> simp [Block.same] at hb ⊢

theorem places_subset_runCheck (s : State) : s.bus.places ⊆ (runCheck s).bus.places := by
  cases h : s.guard.atCheck with
  | none =>
    simp only [runCheck, h]
    exact List.Subset.refl _
  | some sp =>
    obtain hrun | ⟨side, n, hrun⟩ := runCheck_cases h
    · rw [hrun]
      exact List.Subset.refl _
    · rw [hrun]
      exact places_subset_checkBeyond side n s

theorem places_subset_recomputeClaim (s : State) : s.bus.places ⊆ (recomputeClaim s).bus.places := by
  unfold recomputeClaim
  split
  · exact places_subset_setClaim _ s
  · exact List.Subset.refl _

theorem places_subset_shrinkClaim (s : State) : s.bus.places ⊆ (shrinkClaim s).bus.places := by
  refine List.Subset.trans (places_subset_recomputeClaim s) ?_
  unfold shrinkClaim recheckIfMoved recheck
  split
  · exact List.Subset.refl _
  · split
    · exact places_subset_runCheck _
    · exact List.Subset.refl _

theorem places_subset_pumpMoves (s : State) : s.bus.places ⊆ (pumpMoves s).bus.places := by
  unfold pumpMoves
  split
  · split
    · exact fun _ hg => places_subset_beginCheck _ _ hg
    · exact List.Subset.refl _
  · exact List.Subset.refl _

/-- With nothing on its way and nothing at the check the claim becomes the occupied interval (R184). -/
theorem claim_shrinkClaim_of_idle (hmoving : s.motion.halt = .moving) (hout : s.motion.outstanding = [])
    (hcheck : s.guard.atCheck = none) (hpassed : s.guard.passed = none) : (shrinkClaim s).guard.claim = s.occupied := by
  have hneeded := neededInterval_of_idle hout hpassed
  by_cases hkeep : s.guard.phase ≠ .wait ∨ s.neededInterval = s.guard.claim
  · rw [guard_shrinkClaim_of_no_wait hmoving hkeep, hneeded]
  · rw [not_or, not_not] at hkeep
    have hrun : runCheck (setClaim s.neededInterval s) = setClaim s.neededInterval s := by
      have hnone : (setClaim s.neededInterval s).guard.atCheck = none := by rw [guard_setClaim]; exact hcheck
      simp only [runCheck, hnone]
    rw [shrinkClaim_of_wait hmoving hkeep.1 hkeep.2, hrun, guard_setClaim, hneeded]

/-- A setpoint at the check is at the check still, or has passed, after the claim is recomputed. -/
theorem isFree_shrinkClaim_of_atCheck (h : s.guard.atCheck.isSome = true) : (shrinkClaim s).guard.isFree = false := by
  obtain ⟨sp, hsp⟩ := Option.isSome_iff_exists.1 h
  have hbusy (u : State) (hu : u.guard.atCheck = some sp ∨ u.guard.passed = some sp) : u.guard.isFree = false := by
    rw [← Bool.not_eq_true, isFree_iff]
    rintro ⟨hc, hp⟩
    obtain hu | hu := hu
    · simp [hc] at hu
    · simp [hp] at hu
  have hclaim : (recomputeClaim s).guard.atCheck = some sp := by rw [guard_recomputeClaim]; exact hsp
  refine hbusy _ ?_
  unfold shrinkClaim recheckIfMoved recheck
  split
  · exact .inl hclaim
  · split
    · have hrun := atCheck_or_passed_beginCheck sp (recomputeClaim s)
      have hsame : (recomputeClaim s).setGuard { (recomputeClaim s).guard with atCheck := some sp } = recomputeClaim s := by
        rw [← hclaim]
        rfl
      rwa [beginCheck, hsame] at hrun
    · exact .inl hclaim

/-! ## The oldest setpoint's arrival (R166, R184) -/

/-- The state in which the oldest outstanding setpoint has arrived and `more` are left (R166). -/
def setpointArrived (more : List Outstanding) (s : State) : State :=
  s.setMotion { s.motion with outstanding := more, refArrived := more.isEmpty }

theorem exec_arrived_of_oldest {o : Outstanding} {more : List Outstanding} (hout : s.motion.outstanding = o :: more)
    (probe : Probe) : exec (.arrived o.tag probe) s =
      .next (pumpPort (shrinkClaim (handArrival o probe (setpointArrived more s)))) := by
  have harm : exec (.arrived o.tag probe) s = .next (pumpPort (arriveTag o.tag probe s)) := rfl
  rw [harm, arriveTag, hout]
  exact congrArg (fun u => Host.Outcome.next (pumpPort u)) (if_pos rfl)

/-- The arrived setpoint closes the port: the drain's retract, or a closing lift (R168). -/
def Origin.closes : Origin → Bool
  | .resumeLift drain => drain
  | .closingLift _ => true
  | _ => false

/-- The arrived setpoint is the drain's retract (R52). -/
def Origin.drains : Origin → Bool
  | .resumeLift drain => drain
  | .closingLift c => c.drain
  | _ => false

/-- The origin is a lift of the port's own (R167, R168). -/
def Origin.isLift : Origin → Bool
  | .jobStartLift => true
  | .resumeLift _ => true
  | .closingLift _ => true
  | _ => false

theorem closes_iff (o : Origin) : o.closes = true ↔ o = .resumeLift true ∨ ∃ l, o = .closingLift l := by
  cases o <;> simp [Origin.closes]

theorem drains_iff (o : Origin) :
    o.drains = true ↔ o = .resumeLift true ∨ ∃ l, o = .closingLift l ∧ l.drain = true := by
  cases o <;> simp [Origin.drains]

theorem isLift_iff (o : Origin) : o.isLift = true ↔
    o = .jobStartLift ∨ (∃ drain, o = .resumeLift drain) ∨ ∃ l, o = .closingLift l := by
  cases o <;> simp [Origin.isLift]

theorem handArrival_of_lift {o : Outstanding} (h : o.sp.origin.isLift = true) (probe : Probe) (s : State) :
    handArrival o probe s = if o.sp.origin.drains then endDrain (spindleOff s)
      else if o.sp.origin.closes then spindleOff s else s := by
  unfold handArrival
  cases horigin : o.sp.origin with
  | entry => simp [horigin, Origin.isLift] at h
  | jobStartLift => rfl
  | resumeLift drain => cases drain <;> rfl
  | closingLift c => cases hd : c.drain <;> simp [closingDone, Origin.drains, Origin.closes, hd]
  | tracerMove m => simp [horigin, Origin.isLift] at h

theorem endDrain_of_drain (h : s.job.finishing = true) (hstate : s.job.state = .running) : endDrain s =
    offerCredit (setStation .done (s.setJob { s.job with finishing := false })) := by
  simp [endDrain, h, State.isRunning, hstate]

theorem endDrain_of_none (h : ¬ (s.job.finishing = true ∧ s.job.state = .running)) : endDrain s = s := by
  rw [endDrain, if_neg]
  simpa [State.isRunning] using h

theorem liftArrived_unchangedBut (o : Outstanding) (s : State) :
    UnchangedBut [.bus, .job, .pq, .motion] s (if o.sp.origin.drains then endDrain (spindleOff s)
      else if o.sp.origin.closes then spindleOff s else s) := by
  intro b hb
  (repeat' split) <;> cases b <;> simp [Block.same] at hb ⊢

theorem pumpPort_shrinkClaim_of_no_lifts (hport : s.motion.portLift = none) (hclosing : s.motion.closing = none) :
    pumpPort (shrinkClaim s) = pumpMoves (shrinkClaim s) :=
  pumpPort_of_no_lifts (by simpa using hport) (by simpa using hclosing)

/-- The claim recomputed at an arrival is the Guard's last word, unless a tracer's move waits for it. -/
theorem pumpMoves_shrinkClaim (h : s.guard.atCheck.isSome = true ∨ s.motion.waiting = []) :
    pumpMoves (shrinkClaim s) = shrinkClaim s := by
  obtain hcheck | hwaiting := h
  · exact pumpMoves_of_busy (isFree_shrinkClaim_of_atCheck hcheck)
  · exact pumpMoves_of_no_move (by simpa using hwaiting)

/-- A lift's arrival: the port before the claim is recomputed. -/
theorem motion_liftArrived (o : Outstanding) (s : State) (u : State)
    (hu : u = if o.sp.origin.drains then endDrain (spindleOff s) else if o.sp.origin.closes then spindleOff s else s) :
    u.motion.outstanding = s.motion.outstanding ∧ u.motion.refArrived = s.motion.refArrived ∧
      u.motion.portLift = s.motion.portLift ∧ u.motion.closing = s.motion.closing ∧
      u.motion.waiting = s.motion.waiting ∧ u.motion.halt = s.motion.halt := by
  subst hu
  (repeat' split) <;> simp

theorem drains_closes {o : Origin} (h : o.drains = true) : o.closes = true := by
  cases o <;> simp_all [Origin.drains, Origin.closes]

/-- Settles O43. -/
theorem liftsArrive : Obligations.LiftsArrive := by
  intro s o more hout hclosing hport probe
  dsimp only
  rw [← isLift_iff, ← closes_iff, ← drains_iff]
  intro hlift
  let a := setpointArrived more s
  have hexec := exec_arrived_of_oldest hout probe
  rw [handArrival_of_lift hlift] at hexec
  obtain ⟨u, hu⟩ : ∃ u, u = if o.sp.origin.drains then endDrain (spindleOff a)
    else if o.sp.origin.closes then spindleOff a else a := ⟨_, rfl⟩
  rw [← hu] at hexec
  obtain ⟨huout, huarrived, huport, huclosing, huwaiting, huhalt⟩ := motion_liftArrived o a u hu
  have hua : UnchangedBut [.bus, .job, .pq, .motion] s u := by
    rw [hu]
    refine UnchangedBut.trans (t := a) (fun b hb => ?_) (liftArrived_unchangedBut o a)
    cases b <;> simp [Block.same, a, setpointArrived] at hb ⊢
  have huguard : u.guard = s.guard := hua .guard (by decide)
  have huinputs : u.inputs = s.inputs := hua .inputs (by decide)
  have hurecord : u.job.record = s.job.record := by
    rw [hu]
    (repeat' split) <;> simp [a, setpointArrived]
  rw [pumpPort_shrinkClaim_of_no_lifts (huport.trans hport) (huclosing.trans hclosing)] at hexec
  have hframe : UnchangedBut [.bus, .job, .pq, .motion, .guard] s (pumpMoves (shrinkClaim u)) :=
    (hua.mono (by decide)).trans (((shrinkClaim_unchangedBut u).mono (by decide)).trans
      ((pumpMoves_unchangedBut _).mono (by decide)))
  have hjob : (pumpMoves (shrinkClaim u)).job = u.job := by simp
  have hpq : (pumpMoves (shrinkClaim u)).pq = u.pq := by simp
  have hspindle : (pumpMoves (shrinkClaim u)).motion.spindle = u.motion.spindle := by simp
  refine ⟨_, hexec, by simp [huout, a, setpointArrived], by simp [huarrived, a, setpointArrived], fun hcloses => ?_,
    fun hcloses => ?_, fun hdrains => ?_, fun hdrains => ?_, fun hmoving hpassed hwait => ?_, ?_, ?_, ?_, ?_, hframe⟩
  · rw [hspindle, hu]
    (repeat' split) <;> simp_all [spindleOff]
  · have hdrains : ¬ o.sp.origin.drains = true := fun h => hcloses (drains_closes h)
    rw [hspindle, hu, if_neg hdrains, if_neg hcloses]
    rfl
  · obtain ⟨hdrain, hfinishing, hstate⟩ := hdrains
    have hend : u = offerCredit (setStation .done ((spindleOff a).setJob { (spindleOff a).job with finishing := false })) := by
      rw [hu, if_pos hdrain, endDrain_of_drain (by simpa [a, setpointArrived] using hfinishing)
        (by simpa [a, setpointArrived] using hstate)]
    refine ⟨?_, fun c hc => ⟨?_, fun hmute => ?_⟩⟩
    · rw [hjob, hend]
      simp [job_setStation, a, setpointArrived]
    · have hc' : (setStation .done ((spindleOff a).setJob { (spindleOff a).job with finishing := false })).carverJob =
          some c := by simpa [State.carverJob, a, setpointArrived] using hc
      rw [hpq, hend, pq_offerCredit hc', if_neg]
      rw [inJob_iff]
      simp [job_setStation]
    · have hcredit : ∃ g ∈ u.bus.places, g.kind = .credit := by
        rw [hend]
        refine exists_credit_offerCredit (c := c) ?_ ?_ ?_
        · simpa [State.carverJob, a, setpointArrived] using hc
        · simpa [a, setpointArrived] using hmute
        · simp [job_setStation]
      obtain ⟨g, hg, hkind⟩ := hcredit
      exact ⟨g, places_subset_pumpMoves _ (places_subset_shrinkClaim _ hg), hkind⟩
  · have hkeep : u.job = s.job ∧ u.pq = s.pq := by
      rw [hu]
      split
      case isTrue hd =>
        rw [endDrain_of_none fun h => hdrains ⟨hd, by simpa [a, setpointArrived] using h.1,
          by simpa [a, setpointArrived] using h.2⟩]
        simp [a, setpointArrived]
      case isFalse => split <;> simp [a, setpointArrived]
    rw [hjob, hpq]
    exact hkeep
  · rw [pumpMoves_shrinkClaim (by rw [huguard, huwaiting]; exact hwait)]
    have huhalt' : u.motion.halt = .moving := by rw [huhalt]; exact hmoving
    have hupassed : u.guard.passed = none := by rw [huguard]; exact hpassed
    refine ⟨fun r hr => ?_, fun hnone hphase hlast => ?_⟩
    · have h := claimRecomputed_shrinkClaim (hurecord.trans hr) huhalt' hupassed
      rw [huinputs, huout, huguard] at h
      exact h
    · have hmore : u.motion.outstanding = [] := by rw [huout]; exact hlast
      rw [guard_shrinkClaim_of_no_wait huhalt' (.inl (by rwa [huguard])), neededInterval_of_idle hmore hupassed, huguard]
      have hwidths : u.job.halfLeft = s.job.halfLeft ∧ u.job.halfRight = s.job.halfRight := by
        rw [hu]
        (repeat' split) <;> simp [a, setpointArrived]
      simp [State.occupied, State.intervalAt, State.halfWidths, hurecord, hnone, huinputs, hwidths]
  all_goals
    rw [hpq, hu]
    (repeat' split) <;> simp [a, setpointArrived]

/-! ## A tracer's move arrives (R61 to R63, R65) -/

theorem handArrival_of_move {o : Outstanding} {m : Move} (h : o.sp.origin = .tracerMove m) (probe : Probe) (s : State) :
    handArrival o probe s = moveArrived m probe s := by
  simp only [handArrival, h]

theorem moveArrived_unchangedBut (m : Move) (probe : Probe) (s : State) :
    UnchangedBut [.bus, .gen, .cond] s (moveArrived m probe s) := by
  intro b hb
  cases b <;> simp [Block.same] at hb ⊢

section

variable {r : JobRecord} {w : TracerJob} {m : Move} {probe : Probe}

theorem moveArrived_of_awaited (hr : s.job.record = some r) (hw : r.work = .tracer w)
    (h : (m = .face ∧ s.gen.phase = .faceMove) ∨ (m = .sample ∧ s.gen.phase = .sampleMove)) :
    moveArrived m probe s = takeSample r w (some probe) s := by
  have hjob := tracerJob_of_record hr hw
  obtain ⟨rfl, hphase⟩ | ⟨rfl, hphase⟩ := h <;> simp [moveArrived, hr, hjob, hphase]

/-- The Generator when a sample's record has been built (R62, R63). -/
def Generator.sampled (g : Generator) (x : TraceRecord) : Generator :=
  { g with phase := .atSample, nextSeq := g.nextSeq + 1, due := g.due ++ [x] }

theorem gen_takeSample_of_surface (hin : r.inTravel (samplePoint w s.gen).u (samplePoint w s.gen).v = true)
    (h : probe.overtravel = false) : (takeSample r w (some probe) s).gen =
      s.gen.sampled ({ pass := s.gen.pass, kind := .surface, u := (samplePoint w s.gen).u, v := (samplePoint w s.gen).v
                       depth := probe.depth, angle := w.faceAngle s.gen.face : Built }.record s.gen.nextSeq) := by
  simp only [takeSample, hin, h, if_true]
  rfl

theorem gen_takeSample_of_lift (h : probe.overtravel = true ∨
      r.inTravel (samplePoint w s.gen).u (samplePoint w s.gen).v = false) : (takeSample r w (some probe) s).gen =
      s.gen.sampled ({ pass := s.gen.pass, kind := .lift, u := (samplePoint w s.gen).u, v := (samplePoint w s.gen).v
                       angle := w.liftAngle s.gen : Built }.record s.gen.nextSeq) := by
  simp only [takeSample]
  split
  case isTrue hin =>
    have hover : probe.overtravel = true := h.resolve_right (by simp [hin])
    simp only [hover, if_true, (raise_frame _ _).2.2.2.2.2.2.2.1]
    rfl
  case isFalse => rfl

theorem has_takeSample (h : probe.overtravel = true)
    (hin : r.inTravel (samplePoint w s.gen).u (samplePoint w s.gen).v = true) :
    (takeSample r w (some probe) s).cond.has .probeOvertravel = true := by
  simp [takeSample, hin, h, has_raise]

end

/-- Settles O42. -/
theorem tracerMovesArrive : Obligations.TracerMovesArrive := by
  intro s r hr w hw o more hout m horigin hclosing hport probe p cls hcurrent stepover hstep
  dsimp only
  let a := setpointArrived more s
  let u := moveArrived m probe a
  have hexec := exec_arrived_of_oldest hout probe
  have hua : UnchangedBut [.bus, .gen, .cond] a u := moveArrived_unchangedBut m probe a
  have hmotion : u.motion = a.motion := hua .motion (by decide)
  have huguard : u.guard = s.guard := hua .guard (by decide)
  rw [handArrival_of_move horigin, pumpPort_shrinkClaim_of_no_lifts (by rw [hmotion]; exact hport)
    (by rw [hmotion]; exact hclosing)] at hexec
  have hgen : (pumpMoves (shrinkClaim u)).gen = u.gen := by simp
  have hcond : (pumpMoves (shrinkClaim u)).cond = u.cond := by simp
  have hframe : UnchangedBut [.bus, .gen, .motion, .guard, .cond] s (pumpMoves (shrinkClaim u)) := by
    refine UnchangedBut.trans (t := a) (fun b hb => ?_) ((hua.mono (by decide)).trans
      (((shrinkClaim_unchangedBut u).mono (by decide)).trans ((pumpMoves_unchangedBut _).mono (by decide))))
    cases b <;> simp [Block.same, a, setpointArrived] at hb ⊢
  have hpoint : samplePoint w a.gen = ⟨w.u0 + s.gen.col * w.spacing, w.v0 + s.gen.row * stepover⟩ := by
    simp [samplePoint, a, setpointArrived, Generator.cls, hcurrent, TracerJob.rowSpacing, hstep]
  have htravel : r.inTravel (samplePoint w a.gen).u (samplePoint w a.gen).v = true ↔
      r.xMin ≤ w.u0 + s.gen.col * w.spacing ∧ w.u0 + s.gen.col * w.spacing ≤ r.xMax ∧
        r.yMin ≤ w.v0 + s.gen.row * stepover ∧ w.v0 + s.gen.row * stepover ≤ r.yMax := by
    simp [hpoint, JobRecord.inTravel]
  have hpass : a.gen.pass = p := by simp [a, setpointArrived, Generator.pass, hcurrent]
  have hface : w.faceAngle s.gen.face = (w.faces[s.gen.face]?).getD 0 := List.getD_eq_getElem?_getD
  refine ⟨_, hexec, by simp [setpointArrived], by simp [setpointArrived],
    by simp [setpointArrived], fun hmode hawaited hin hover => ?_, fun hmode hawaited hin hover => ?_,
    fun hmode hawaited hin => ?_, fun hm => ?_, fun hm => ?_, fun hmoving hlast hcheck hpassed hwaiting => ?_, hframe⟩
  · have hu : u = takeSample r w (some probe) a := moveArrived_of_awaited hr hw hawaited
    rw [hgen, hu, gen_takeSample_of_surface (htravel.2 hin) hover, hpoint, hpass]
    simp [Generator.sampled, Built.record, a, setpointArrived, hface]
  · have hu : u = takeSample r w (some probe) a := moveArrived_of_awaited hr hw hawaited
    rw [hgen, hcond, hu, gen_takeSample_of_lift (.inl hover), hpoint, hpass]
    refine ⟨?_, has_takeSample hover (htravel.2 hin)⟩
    simp [Generator.sampled, Built.record, TracerJob.liftAngle, hmode, a, setpointArrived, hface, saturate]
  · have hu : u = takeSample r w (some probe) a := moveArrived_of_awaited hr hw hawaited
    have hout' : r.inTravel (samplePoint w a.gen).u (samplePoint w a.gen).v = false := by
      rwa [← Bool.not_eq_true, htravel]
    rw [hgen, hu, gen_takeSample_of_lift (.inr hout'), hpoint, hpass]
    simp [Generator.sampled, Built.record, TracerJob.liftAngle, hmode, a, setpointArrived, hface, saturate]
  · rw [hgen]
    simp only [u, hm]
    rfl
  · rw [hgen]
    simp only [u, hm]
    rfl
  · have huout : u.motion.outstanding = [] := by rw [hmotion]; exact hlast
    rw [pumpMoves_shrinkClaim (.inr (by rw [hmotion]; exact hwaiting)),
      claim_shrinkClaim_of_idle (by rw [hmotion]; exact hmoving) huout (by rw [huguard]; exact hcheck)
        (by rw [huguard]; exact hpassed)]
    exact occupied_congr (hua .inputs (by decide)) (hua .job (by decide))

end Sys2Proof.Machine

/-! SUPPORT. The port's own lifts leave the record, the counts and the lists as they are (R167, R168), and the arrival of an
entry's setpoint (R112, R142, R143, R153 to R155). -/

namespace Sys2Proof.Machine

open Sys2Proof

variable {s : State}

/-! ## What a lift that goes on may write (R167, R168) -/

theorem checkAndIssue_unchangedBut {sp : Setpoint} (hfree : s.guard.isFree = true) (horigin : sp.origin ≠ .entry) :
    UnchangedBut [.bus, .motion, .guard] s (checkAndIssue sp s) := by
  obtain h | h := checkAndIssue_cases (sp := sp) ((isFree_iff _).1 hfree).2
  · rw [h]
    exact (beginCheck_unchangedBut sp s).mono (by decide)
  · rw [h, issue_of_no_entry horigin]
    intro b hb
    cases b <;> simp [Block.same] at hb ⊢

theorem closingDone_unchangedBut (c : ClosingLift) (s : State) :
    UnchangedBut [.bus, .job, .pq, .motion] s (closingDone c s) := by
  intro b hb
  cases b <;> simp [Block.same] at hb ⊢

theorem setMotion_unchangedBut (s : State) (m : Motion) : UnchangedBut [.motion] s (s.setMotion m) := by
  intro b hb
  cases b <;> simp [Block.same] at hb ⊢

/-- A closing lift that is pending waits, is found unneeded, or is handed to the Guard (R168). -/
theorem pumpClosing_cases (s : State) : pumpClosing s = s ∨
    (∃ c m, pumpClosing s = closingDone c (s.setMotion m)) ∨
    (s.guard.isFree = true ∧ ∃ sp m, sp.origin ≠ .entry ∧ pumpClosing s = checkAndIssue sp (s.setMotion m)) := by
  unfold pumpClosing
  split
  · exact .inl rfl
  case h_2 c _ =>
    split_ifs with hstands hgo
    · exact .inr (.inl ⟨c, _, rfl⟩)
    · simp only [Bool.and_eq_true] at hgo
      refine .inr (.inr ⟨hgo.2, _, _, ?_, rfl⟩)
      simp [State.liftHere]
    · exact .inl rfl

theorem pumpClosing_unchangedBut (s : State) :
    UnchangedBut [.bus, .job, .pq, .motion, .guard] s (pumpClosing s) := by
  obtain h | ⟨c, m, h⟩ | ⟨hfree, sp, m, horigin, h⟩ := pumpClosing_cases s
  · rw [h]
    exact UnchangedBut.refl _ s
  · rw [h]
    exact ((setMotion_unchangedBut s m).mono (by decide)).trans ((closingDone_unchangedBut c _).mono (by decide))
  · rw [h]
    exact ((setMotion_unchangedBut s m).mono (by decide)).trans
      ((checkAndIssue_unchangedBut (s := s.setMotion m) hfree horigin).mono (by decide))

theorem pumpPortLift_unchangedBut (s : State) : UnchangedBut [.bus, .motion, .guard] s (pumpPortLift s) := by
  unfold pumpPortLift
  split
  · exact UnchangedBut.refl _ s
  case h_2 l hl =>
    have horigin : l.origin ≠ .entry := by cases l <;> simp [PortLift.origin]
    split_ifs with hgo
    · simp only [Bool.and_eq_true] at hgo
      exact ((setMotion_unchangedBut s _).mono (by decide)).trans
        (checkAndIssue_unchangedBut (s := s.setMotion _) hgo.2 horigin)
    · exact UnchangedBut.refl _ s

theorem pumpLifts_unchangedBut (s : State) : UnchangedBut [.bus, .job, .pq, .motion, .guard] s (pumpLifts s) :=
  (pumpClosing_unchangedBut s).trans ((pumpPortLift_unchangedBut _).mono (by decide))

theorem pumpPort_unchangedBut (s : State) : UnchangedBut [.bus, .job, .pq, .motion, .guard] s (pumpPort s) :=
  (pumpLifts_unchangedBut s).trans ((pumpMoves_unchangedBut _).mono (by decide))

theorem issued_pumpClosing (s : State) : (pumpClosing s).pq.issued = s.pq.issued := by
  obtain h | ⟨c, m, h⟩ | ⟨hfree, sp, m, horigin, h⟩ := pumpClosing_cases s
  · rw [h]
  · rw [h]
    simp
  · have hpq := checkAndIssue_unchangedBut (s := s.setMotion m) hfree horigin .pq (by decide)
    rw [h]
    exact congrArg PathQueue.issued hpq

theorem issued_pumpPort (s : State) : (pumpPort s).pq.issued = s.pq.issued := by
  have hport : (pumpPortLift (pumpClosing s)).pq = (pumpClosing s).pq := pumpPortLift_unchangedBut _ .pq (by decide)
  simp [pumpPort, pumpLifts, hport, issued_pumpClosing]

theorem posted_pumpPort (s : State) : (pumpPort s).pq.posted = s.pq.posted := by
  obtain ⟨hposted, -, -⟩ := leavesQueues_pumpLifts s
  simp [pumpPort, hposted]

theorem places_subset_pumpPort (s : State) : s.bus.places ⊆ (pumpPort s).bus.places := by
  obtain ⟨-, -, hplaces⟩ := leavesQueues_pumpLifts s
  exact List.Subset.trans hplaces (places_subset_pumpMoves _)

/-! ## The cell of a cut that has arrived (R143) -/

/-- A cell that is not blank reads as it was written, whatever the list. -/
theorem lookCell_putCell_of_ne_blank {c : Cell} (hc : c ≠ Cell.blank) (l : List (Nat × Cell)) (k : Nat) :
    lookCell (putCell l k c) k = c := by
  induction l with
  | nil => simp [putCell, lookCell, hc]
  | cons q rest ih =>
    obtain ⟨j, d⟩ := q
    unfold putCell
    split
    · simp [lookCell]
    · split
      · simp [lookCell]
      case isFalse hne => simp [lookCell, Ne.symm hne, ih]

theorem arrive_eq_ofMinimum (c : Cell) (d : Int) : c.arrive d = { c with
    minimum := some (match c.minimum with
      | some m => min m d
      | none => d)
    touched := true } := by
  cases h : c.minimum <;> simp [Cell.arrive, h]

theorem arrive_ne_blank (c : Cell) (d : Int) : c.arrive d ≠ Cell.blank := fun h => by
  simpa [Cell.arrive, Cell.blank] using congrArg Cell.touched h

section

variable {m : CutMap} {sp : Setpoint}

theorem arrive_of_tracked {k : Nat} (hcut : sp.cutting = true) (hcell : sp.cell = some k) :
    m.arrive sp = m.write k ((m.read k).arrive sp.depth) := by
  simp [CutMap.arrive, hcut, hcell]

theorem arrive_of_untracked (h : sp.cutting = false ∨ sp.cell = none) : m.arrive sp = m := by
  obtain h | h := h <;> simp [CutMap.arrive, h]

theorem arrive_eq (m : CutMap) (sp : Setpoint) : m.arrive sp = { m with cells := (m.arrive sp).cells } := by
  unfold CutMap.arrive
  (repeat' split) <;> rfl

end

/-! ## The completion of an issued entry (R112, R142, R153, R155) -/

/-- A sweep is awaited and nothing is issued any more (R155). -/
def SweepStarts (q : Sequencer) (issued : List Issued) : Prop := q.phase = .awaiting ∧ issued = []

theorem tally_eq (q : Sequencer) (e : Entry) (sp : Setpoint) : q.tally e sp = { q with
    running :=
      if q.openPass.isSome = true ∧ q.resting = false then
        (if sp.cutting = true then
          (if sp.air then { q.running with air := min 16777215 (q.running.air + 1) }
          else { q.running with cut := min 16777215 (q.running.cut + 1) })
        else if e.kind = .gapLift ∧ q.openPass = some e.pass then
          { q.running with gap := min 65535 (q.running.gap + e.lost), broken := true }
        else q.running)
      else q.running } := by
  unfold Sequencer.tally
  by_cases hopen : q.openPass.isSome = true ∧ q.resting = false
  · rw [if_pos hopen, if_pos (by simpa using hopen)]
    by_cases hcut : sp.cutting = true
    · rw [if_pos hcut, if_pos hcut]
      rfl
    · rw [if_neg hcut, if_neg hcut]
      split <;> rfl
  · rw [if_neg hopen, if_neg (by simpa using hopen)]

/-- The issued entry completed and the tallies and the map told of it, before the sweep is looked at. -/
def entryCompleted (i : Issued) (rest : List Issued) (s : State) : State :=
  ((s.setPq { s.pq with issued := rest, free := s.pq.free + 1, released := i.entry.release }).setSeq
    (s.seq.tally i.entry i.sp)).setMap (s.map.arrive i.sp)

section

variable {i : Issued} {rest : List Issued}

theorem completeIssued_eq (i : Issued) (rest : List Issued) (s : State) :
    completeIssued i rest s = testDrain (offerOnGrowth (sweepIfAwaited (entryCompleted i rest s))) := rfl

theorem pq_completeIssued (i : Issued) (rest : List Issued) (s : State) :
    (completeIssued i rest s).pq.issued = rest ∧ (completeIssued i rest s).pq.free = s.pq.free + 1 ∧
      (completeIssued i rest s).pq.released = i.entry.release := by
  simp [completeIssued_eq, entryCompleted]

theorem sweepIfAwaited_of_starts (h : SweepStarts s.seq s.pq.issued) : sweepIfAwaited s = startSweep s := if_pos h

theorem sweepIfAwaited_of_not_starts (h : ¬ SweepStarts s.seq s.pq.issued) : sweepIfAwaited s = s := if_neg h

theorem starts_entryCompleted (i : Issued) (rest : List Issued) (s : State) :
    SweepStarts (entryCompleted i rest s).seq (entryCompleted i rest s).pq.issued ↔ SweepStarts s.seq rest := by
  simp [SweepStarts, entryCompleted, tally_eq]

theorem completeIssued_of_starts (h : SweepStarts s.seq rest) :
    (completeIssued i rest s).seq = { s.seq.tally i.entry i.sp with phase := .sweeping } ∧
      (completeIssued i rest s).map = (s.map.arrive i.sp).startSweep := by
  rw [completeIssued_eq, sweepIfAwaited_of_starts ((starts_entryCompleted i rest s).2 h)]
  simp [startSweep, entryCompleted]

theorem completeIssued_of_not_starts (h : ¬ SweepStarts s.seq rest) :
    (completeIssued i rest s).seq = s.seq.tally i.entry i.sp ∧
      (completeIssued i rest s).map = s.map.arrive i.sp := by
  rw [completeIssued_eq, sweepIfAwaited_of_not_starts (mt (starts_entryCompleted i rest s).1 h)]
  simp [entryCompleted]

theorem cells_completeIssued (i : Issued) (rest : List Issued) (s : State) :
    (completeIssued i rest s).map.cells = (s.map.arrive i.sp).cells := by
  by_cases h : SweepStarts s.seq rest
  · rw [(completeIssued_of_starts h).2]
    rfl
  · rw [(completeIssued_of_not_starts h).2]

theorem motion_completeIssued (h : s.job.finishing = false) : (completeIssued i rest s).motion = s.motion := by
  rw [completeIssued_eq, testDrain_of_not_finishing (by simpa [entryCompleted] using h)]
  simp [entryCompleted]

theorem completeIssued_unchangedBut (i : Issued) (rest : List Issued) (s : State) :
    UnchangedBut [.bus, .pq, .map, .seq, .motion] s (completeIssued i rest s) := by
  intro b hb
  cases b <;> simp [Block.same] at hb ⊢

end

/-! ## An arrival that names an issued entry (R112, R114) -/

section

variable {o : Outstanding} {i : Issued} {behind : List Issued}

theorem handArrival_of_emptied (horigin : o.sp.origin = .entry) (hissued : s.pq.issued = i :: behind) (htag : i.tag = o.tag)
    (hemptied : i.emptied = true) (probe : Probe) :
    handArrival o probe s = s.setPq { s.pq with issued := behind, free := s.pq.free + 1 } := by
  simp [handArrival, horigin, arriveEntry, hissued, htag, hemptied]

theorem handArrival_of_kept (horigin : o.sp.origin = .entry) (hissued : s.pq.issued = i :: behind) (htag : i.tag = o.tag)
    (hkept : i.emptied = false) (probe : Probe) : handArrival o probe s = completeIssued i behind s := by
  simp [handArrival, horigin, arriveEntry, hissued, htag, hkept]

end

theorem setpointArrived_unchangedBut (more : List Outstanding) (s : State) :
    UnchangedBut [.motion] s (setpointArrived more s) := setMotion_unchangedBut s _

theorem setPq_unchangedBut (s : State) (q : PathQueue) : UnchangedBut [.pq] s (s.setPq q) := by
  intro b hb
  cases b <;> simp [Block.same] at hb ⊢

theorem arriveTag_of_unknown {tag : Byte} (h : ∀ o ∈ s.motion.outstanding, o.tag ≠ tag) (probe : Probe) :
    arriveTag tag probe s = s := by
  unfold arriveTag
  split
  case h_1 o rest hout =>
    rw [if_neg (h o (hout ▸ List.mem_cons_self))]
    split
    case h_1 n more => exact if_neg (h n (hout ▸ List.mem_cons_of_mem _ List.mem_cons_self))
    case h_2 => rfl
  case h_2 => rfl

theorem arriveTag_of_newer {o n : Outstanding} {more : List Outstanding} (hout : s.motion.outstanding = o :: n :: more)
    (htag : n.tag ≠ o.tag) (probe : Probe) :
    arriveTag n.tag probe s = arriveOne n more probe (arriveOne o (n :: more) probe s) := by
  simp only [arriveTag, hout, if_neg htag.symm, if_true]

theorem arriveOne_eq (o : Outstanding) (rest : List Outstanding) (probe : Probe) (s : State) :
    arriveOne o rest probe s = shrinkClaim (handArrival o probe (setpointArrived rest s)) := rfl

theorem pumpPort_of_idle (hport : s.motion.portLift = none) (hclosing : s.motion.closing = none)
    (hwaiting : s.motion.waiting = []) : pumpPort s = s := by
  rw [pumpPort_of_no_lifts hport hclosing, pumpMoves_of_no_move hwaiting]

theorem pumpPort_shrinkClaim_of_idle (hport : s.motion.portLift = none) (hclosing : s.motion.closing = none)
    (hwaiting : s.motion.waiting = []) : pumpPort (shrinkClaim s) = shrinkClaim s :=
  pumpPort_of_idle (by simpa using hport) (by simpa using hclosing) (by simpa using hwaiting)

/-- Settles O49. -/
theorem arrivalCompletesTheEntry : Obligations.ArrivalCompletesTheEntry := by
  intro s probe
  dsimp only
  refine ⟨fun tag htag hclosing hport hwaiting => ?_, fun o more hout horigin i behind hissued htag hsp => ⟨?_, ?_, ?_⟩⟩
  · have harm : exec (.arrived tag probe) s = .next (pumpPort (arriveTag tag probe s)) := rfl
    rw [harm, arriveTag_of_unknown htag, pumpPort_of_idle hport hclosing hwaiting]
  · intro hemptied
    have hexec := exec_arrived_of_oldest hout probe
    rw [handArrival_of_emptied horigin (s := setpointArrived more s) hissued htag hemptied] at hexec
    refine ⟨_, hexec, ?_, by simp [setpointArrived], by simp [setpointArrived], ?_, by simp [setpointArrived], ?_,
      fun hfree => ?_, ?_⟩
    · simp [issued_pumpPort]
    · simp [posted_pumpPort, setpointArrived]
    · rw [pumpPort_unchangedBut _ .map (by decide)]
      simp [setpointArrived]
    · obtain ⟨hpassed, hcheck, hclosing, hport, hfinishing, hwaiting⟩ := hfree
      rw [pumpPort_of_idle (by simpa [setpointArrived] using hport) (by simpa [setpointArrived] using hclosing)
        (by simpa [setpointArrived] using hwaiting)]
      simp [setpointArrived]
    · exact ((setpointArrived_unchangedBut more s).mono (by decide)).trans (((setPq_unchangedBut _ _).mono (by decide)).trans
        (((shrinkClaim_unchangedBut _).mono (by decide)).trans (pumpPort_unchangedBut _)))
  · intro hkept
    have hexec := exec_arrived_of_oldest hout probe
    let a := setpointArrived more s
    rw [handArrival_of_kept horigin (s := a) hissued htag hkept] at hexec
    obtain ⟨huissued, hufree, hureleased⟩ := pq_completeIssued i behind a
    have hseq : (pumpPort (shrinkClaim (completeIssued i behind a))).seq = (completeIssued i behind a).seq := by simp
    have hmap : (pumpPort (shrinkClaim (completeIssued i behind a))).map = (completeIssued i behind a).map := by
      rw [pumpPort_unchangedBut _ .map (by decide)]
      simp
    have hcells : (completeIssued i behind a).map.cells = (s.map.arrive o.sp).cells := by rw [cells_completeIssued, hsp]; rfl
    refine ⟨_, hexec, ?_, by simp [hufree]; rfl, by simp [hureleased], ?_, ?_, fun hfree => ?_, ?_, fun hphase hlast => ?_,
      fun hmore => ?_, fun hcut m hm => ?_, fun hno => ?_, ?_⟩
    · simp [issued_pumpPort, huissued]
    · simp [posted_pumpPort, a, setpointArrived]
    · simp [a, setpointArrived]
    · obtain ⟨hpassed, hcheck, hclosing, hport, hfinishing, hwaiting⟩ := hfree
      have humotion : (completeIssued i behind a).motion = a.motion := motion_completeIssued hfinishing
      rw [pumpPort_shrinkClaim_of_idle (by rw [humotion]; exact hport) (by rw [humotion]; exact hclosing)
        (by rw [humotion]; exact hwaiting)]
      have hframe := completeIssued_unchangedBut i behind a
      refine ⟨by simp [a, setpointArrived], fun hmoving hlast => ?_⟩
      rw [claim_shrinkClaim_of_idle (by rw [humotion]; exact hmoving) (by rw [humotion]; exact hlast)
        (by rw [hframe .guard (by decide)]; exact hcheck) (by rw [hframe .guard (by decide)]; exact hpassed)]
      exact occupied_congr (hframe .inputs (by decide)) (hframe .job (by decide))
    · rw [hseq, ← hsp]
      by_cases hstarts : SweepStarts s.seq behind
      · rw [(completeIssued_of_starts (s := a) hstarts).1, if_pos (show s.seq.phase = .awaiting ∧ behind = [] from hstarts), tally_eq]
        rfl
      · rw [(completeIssued_of_not_starts (s := a) hstarts).1, if_neg (show ¬ (s.seq.phase = .awaiting ∧ behind = []) from hstarts), tally_eq]
        rfl
    · rw [hmap, (completeIssued_of_starts (s := a) ⟨hphase, hlast⟩).2]
      exact ⟨rfl, rfl, rfl⟩
    · have hstarts : ¬ SweepStarts a.seq behind := fun h => hmore.elim (· h.1) (· h.2)
      rw [hmap, (completeIssued_of_not_starts (s := a) hstarts).2]
      exact arrive_eq _ _
    · have hread (n : Nat) : (pumpPort (shrinkClaim (completeIssued i behind a))).map.read n = (s.map.arrive o.sp).read n := by
        rw [hmap, CutMap.read, hcells]
        rfl
      simp only [hread, arrive_of_tracked hcut hm]
      exact ⟨(lookCell_putCell_of_ne_blank (arrive_ne_blank _ _) _ _).trans (arrive_eq_ofMinimum _ _), fun n hn => CutMap.read_write_ne hn _⟩
    · rw [hmap, hcells, arrive_of_untracked hno]
    · exact ((setpointArrived_unchangedBut more s).mono (by decide)).trans
        (((completeIssued_unchangedBut i behind a).mono (by decide)).trans
          (((shrinkClaim_unchangedBut _).mono (by decide)).trans ((pumpPort_unchangedBut _).mono (by decide))))
  · intro o₂ hmore htags horigin₂ i₂ hbehind htag₂ hfree hkept hkept₂
    obtain ⟨hpassed, hcheck, hclosing, hport, hfinishing, hwaiting⟩ := hfree
    subst hmore hbehind
    have harm : exec (.arrived o₂.tag probe) s = .next (pumpPort (arriveTag o₂.tag probe s)) := rfl
    let a := setpointArrived [o₂] s
    let u := completeIssued i [i₂] a
    let b := setpointArrived [] (shrinkClaim u)
    let v := completeIssued i₂ [] b
    obtain ⟨huissued, hufree, hureleased⟩ := pq_completeIssued i [i₂] a
    obtain ⟨hvissued, hvfree, hvreleased⟩ := pq_completeIssued i₂ [] b
    have hbpq : b.pq = u.pq := by simp [b, setpointArrived]
    have hvmotion : v.motion = b.motion := motion_completeIssued (by simpa [b, u, a, setpointArrived] using hfinishing)
    have humotion : u.motion = a.motion := motion_completeIssued hfinishing
    have hmotion : v.motion = { s.motion with outstanding := [], refArrived := true } := by
      rw [hvmotion]
      simp [b, humotion, a, setpointArrived]
    have hshrunk : (shrinkClaim v).motion = v.motion := by simp
    have hpq : (shrinkClaim v).pq = v.pq := shrinkClaim_unchangedBut v .pq (by decide)
    rw [arriveTag_of_newer hout htags, arriveOne_eq, arriveOne_eq, handArrival_of_kept horigin (s := a) hissued htag hkept,
      handArrival_of_kept horigin₂ (s := b) (by rw [hbpq, huissued]) htag₂ hkept₂,
      pumpPort_shrinkClaim_of_idle (s := v) (by rw [hmotion]; exact hport) (by rw [hmotion]; exact hclosing)
        (by rw [hmotion]; exact hwaiting)] at harm
    refine ⟨_, harm, by rw [hshrunk, hmotion], (congrArg PathQueue.issued hpq).trans hvissued, ?_,
      (congrArg PathQueue.released hpq).trans hvreleased, ?_, ?_⟩
    · rw [hpq, hvfree, hbpq, hufree]
      rfl
    · simp [v, hbpq, u, a, setpointArrived]
    · exact ((setpointArrived_unchangedBut [o₂] s).mono (by decide)).trans
        (((completeIssued_unchangedBut i [i₂] a).mono (by decide)).trans
          (((shrinkClaim_unchangedBut u).mono (by decide)).trans (((setpointArrived_unchangedBut [] _).mono (by decide)).trans
            (((completeIssued_unchangedBut i₂ [] b).mono (by decide)).trans
              ((shrinkClaim_unchangedBut v).mono (by decide))))))

end Sys2Proof.Machine

/-! SUPPORT. The halted and the released report (R168, R173), and the issue of the passed setpoint (R133, R144, R165). -/

namespace Sys2Proof.Machine

open Sys2Proof

variable {s : State}

/-! ## A pending closing lift that may go (R168) -/

/-- With nothing at the check and nothing on its way the claim is all that its recomputation changes. -/
theorem guard_shrinkClaim_of_idle (hmoving : s.motion.halt = .moving) (hout : s.motion.outstanding = [])
    (hcheck : s.guard.atCheck = none) (hpassed : s.guard.passed = none) :
    (shrinkClaim s).guard = { s.guard with claim := s.occupied } := by
  have hneeded := neededInterval_of_idle hout hpassed
  by_cases hkeep : s.guard.phase ≠ .wait ∨ s.neededInterval = s.guard.claim
  · rw [guard_shrinkClaim_of_no_wait hmoving hkeep, hneeded]
  · rw [not_or, not_not] at hkeep
    have hrun : runCheck (setClaim s.neededInterval s) = setClaim s.neededInterval s := by
      have hnone : (setClaim s.neededInterval s).guard.atCheck = none := by rw [guard_setClaim]; exact hcheck
      simp only [runCheck, hnone]
    rw [shrinkClaim_of_wait hmoving hkeep.1 hkeep.2, hrun, guard_setClaim, hneeded]

/-- A closing lift is pending and nothing keeps it back (R165, R168). -/
structure ClosingLiftOpen (c : ClosingLift) (s : State) : Prop where
  closing : s.motion.closing = some c
  portLift : s.motion.portLift = none
  outstanding : s.motion.outstanding = []
  halt : s.motion.halt = .moving
  sensedLow : s.bus.sensedLow = false
  state : s.job.state ≠ .armed
  free : s.guard.isFree = true
  claim : liesWithin s.occupied s.guard.claim

section

variable {c : ClosingLift}

theorem ClosingLiftOpen.issued (h : ClosingLiftOpen c s) (hgoing : s.motion.refArrived = false) :
    (pumpPort s).motion.closing = none ∧ (pumpPort s).job = s.job ∧ (pumpPort s).motion.outstanding =
      [⟨s.motion.nextTag, s.liftHere c.level c.feed (.closingLift c) s.refTraced, c.rate⟩] := by
  have hnot : s.standsAt c.level = false := by
    rw [← Bool.not_eq_true, standsAt_iff]
    rintro ⟨-, harrived, -⟩
    simp [hgoing] at harrived
  have hopen : s.canIssue false = true := (canIssue_lift_iff h.state h.outstanding).2 ⟨h.halt, h.sensedLow⟩
  let u := s.setMotion { s.motion with closing := none }
  have hpump : pumpLifts s = checkAndIssue (s.liftHere c.level c.feed (.closingLift c) s.refTraced) u := by
    rw [pumpLifts_of_no_portLift h.portLift, pumpClosing_of_open h.closing hnot h.outstanding hopen h.free]
  have horigin : (s.liftHere c.level c.feed (.closingLift c) s.refTraced).origin ≠ .entry := by simp [State.liftHere]
  have hout := outstanding_checkAndIssue (sp := s.liftHere c.level c.feed (.closingLift c) s.refTraced) (s := u) h.claim
    hopen horigin
  have hjob := checkAndIssue_unchangedBut (s := u) h.free horigin .job (by decide)
  refine ⟨by simp [pumpPort, hpump, u], ?_, ?_⟩
  · have hmoves : (pumpPort s).job = (pumpLifts s).job := by simp [pumpPort]
    rw [hmoves, hpump]
    exact hjob
  · have hmoves : (pumpPort s).motion.outstanding = (pumpLifts s).motion.outstanding := by simp [pumpPort]
    rw [hmoves, hpump, hout]
    simp [u, h.outstanding, State.rateOf, State.liftHere]

theorem ClosingLiftOpen.unneeded (h : ClosingLiftOpen c s) {ref : Setpoint} (href : s.motion.reference = some ref)
    (harrived : s.motion.refArrived = true) (hfeed : ref.feed = .lift) (hlevel : ref.depth = c.level) :
    (pumpPort s).motion.closing = none ∧ (pumpPort s).motion.outstanding = [] ∧ (pumpPort s).motion.spindle = .off := by
  have hstands : s.standsAt c.level = true := (standsAt_iff s _).2 ⟨h.outstanding, harrived, ref, href, hfeed, hlevel⟩
  have hpump : pumpLifts s = closingDone c (s.setMotion { s.motion with closing := none }) := by
    rw [pumpLifts_of_no_portLift h.portLift, pumpClosing_of_stands h.closing hstands]
  exact ⟨by simp [pumpPort, hpump], by simp [pumpPort, hpump, h.outstanding],
    by simp [pumpPort, hpump, -closingDone_motion, spindle_closingDone]⟩

end

/-! ## The halted report (R168, R173) -/

/-- The drives stand: halting has ended, and after a stop for a closing lift nothing is outstanding (R168). -/
def haltEnded (closing : Bool) (s : State) : State :=
  s.setMotion { s.motion with halt := .moving, outstanding := if closing then [] else s.motion.outstanding }

theorem exec_halted_of_halting {closing : Bool} (h : s.motion.halt = .halting closing) :
    exec .halted s = .next (pumpPort (shrinkClaim (releaseAbandoned (haltEnded closing s)))) := by
  simp only [exec, execHalted, h]
  rfl

theorem pq_releaseAbandoned (s : State) : (releaseAbandoned s).pq =
    if s.motion.outstanding = [] then { s.pq with issued := [], free := s.pq.free + s.pq.issued.length } else s.pq := by
  unfold releaseAbandoned
  split <;> rfl

theorem releaseAbandoned_unchangedBut (s : State) : UnchangedBut [.pq] s (releaseAbandoned s) := by
  unfold releaseAbandoned
  split
  · exact setPq_unchangedBut s _
  · exact UnchangedBut.refl _ s

/-! ## The released report (R20, R173) -/

theorem pulls_eq (b : Bus) : b.pulls = (b.drivePull || b.breachPull) := rfl

/-- The line has been let go: the sensed level is high and no other pulls it (R20, R173). -/
def lineLetGo (s : State) : State :=
  (s.setInputs { s.inputs with lineLow := false }).setBus { s.bus with sensedLow := false, filter := 0 }

theorem exec_stopReleased_of_released (hlow : s.bus.sensedLow = true) (h : s.lineReleased = true) :
    exec .stopReleased s = .next (if s.job.state = .stopped then lineLetGo s else pumpPort (lineLetGo s)) := by
  have hstopped : (lineLetGo s).isStopped = decide (s.job.state = .stopped) := by
    simp [State.isStopped, lineLetGo, beq_eq_decide]
  have harm : exec .stopReleased s =
      .next (if (lineLetGo s).isStopped then lineLetGo s else pumpPort (lineLetGo s)) := by
    simp only [exec, execStopReleased, hlow, h, and_self, if_true]
    rfl
  rw [harm, hstopped]
  simp only [decide_eq_true_eq]

theorem exec_stopReleased_of_not_released (h : s.lineReleased = false) : exec .stopReleased s = .next s := by
  simp [exec, execStopReleased, h]

theorem lineLetGo_unchangedBut (s : State) : UnchangedBut [.inputs, .bus] s (lineLetGo s) := by
  intro b hb
  cases b <;> simp [Block.same, lineLetGo] at hb ⊢

/-- Settles O52. -/
theorem haltedAndReleasedLetAPendingLiftGo : Obligations.HaltedAndReleasedLetAPendingLiftGo := by
  intro s
  dsimp only
  refine ⟨fun hmoving => ?_, fun closing hhalt hport => ⟨fun hclosing hwaiting => ?_,
    fun c hc hleft hcheck hpassed hhigh hstate hwaiting => ?_⟩, fun hlow => ⟨fun hheld => ?_,
    fun hdrive hbreach hline => ⟨fun hnone => ?_, fun c hc hstate hport hwaiting hout hmoving hcheck hpassed hin => ?_⟩⟩⟩
  · simp only [exec, execHalted, hmoving]
  · have hexec := exec_halted_of_halting hhalt
    let v := haltEnded closing s
    have hv := releaseAbandoned_unchangedBut v
    have hmotion : (releaseAbandoned v).motion = v.motion := hv .motion (by decide)
    have hguard : (releaseAbandoned v).guard = s.guard := hv .guard (by decide)
    have hjob : (releaseAbandoned v).job = s.job := hv .job (by decide)
    have hinputs : (releaseAbandoned v).inputs = s.inputs := hv .inputs (by decide)
    have hshrink := shrinkClaim_unchangedBut (releaseAbandoned v)
    rw [pumpPort_shrinkClaim_of_idle (s := releaseAbandoned v) (by rw [hmotion]; exact hport) (by rw [hmotion]; exact hclosing)
      (by rw [hmotion]; exact hwaiting)] at hexec
    refine ⟨_, hexec, ?_, ?_, fun hpassed r hr => ?_, ?_⟩
    · exact (hshrink .motion (by decide)).trans hmotion
    · exact (hshrink .pq (by decide)).trans (pq_releaseAbandoned v)
    · have h := claimRecomputed_shrinkClaim (s := releaseAbandoned v) (r := r) (by rw [hjob]; exact hr)
        (by rw [hmotion]; rfl) (by rw [hguard]; exact hpassed)
      rw [hmotion, hinputs, hguard] at h
      exact h
    · exact ((setMotion_unchangedBut s _).mono (by decide)).trans ((hv.mono (by decide)).trans (hshrink.mono (by decide)))
  · have hexec := exec_halted_of_halting hhalt
    let v := haltEnded closing s
    let u := releaseAbandoned v
    have hv := releaseAbandoned_unchangedBut v
    have hmotion : u.motion = v.motion := hv .motion (by decide)
    have hguard : u.guard = s.guard := hv .guard (by decide)
    have hjob : u.job = s.job := hv .job (by decide)
    have hinputs : u.inputs = s.inputs := hv .inputs (by decide)
    have hbus : u.bus = s.bus := hv .bus (by decide)
    have hpq : u.pq = { s.pq with issued := [], free := s.pq.free + s.pq.issued.length } :=
      (pq_releaseAbandoned v).trans (if_pos hleft)
    have hshrink := shrinkClaim_unchangedBut u
    have hxmotion : (shrinkClaim u).motion = v.motion := (hshrink .motion (by decide)).trans hmotion
    have hxjob : (shrinkClaim u).job = s.job := (hshrink .job (by decide)).trans hjob
    have hxinputs : (shrinkClaim u).inputs = s.inputs := (hshrink .inputs (by decide)).trans hinputs
    have hxguard : (shrinkClaim u).guard = { s.guard with claim := u.occupied } := by
      rw [guard_shrinkClaim_of_idle (by rw [hmotion]; rfl) (by rw [hmotion]; exact hleft) (by rwa [hguard])
        (by rwa [hguard]), hguard]
    have hopen : ClosingLiftOpen c (shrinkClaim u) :=
      { closing := by rw [hxmotion]; exact hc
        portLift := by rw [hxmotion]; exact hport
        outstanding := by rw [hxmotion]; exact hleft
        halt := by rw [hxmotion]; rfl
        sensedLow := by simpa [hbus] using hhigh
        state := by rwa [hxjob]
        free := by rw [hxguard, isFree_iff]; exact ⟨hcheck, hpassed⟩
        claim := by
          rw [hxguard, occupied_congr (hshrink .inputs (by decide)) (hshrink .job (by decide))]
          exact ⟨le_refl _, le_refl _⟩ }
    have hframe : UnchangedBut [.bus, .job, .pq, .motion, .guard] s (pumpPort (shrinkClaim u)) :=
      ((setMotion_unchangedBut s _).mono (by decide)).trans ((hv.mono (by decide)).trans
        ((hshrink.mono (by decide)).trans (pumpPort_unchangedBut _)))
    refine ⟨_, hexec, ?_, ?_, ?_, ⟨fun hgoing => ?_, fun ref href harrived hfeed hlevel => ?_⟩, hframe⟩
    · have h : (pumpPort (shrinkClaim u)).motion.halt = (shrinkClaim u).motion.halt := by simp
      rw [h, hxmotion]
      rfl
    · rw [issued_pumpPort, (hshrink .pq (by decide) : (shrinkClaim u).pq = u.pq), hpq]
    · have h : (pumpPort (shrinkClaim u)).pq.released = u.pq.released := by simp
      rw [h, hpq]
    · obtain ⟨hnone, hsame, hout⟩ := hopen.issued (by rw [hxmotion]; exact hgoing)
      refine ⟨hnone, hsame.trans hxjob, hout.trans ?_⟩
      simp only [State.liftHere, State.refTraced, hxmotion, hxinputs]
      rfl
    · exact hopen.unneeded (by rw [hxmotion]; exact href) (by rw [hxmotion]; exact harrived) hfeed hlevel
  · refine exec_stopReleased_of_not_released ?_
    rw [State.lineReleased, pulls_eq]
    obtain h | h | ⟨h, h'⟩ := hheld
    · simp [h]
    · simp [h]
    · simp [h, Nat.not_le.2 h']
  · have hexec := exec_stopReleased_of_released hlow (by
      rw [State.lineReleased, pulls_eq, hdrive, hbreach]
      simpa using hline)
    have hstay : (if s.job.state = .stopped then lineLetGo s else pumpPort (lineLetGo s)) = lineLetGo s := by
      split
      case isTrue => rfl
      case isFalse h =>
        obtain ⟨hclosing, hport, hwaiting⟩ := hnone.resolve_left h
        exact pumpPort_of_idle hport hclosing hwaiting
    rw [hstay] at hexec
    exact ⟨_, hexec, rfl, rfl, lineLetGo_unchangedBut s⟩
  · have hexec := exec_stopReleased_of_released hlow (by
      rw [State.lineReleased, pulls_eq, hdrive, hbreach]
      simpa using hline)
    simp only [List.mem_cons, List.not_mem_nil, or_false, not_or] at hstate
    rw [if_neg hstate.1] at hexec
    have hopen : ClosingLiftOpen c (lineLetGo s) :=
      { closing := hc, portLift := hport, outstanding := hout, halt := hmoving, sensedLow := rfl, state := hstate.2
        free := (isFree_iff _).2 ⟨hcheck, hpassed⟩, claim := hin }
    refine ⟨_, hexec, by simp [lineLetGo], ?_, ⟨fun hgoing => ?_, fun ref href harrived hfeed hlevel => ?_⟩, ?_⟩
    · simp [lineLetGo]
    · exact hopen.issued hgoing
    · exact hopen.unneeded href harrived hfeed hlevel
    · exact ((lineLetGo_unchangedBut s).mono (by decide)).trans ((pumpPort_unchangedBut _).mono (by decide))

/-! ## Counters (R133, R190) -/

theorem Counter.index_lt (k : Counter) : k.index < 15 := by cases k <;> decide

theorem Counter.index_inj {k c : Counter} (h : k.index = c.index) : k = c := by
  cases k <;> cases c <;> simp [Counter.index] at h ⊢

theorem length_countUp (u : ConditionUnit) (c : Counter) (n : Nat) :
    (u.countUp c n).counters.length = u.counters.length := by
  simp [ConditionUnit.countUp]

theorem count_countUp {u : ConditionUnit} (hlen : u.counters.length = 15) (c k : Counter) (n : Nat) :
    (u.countUp c n).count k = if k = c then min 65535 (u.count k + n) else u.count k := by
  have hc := c.index_lt
  by_cases h : k = c
  · subst h
    simp [ConditionUnit.count, ConditionUnit.countUp, hlen, hc]
  · have hne : c.index ≠ k.index := fun he => h (Counter.index_inj he).symm
    simp [ConditionUnit.count, ConditionUnit.countUp, h, hne]

theorem count_countIf (hlen : s.cond.counters.length = 15) (p : Bool) (c k : Counter) : (countIf p c s).cond.count k =
    if p = true ∧ k = c then min 65535 (s.cond.count k + 1) else s.cond.count k := by
  unfold countIf
  cases p with
  | true => simp [count, count_countUp hlen]
  | false => simp

theorem length_countIf (p : Bool) (c : Counter) (s : State) :
    (countIf p c s).cond.counters.length = s.cond.counters.length := by
  unfold countIf
  split
  · exact length_countUp _ _ _
  · rfl

theorem count_raiseIf (p : Bool) (c : Cond) (k : Counter) (s : State) :
    (raiseIf p c s).cond.count k = s.cond.count k := by
  simp [ConditionUnit.count]

theorem length_raiseIf (p : Bool) (c : Cond) (s : State) :
    (raiseIf p c s).cond.counters.length = s.cond.counters.length := by
  simp

theorem has_raiseIf (p : Bool) (c k : Cond) (s : State) :
    (raiseIf p c s).cond.has k = (s.cond.has k || (p && decide (k = c))) := by
  unfold raiseIf
  cases p <;> simp [has_raise]

theorem has_countIf (p : Bool) (c : Counter) (k : Cond) (s : State) : (countIf p c s).cond.has k = s.cond.has k := by
  unfold countIf
  split
  · simp [count, ConditionUnit.has, ConditionUnit.countUp]
  · rfl

theorem bus_raiseIf_of_silent {c : Cond} (h : c.alerts = false) (p : Bool) (s : State) : (raiseIf p c s).bus = s.bus := by
  unfold raiseIf
  split
  · exact bus_raise_of_silent h s
  · rfl

/-- The limit marks count one each, whichever are set (R133). -/
theorem count_countMarks (hlen : s.cond.counters.length = 15) (m : Marks) (k : Counter) :
    (countMarks m s).cond.count k =
      if (k = .rangeClips ∧ m.rangeClip = true) ∨ (k = .outOfTravel ∧ m.outOfTravel = true) ∨
          (k = .envelopeClips ∧ m.envelopeClip = true) ∨ (k = .letterCaps ∧ m.letterCap = true)
        then min 65535 (s.cond.count k + 1) else s.cond.count k := by
  rw [countMarks, count_countIf (by simp only [length_raiseIf, length_countIf, hlen]), count_raiseIf,
    count_countIf (by simp only [length_raiseIf, length_countIf, hlen]), count_raiseIf,
    count_countIf (by simp only [length_countIf, hlen]), count_countIf hlen]
  cases k <;> simp

theorem has_countMarks (m : Marks) (s : State) :
    (m.outOfTravel = true → (countMarks m s).cond.has .outOfTravel = true) ∧
      (m.envelopeClip = true → (countMarks m s).cond.has .envelopeClip = true) := by
  simp only [countMarks, has_countIf, has_raiseIf]
  constructor <;> intro h <;> simp [h]

theorem bus_countMarks (m : Marks) (s : State) : (countMarks m s).bus = s.bus := by
  have hcount (p : Bool) (c : Counter) (u : State) : (countIf p c u).bus = u.bus := by simp
  simp only [countMarks, hcount, bus_raiseIf_of_silent (c := .outOfTravel) rfl,
    bus_raiseIf_of_silent (c := .envelopeClip) rfl]

/-! ## The cells gap-marked (R144) -/

theorem read_gapMark (m : CutMap) (cell : Option Nat) (n : Nat) : (m.gapMark cell).read n =
    if cell = some n then { m.read n with gapMarked := true } else m.read n := by
  unfold CutMap.gapMark
  cases cell with
  | none => simp
  | some k =>
    by_cases h : k = n
    · subst h
      rw [if_pos rfl]
      exact lookCell_putCell_of_ne_blank (fun h => by simpa [Cell.blank] using congrArg Cell.gapMarked h) _ _
    · rw [if_neg (by simpa using h)]
      exact CutMap.read_write_ne (Ne.symm h) _

theorem read_gapMark_gapMark (m : CutMap) (a b : Option Nat) (n : Nat) : ((m.gapMark a).gapMark b).read n =
    if a = some n ∨ b = some n then { m.read n with gapMarked := true } else m.read n := by
  by_cases ha : a = some n <;> by_cases hb : b = some n <;> simp [read_gapMark, ha, hb]

theorem gapMark_eq (m : CutMap) (cell : Option Nat) : m.gapMark cell = { m with cells := (m.gapMark cell).cells } := by
  unfold CutMap.gapMark
  split <;> rfl

/-! ## The issue of the passed setpoint (R165) -/

theorem canIssue_iff (s : State) (cutting : Bool) : s.canIssue cutting = true ↔
    s.job.state ≠ .armed ∧ s.motion.halt = .moving ∧ s.motion.outstanding.length < 2 ∧ s.bus.sensedLow = false ∧
      (cutting = true → s.motion.spindle = .on) := by
  cases cutting <;> simp [State.canIssue, and_assoc]

theorem rateOf_of_record {r : JobRecord} (hr : s.job.record = some r) (sp : Setpoint) : s.rateOf sp =
    match sp.origin with
    | .closingLift l => l.rate
    | _ => r.feeds.rate sp.feed := by
  unfold State.rateOf
  cases sp.origin <;> simp [hr]

/-- The passed setpoint sent to the drives, before its entry is told of it. -/
def setpointSent (sp : Setpoint) (s : State) : State :=
  (s.setMotion { s.motion with
    outstanding := s.motion.outstanding ++ [⟨s.motion.nextTag, sp, s.rateOf sp⟩]
    nextTag := s.motion.nextTag + 1, reference := some sp, refArrived := false }).setGuard { s.guard with passed := none }

theorem motion_setpointSent {r : JobRecord} (hr : s.job.record = some r) (sp : Setpoint) : (setpointSent sp s).motion =
    { s.motion with
      outstanding := s.motion.outstanding ++ [⟨s.motion.nextTag, sp, match sp.origin with
        | .closingLift l => l.rate
        | _ => r.feeds.rate sp.feed⟩]
      nextTag := s.motion.nextTag + 1, reference := some sp, refArrived := false } := by
  simp only [setpointSent, rateOf_of_record hr]
  rfl

theorem setpointSent_unchangedBut (sp : Setpoint) (s : State) : UnchangedBut [.motion, .guard] s (setpointSent sp s) := by
  intro b hb
  cases b <;> simp [Block.same, setpointSent] at hb ⊢

/-- The head entry at the issue of its setpoint (R105, R133, R144). -/
def entryIssued (e : Entry) (rest : List Entry) (tag : Byte) (sp : Setpoint) (s : State) : State :=
  countMarks sp.marks (s.setPq { s.pq with posted := rest, issued := s.pq.issued ++ [⟨e, tag, sp, false⟩] })

theorem issue_of_entry {sp : Setpoint} {e : Entry} {rest : List Entry} (horigin : sp.origin = .entry)
    (hposted : s.pq.posted = e :: rest) : issue sp s =
      if e.kind = .gapLift then markGap sp rest (entryIssued e rest s.motion.nextTag sp (setpointSent sp s))
      else entryIssued e rest s.motion.nextTag sp (setpointSent sp s) := by
  have hissue : issue sp s = issueEntry s.motion.nextTag sp (setpointSent sp s) := if_pos horigin
  have hposted' : (setpointSent sp s).pq.posted = e :: rest := hposted
  rw [hissue, issueEntry, hposted']
  rfl

theorem entryIssued_unchangedBut (e : Entry) (rest : List Entry) (tag : Byte) (sp : Setpoint) (s : State) :
    UnchangedBut [.pq, .cond] s (entryIssued e rest tag sp s) := by
  intro b hb
  cases b <;> simp [Block.same, entryIssued, bus_countMarks] at hb ⊢

theorem markGap_unchangedBut (sp : Setpoint) (behind : List Entry) (s : State) :
    UnchangedBut [.map] s (markGap sp behind s) := by
  intro b hb
  cases b <;> simp [Block.same] at hb ⊢

theorem map_markGap {c : CarverJob} (hc : s.carverJob = some c) (sp : Setpoint) (behind : List Entry) :
    (markGap sp behind s).map = (s.map.gapMark (c.cellOf sp.x sp.y sp.traced)).gapMark (c.returnCell behind) := by
  simp [markGap, hc]

theorem exec_setpointIssue_of_open {sp : Setpoint} (hpassed : s.guard.passed = some sp)
    (hopen : s.canIssue sp.cutting = true) : exec .setpointIssue s = .next (pumpPort (issue sp s)) := by
  simp [exec, execSetpointIssue, issuePassed, hpassed, hopen]

theorem exec_setpointIssue_of_blocked {sp : Setpoint} (hpassed : s.guard.passed = some sp)
    (hopen : s.canIssue sp.cutting = false) : exec .setpointIssue s = .next (pumpPort s) := by
  simp [exec, execSetpointIssue, issuePassed, hpassed, hopen]

/-- Settles O48. -/
theorem passedSetpointIsIssued : Obligations.PassedSetpointIsIssued := by
  intro s sp hpassed r hr hclosing hport hwaiting
  dsimp only
  rw [← canIssue_iff]
  refine ⟨fun hopen horigin => ?_, fun hopen horigin e rest hposted => ?_, fun hblocked => ?_⟩
  · have hexec := exec_setpointIssue_of_open hpassed hopen
    have hissue : issue sp s = setpointSent sp s := issue_of_no_entry horigin s
    rw [hissue, pumpPort_of_idle (s := setpointSent sp s) hport hclosing hwaiting] at hexec
    exact ⟨_, hexec, motion_setpointSent hr sp, rfl, setpointSent_unchangedBut sp s⟩
  · have hexec := exec_setpointIssue_of_open hpassed hopen
    let u := entryIssued e rest s.motion.nextTag sp (setpointSent sp s)
    have hissue : issue sp s = if e.kind = .gapLift then markGap sp rest u else u := issue_of_entry horigin hposted
    have hu := entryIssued_unchangedBut e rest s.motion.nextTag sp (setpointSent sp s)
    obtain ⟨t, ht⟩ : ∃ t, t = issue sp s := ⟨_, rfl⟩
    have hframe : UnchangedBut [.map] u t := by
      rw [ht, hissue]
      split
      · exact markGap_unchangedBut sp rest u
      · exact UnchangedBut.refl _ u
    have hmotion : t.motion = (setpointSent sp s).motion := (hframe .motion (by decide)).trans (hu .motion (by decide))
    have hcond : t.cond = u.cond := hframe .cond (by decide)
    have humap : u.map = s.map := hu .map (by decide)
    rw [← ht, pumpPort_of_idle (by rw [hmotion]; exact hport) (by rw [hmotion]; exact hclosing)
      (by rw [hmotion]; exact hwaiting)] at hexec
    refine ⟨t, hexec, hmotion.trans (motion_setpointSent hr sp), ?_, ?_, fun hkind => ?_, fun hkind _ c hc => ?_, fun hlen k => ?_, fun hmark => ?_,
      fun hmark => ?_, ?_⟩
    · rw [(hframe .pq (by decide) : t.pq = u.pq)]
      simp [u, entryIssued, setpointSent]
    · exact (hframe .guard (by decide)).trans (hu .guard (by decide))
    · rw [ht, hissue, if_neg hkind, humap]
    · have hmap : t.map = (s.map.gapMark (c.cellOf sp.x sp.y sp.traced)).gapMark (c.returnCell rest) := by
        have hjob : u.carverJob = some c := by
          have hrecord : u.job = s.job := hu .job (by decide)
          exact carverJob_of_carver (by rw [hrecord]; exact hr) hc
        rw [ht, hissue, if_pos hkind, map_markGap hjob, humap]
      refine ⟨?_, fun n => ?_⟩
      · rw [hmap, gapMark_eq, gapMark_eq s.map]
      · rw [hmap]
        exact read_gapMark_gapMark _ _ _ n
    · rw [hcond]
      exact count_countMarks (s := (setpointSent sp s).setPq { s.pq with
        posted := rest, issued := s.pq.issued ++ [⟨e, s.motion.nextTag, sp, false⟩] }) hlen sp.marks k
    · rw [hcond]
      exact (has_countMarks sp.marks _).1 hmark
    · rw [hcond]
      exact (has_countMarks sp.marks _).2 hmark
    · exact ((setpointSent_unchangedBut sp s).mono (by decide)).trans ((hu.mono (by decide)).trans (hframe.mono (by decide)))
  · have hexec := exec_setpointIssue_of_blocked hpassed (by simpa using hblocked)
    rwa [pumpPort_of_idle hport hclosing hwaiting] at hexec

end Sys2Proof.Machine

/-! SUPPORT. The intake of a TRACE (R106 to R110): what a record's pass and kind call for, gaps and overruns. -/

namespace Sys2Proof.Machine

open Sys2Proof

variable {s : State}

/-! ## The posting of a record (R109) -/

/-- The pass state finds a record stale (R109). -/
def PathQueue.Stale (q : PathQueue) (x : TraceRecord) : Prop :=
  x.pass < q.lastPass ∨ (x.pass = q.lastPass ∧ (q.inPass = false ∨ x.kind = .passStart))

/-- The markers a record's pass calls for ahead of it (R109). -/
def PathQueue.fresh (q : PathQueue) (x : TraceRecord) : List Entry :=
  if q.lastPass < x.pass then
    (if x.kind = .passStart then q.endSynths (x.seq - 1)
      else q.endSynths (x.seq - 1) ++ [synthetic .passStart (x.seq - 1) x.pass 0])
  else []

theorem posting_of_later {q : PathQueue} {x : TraceRecord} (h : q.lastPass < x.pass) :
    q.posting x = some ⟨q.fresh x ++ [x.toEntry], x.pass, x.kind != .passEnd⟩ := by
  unfold PathQueue.posting PathQueue.fresh
  cases hk : x.kind <;> simp [h]

theorem posting_of_current {q : PathQueue} {x : TraceRecord} (h : x.pass = q.lastPass) (hin : q.inPass = true)
    (hk : x.kind ≠ .passStart) : q.posting x = some ⟨q.fresh x ++ [x.toEntry], x.pass, x.kind != .passEnd⟩ := by
  unfold PathQueue.posting PathQueue.fresh
  cases hkind : x.kind <;> simp [hkind, h, hin] at hk ⊢

theorem posting_of_fresh {q : PathQueue} {x : TraceRecord} (h : ¬ q.Stale x) :
    q.posting x = some ⟨q.fresh x ++ [x.toEntry], x.pass, x.kind != .passEnd⟩ := by
  rw [PathQueue.Stale, not_or, not_lt] at h
  obtain hlt | heq := lt_or_eq_of_le h.1
  · exact posting_of_later hlt
  · have hcurrent : ¬ (q.inPass = false ∨ x.kind = .passStart) := fun hc => h.2 ⟨heq.symm, hc⟩
    rw [not_or] at hcurrent
    exact posting_of_current heq.symm (by simpa using hcurrent.1) hcurrent.2

theorem posting_of_stale {q : PathQueue} {x : TraceRecord} (h : q.Stale x) : q.posting x = none := by
  have hle : ¬ q.lastPass < x.pass := by
    obtain h | h := h
    · exact h.asymm
    · exact (h.1 ▸ lt_irrefl _)
  have hnot : ¬ (x.pass = q.lastPass ∧ q.inPass = true ∧ x.kind ≠ .passStart) := by
    rintro ⟨heq, hin, hk⟩
    obtain hlt | ⟨-, hc⟩ := h
    · omega
    · simp [hin, hk] at hc
  unfold PathQueue.posting
  cases hk : x.kind <;> simp only [hle, if_false] <;> simp [hk] at hnot ⊢ <;> exact hnot

/-! ## Gaps and overruns (R108, R110) -/

theorem counters_countUp_congr {u v : ConditionUnit} (h : u.counters = v.counters) (c : Counter) (n : Nat) :
    (u.countUp c n).counters = (v.countUp c n).counters := by
  simp [ConditionUnit.countUp, ConditionUnit.count, h]

theorem counters_noteGap (d : Nat) (s : State) : (noteGap d s).cond.counters =
    (if d = 0 then s.cond else s.cond.countUp .gapTotal d).counters := by
  unfold noteGap
  split
  · rfl
  · simp [count]

theorem has_noteGap {d : Nat} (h : d ≠ 0) (s : State) : (noteGap d s).cond.has .traceGap = true := by
  simp [noteGap, h, has_raise]

theorem noteGap_zero (s : State) : noteGap 0 s = s := rfl

theorem intake_of_distant {x : TraceRecord} (h : ¬ ((x.seq - s.pq.expected).toNat = 0 ∨
    ((x.seq - s.pq.expected).toNat ≤ 1023 ∧ (x.seq - s.pq.released).toNat ≤ 1023))) :
    intake x s = count .staleDuplicates 1 s := by
  rw [intake, if_neg h]

theorem intake_of_near {x : TraceRecord} (h : (x.seq - s.pq.expected).toNat = 0 ∨
    ((x.seq - s.pq.expected).toNat ≤ 1023 ∧ (x.seq - s.pq.released).toNat ≤ 1023)) :
    intake x s = intakeAt x (x.seq - s.pq.expected).toNat s := by
  rw [intake, if_pos h]

section

variable {x : TraceRecord} {d : Nat}

theorem intakeAt_of_fresh (h : ¬ s.pq.Stale x) : intakeAt x d s =
    if s.pq.free < (s.pq.gapLifts x d ++ (s.pq.fresh x ++ [x.toEntry])).length then overrun s
    else noteGap d (s.setPq { s.pq.post (s.pq.gapLifts x d ++ (s.pq.fresh x ++ [x.toEntry])) with
      expected := x.seq + 1, lastPass := x.pass, inPass := x.kind != .passEnd }) := by
  simp only [intakeAt, posting_of_fresh h]

theorem intakeAt_of_stale (h : s.pq.Stale x) : intakeAt x d s =
    if s.pq.free < (s.pq.gapLifts x d).length then overrun s
    else count .staleDuplicates 1 (noteGap d (s.setPq { s.pq.post (s.pq.gapLifts x d) with expected := x.seq + 1 })) := by
  simp only [intakeAt, posting_of_stale h]

end

theorem overrun_spec (s : State) : (overrun s).pq = s.pq ∧
    (overrun s).cond.counters = (s.cond.countUp .overruns 1).counters ∧ (overrun s).cond.has .queueOverrun = true := by
  refine ⟨by simp [overrun], by simp [overrun, count], by simp [overrun, has_raise]⟩

theorem traceFrame_of_taken {f : Frame} {r : JobRecord} {c : CarverJob} (hrole : s.straps.role = .carver)
    (hr : s.job.record = some r) (hc : r.work = .carver c) (hstate : s.job.state = .running ∨ s.job.state = .stopped)
    (hfinishing : s.job.finishing = false) (hsrc : f.src = c.tracer) {x : TraceRecord} (hx : readTrace f.payload = some x)
    (hpass : x.pass ≠ 0) : traceFrame f s = intake x s := by
  have hjob := carverJob_of_carver hr hc
  have hin : s.inJob = true := (inJob_iff s).2 (by simpa using hstate)
  have htakes : s.takesTrace f.src = true := by simp [State.takesTrace, hin, hfinishing, hjob, hsrc]
  simp [traceFrame, State.isTracer, hrole, hx, htakes, hpass]

/-- Settles O44: the distance of the sequence decides whether the record is near, and the pass state what it is
posted behind. -/
theorem traceIsPostedOrDiscarded : Obligations.TraceIsPostedOrDiscarded := by
  intro s f rest hrx hk hrole r hr c hc hstate hfinishing hsrc x hx hpass
  let u := s.dropFrame rest
  have harm : exec .trace s = .next (takeFrame .trace traceFrame s) := rfl
  rw [takeFrame_of_front traceFrame hrx hk,
    traceFrame_of_taken (s := u) hrole hr hc hstate hfinishing hsrc hx hpass] at harm
  have hpq : u.pq = s.pq := rfl
  have hcond : u.cond = s.cond := rfl
  have hfresh : u.pq.fresh x = if s.pq.lastPass < x.pass then
      (if x.kind = .passStart then (if s.pq.inPass then [synthetic .endSynth (x.seq - 1) s.pq.lastPass 0] else [])
        else (if s.pq.inPass then [synthetic .endSynth (x.seq - 1) s.pq.lastPass 0] else []) ++
          [synthetic .passStart (x.seq - 1) x.pass 0])
      else [] := rfl
  have hlifts : u.pq.gapLifts x (x.seq - s.pq.expected).toNat =
      if (x.seq - s.pq.expected).toNat = 0 then []
      else [synthetic .gapLift (x.seq - 1) s.pq.lastPass (x.seq - s.pq.expected).toNat] := rfl
  dsimp only
  rw [← hfresh, ← hlifts, List.append_assoc, hpq]
  refine ⟨_, harm, by simp [u, State.dropFrame], commandsWriteOnlyTheirBlocks _ _ _ harm, fun hfar => ?_,
    fun hnear hnot hroom => ?_, fun hnear hfull => ?_, fun hnear hstale hroom => ?_⟩
  · rw [intake_of_distant (s := u) hfar]
    exact ⟨rfl, rfl⟩
  · rw [intake_of_near (s := u) hnear, intakeAt_of_fresh (s := u) hnot, hpq, if_neg (not_lt.2 hroom)]
    refine ⟨by simp [PathQueue.post], counters_noteGap _ _, fun hd => has_noteGap hd _, fun hd => ?_⟩
    rw [hd, noteGap_zero]
    rfl
  · rw [intake_of_near (s := u) hnear]
    obtain ⟨hnot, hroom⟩ | ⟨hstale, hroom⟩ := hfull
    · rw [intakeAt_of_fresh (s := u) hnot, hpq, if_pos hroom]
      exact overrun_spec u
    · rw [intakeAt_of_stale (s := u) hstale, hpq, if_pos hroom]
      exact overrun_spec u
  · rw [intake_of_near (s := u) hnear, intakeAt_of_stale (s := u) hstale, hpq, if_neg (not_lt.2 hroom)]
    exact ⟨by simp [PathQueue.post], counters_countUp_congr (counters_noteGap _ _) _ _⟩

end Sys2Proof.Machine

/-! SUPPORT. The head of the posted list where no setpoint is made: markers, and every head of a resting Sequencer
(R111, R112, R152 to R159). -/

namespace Sys2Proof.Machine

open Sys2Proof

variable {s t : State} {e : Entry} {rest : List Entry} {q : Sequencer}

/-- A frame of one block more, where that block stays too. -/
theorem UnchangedBut.of_same {b : Block} {l : List Block} (h : UnchangedBut (b :: l) s t) (hb : b.same s t) :
    UnchangedBut l s t := by
  intro d hd
  by_cases heq : d = b
  · exact heq ▸ hb
  · exact h d (by simp [heq, hd])

theorem issued_pumpLifts (s : State) : (pumpLifts s).pq.issued = s.pq.issued := by
  have hport : (pumpPortLift (pumpClosing s)).pq = (pumpClosing s).pq := pumpPortLift_unchangedBut _ .pq (by decide)
  simp [pumpLifts, hport, issued_pumpClosing]

theorem posted_pumpLifts (s : State) : (pumpLifts s).pq.posted = s.pq.posted := by
  obtain ⟨hposted, -, -⟩ := leavesQueues_pumpLifts s
  exact hposted

theorem map_pumpLifts (s : State) : (pumpLifts s).map = s.map := by
  obtain ⟨-, hmap, -⟩ := leavesQueues_pumpLifts s
  exact hmap

/-! ## A head completed at once (R112) -/

/-- The head entry of s is completed in t, the Sequencer at q and the Cut Map as it was. -/
structure HeadCompleted (e : Entry) (rest : List Entry) (q : Sequencer) (s t : State) : Prop where
  seq : t.seq = q
  map : t.map = s.map
  posted : t.pq.posted = rest
  free : t.pq.free = s.pq.free + 1
  released : t.pq.released = e.release
  issued : t.pq.issued = s.pq.issued
  expected : t.pq.expected = s.pq.expected

theorem headCompleted_completeHead (h : s.pq.posted = e :: rest) (q : Sequencer) :
    HeadCompleted e rest q s (completeHead (s.setSeq q)) := by
  have hlists := completeHead_lists (s := s.setSeq q) h
  obtain ⟨hposted, hfree, hreleased⟩ := hlists
  exact ⟨by simp, by simp, hposted, hfree, hreleased, by simp, by simp⟩

theorem HeadCompleted.testDrain (h : HeadCompleted e rest q s t) : HeadCompleted e rest q s (testDrain t) :=
  ⟨by simp [h.seq], by simp [h.map], by simp [h.posted], by simp [h.free], by simp [h.released], by simp [h.issued],
    by simp [h.expected]⟩

theorem HeadCompleted.offerCredit (h : HeadCompleted e rest q s t) : HeadCompleted e rest q s (offerCredit t) :=
  ⟨by simp [h.seq], by simp [h.map], by simp [h.posted], by simp [h.free], by simp [h.released], by simp [h.issued],
    by simp [h.expected]⟩

theorem HeadCompleted.pumpLifts (h : HeadCompleted e rest q s t) : HeadCompleted e rest q s (pumpLifts t) :=
  ⟨by simp [h.seq], by simp [map_pumpLifts, h.map], by simp [posted_pumpLifts, h.posted], by simp [h.free], by simp [h.released],
    by simp [issued_pumpLifts, h.issued], by simp [h.expected]⟩

theorem HeadCompleted.of_setSeq {q' : Sequencer} (h : HeadCompleted e rest q (s.setSeq q') t) :
    HeadCompleted e rest q s t :=
  ⟨h.seq, h.map, h.posted, h.free, h.released, h.issued, h.expected⟩

theorem headCompleted_drained (h : s.pq.posted = e :: rest) (q : Sequencer) :
    HeadCompleted e rest q s (Machine.pumpLifts (Machine.testDrain (completeHead (s.setSeq q)))) :=
  (headCompleted_completeHead h q).testDrain.pumpLifts

theorem headCompleted_completeMarker (h : s.pq.posted = e :: rest) : HeadCompleted e rest
    { s.seq with completed := e.pass, reported := s.seq.running, openPass := none, phase := .none } s
    (Machine.pumpLifts (completeMarker e s)) :=
  (headCompleted_completeHead h _).offerCredit.testDrain.pumpLifts

/-! ## The markers of a plan (R152, R154, R155) -/

theorem handHead_of_passStart (hplan : s.seq.resting = false) (hk : e.kind = .passStart) :
    handHead e s = if s.pq.issued = [] then openPass e s else s := by
  simp [handHead, hplan, hk]

theorem handHead_of_passEnd (hplan : s.seq.resting = false) (hk : e.kind = .passEnd ∨ e.kind = .endSynth) :
    handHead e s = closePass e s := by
  obtain hk | hk := hk <;> simp [handHead, hplan, hk]

theorem openPass_of_step {p : PlanStep} (hp : s.planStep = some p) : openPass e s =
    testDrain (completeHead (s.setSeq { s.seq with
      openPass := some e.pass, floor := p.floorAt s.seq.rep, running := Tallies.opened e.broken })) := by
  simp [openPass, hp]

theorem planStep_of_index {c : CarverJob} {k : Nat} (hc : s.carverJob = some c) (hk : s.seq.index = some k) :
    s.planStep = c.plan[k]? := by
  simp [State.planStep, hc, hk]

/-- The running tallies of a pass that closes: broken by a synthetic end (R154). -/
theorem closing_running (e : Entry) (t : Tallies) : (if e.kind = .endSynth then { t with broken := true } else t) =
    { t with broken := t.broken || e.kind == .endSynth } := by
  cases h : e.kind <;> simp [beq_eq_decide]

theorem closePass_of_empty (h : s.pq.issued = []) : (closePass e s).seq = { s.seq with
      phase := .sweeping, running := { s.seq.running with broken := s.seq.running.broken || e.kind == .endSynth } } ∧
    (closePass e s).map = s.map.startSweep := by
  have hstarts : closePass e s = startSweep _ := sweepIfAwaited_of_starts ⟨rfl, h⟩
  rw [hstarts, ← closing_running]
  exact ⟨rfl, rfl⟩

theorem closePass_of_issued (h : s.pq.issued ≠ []) : (closePass e s).seq = { s.seq with
      phase := .awaiting, running := { s.seq.running with broken := s.seq.running.broken || e.kind == .endSynth } } ∧
    (closePass e s).map = s.map := by
  have hwaits : closePass e s = s.setSeq _ := sweepIfAwaited_of_not_starts (fun hstarts => h hstarts.2)
  rw [hwaits, ← closing_running]
  exact ⟨rfl, rfl⟩

/-! ## A resting Sequencer (R159) -/

/-- The Sequencer once it has completed a head of this kind at rest (R159). -/
def Sequencer.rested (q : Sequencer) (e : Entry) : Sequencer :=
  match e.kind with
  | .passStart => { q with openPass := some e.pass, running := ⟨0, 0, 0, e.broken⟩ }
  | .passEnd => { q with completed := e.pass, reported := q.running, openPass := none, phase := .none }
  | .endSynth => { q with
      completed := e.pass, running := { q.running with broken := true }
      reported := { q.running with broken := true }, openPass := none, phase := .none }
  | .gapLift => { q with running := { q.running with broken := q.running.broken || q.openPass.isSome } }
  | _ => q

theorem headCompleted_completeResting (h : s.pq.posted = e :: rest) :
    HeadCompleted e rest (s.seq.rested e) s (pumpLifts (completeResting e s)) := by
  cases hk : e.kind <;> simp only [completeResting, Sequencer.rested, hk]
  case passEnd => exact headCompleted_completeMarker h
  case endSynth =>
    exact (headCompleted_completeMarker
      (s := s.setSeq { s.seq with running := { s.seq.running with broken := true } }) h).of_setSeq
  case gapLift =>
    cases ho : s.seq.openPass.isSome
    · rw [Bool.or_false]
      exact headCompleted_drained h s.seq
    · simpa [ho] using headCompleted_drained h _
  all_goals exact headCompleted_drained h _

/-- Settles O45, marker by marker, and for a resting Sequencer by what a completed head leaves. -/
theorem headMarkersAndRest : Obligations.HeadMarkersAndRest := by
  intro s e rest hposted hrole hstate hsweep hphase hresume
  have hexec := exec_headHandedOn_of_open hposted ((headOpen_iff s).2 ⟨hrole, hstate, hsweep, hphase, hresume⟩)
  have hframe := commandsWriteOnlyTheirBlocks _ _ _ hexec
  refine ⟨fun hplan c hc k hk p hp => ⟨fun hkind hissued => ?_, fun hkind hissued hclosing hport => ?_,
    fun hkind => ?_⟩, fun hrest hissued => ?_⟩
  · have hstep : s.planStep = some p := (planStep_of_index hc hk).trans hp
    rw [handHead_of_passStart hplan hkind, if_pos hissued, openPass_of_step hstep] at hexec hframe
    have hdone := headCompleted_drained hposted
      { s.seq with openPass := some e.pass, floor := p.floorAt s.seq.rep, running := Tallies.opened e.broken }
    exact ⟨_, hexec, hdone.seq, hdone.posted, hdone.free, hdone.released, hdone.issued.trans hissued, hdone.expected,
      hdone.map, (hframe.mono (by decide)).of_same (b := .map) hdone.map⟩
  · rw [hexec, handHead_of_passStart hplan hkind, if_neg hissued, pumpLifts_of_none hport hclosing]
  · rw [handHead_of_passEnd hplan hkind] at hexec hframe
    refine ⟨_, hexec, ?_, ?_, by simp [posted_pumpLifts], by simp [issued_pumpLifts], by simp,
      hframe.mono (by decide)⟩
    · split
      case isTrue h => simpa using (closePass_of_empty (e := e) h).1
      case isFalse h => simpa using (closePass_of_issued (e := e) h).1
    · split
      case isTrue h => exact (map_pumpLifts _).trans (closePass_of_empty h).2
      case isFalse h => exact (map_pumpLifts _).trans (closePass_of_issued h).2
  · rw [handHead, if_pos hrest, if_pos hissued] at hexec hframe
    have hdone := headCompleted_completeResting hposted
    refine ⟨_, hexec, hdone.posted, hdone.free, hdone.released, hdone.issued.trans hissued, hdone.map,
      fun hkind => ?_, fun hkind => ?_, fun hkind => ?_, fun hkind => ?_, fun hkind => ?_,
      (hframe.mono (by decide)).of_same (b := .map) hdone.map⟩
    all_goals rw [hdone.seq, Sequencer.rested]
    · simp only [List.mem_cons, List.not_mem_nil, or_false] at hkind
      obtain hkind | hkind | hkind := hkind <;> rw [hkind]
    all_goals rw [hkind]

end Sys2Proof.Machine

/-! SUPPORT. A closing lift, a job-start lift and a resume lift that fall due at a control frame (R165, R167, R168), and
FINISH (R52, R115). -/

namespace Sys2Proof.Machine

open Sys2Proof

variable {s t u v : State} {c : ClosingLift}

/-! ## A closing lift that falls due (R168) -/

/-- What the fall of a closing lift reads of s is the same in v, and the carriage of v stands within its claim where that
of s does. -/
structure SameForClosingLift (s v : State) : Prop where
  inputs : v.inputs = s.inputs
  sensedLow : v.bus.sensedLow = s.bus.sensedLow
  outstanding : v.motion.outstanding = s.motion.outstanding
  nextTag : v.motion.nextTag = s.motion.nextTag
  reference : v.motion.reference = s.motion.reference
  refArrived : v.motion.refArrived = s.motion.refArrived
  halt : v.motion.halt = s.motion.halt
  claim : s.motion.halt = .moving → s.motion.outstanding = [] → liesWithin s.occupied s.guard.claim →
    liesWithin v.occupied v.guard.claim

theorem SameForClosingLift.fallsDue (h : SameForClosingLift s v) (hdue : ClosingLiftFallsDue c v t) :
    ClosingLiftFallsDue c s t := by
  simp only [ClosingLiftFallsDue, State.liftHere, State.refTraced, h.inputs, h.sensedLow, h.outstanding, h.nextTag,
    h.reference, h.refArrived, h.halt] at hdue
  obtain ⟨hhalted, hidle⟩ := hdue
  refine ⟨hhalted, fun hout => ?_⟩
  obtain ⟨hhalt, hstands, hissued, hpends⟩ := hidle hout
  exact ⟨hhalt, hstands, fun hnot hopen hin => hissued hnot hopen (h.claim hopen.1 hout hin), hpends⟩

theorem closingLiftPending_of_due (hframe : UnchangedBut [.bus, .pq] (closingDue c v) u)
    (hlow : u.bus.sensedLow = v.bus.sensedLow) : ClosingLiftPending c v u := by
  have hmotion : u.motion = (closingDue c v).motion := hframe .motion (by decide)
  refine ⟨hframe .inputs (by decide), hframe .job (by decide), hframe .guard (by decide), hlow, ?_, ?_, ?_, ?_, ?_, ?_, ?_⟩ <;>
    rw [hmotion] <;> rfl

theorem closingLiftFallsDue_pumpMoves (h : ClosingLiftFallsDue c s t) : ClosingLiftFallsDue c s (pumpMoves t) := by
  simpa [ClosingLiftFallsDue] using h

/-- A closing lift falls due at v, which the end of the job's work has made of s; only offers come before the port goes on. -/
theorem closingLiftFallsDue_pumpPort (hsame : SameForClosingLift s v) (hfree : v.guard.isFree = true)
    (hstate : v.job.state ≠ .armed) (hframe : UnchangedBut [.bus, .pq] (closingDue c v) u)
    (hlow : u.bus.sensedLow = v.bus.sensedLow) : ClosingLiftFallsDue c s (pumpPort u) := by
  obtain ⟨hcheck, hpassed⟩ := (isFree_iff _).1 hfree
  exact closingLiftFallsDue_pumpMoves
    (hsame.fallsDue ((closingLiftPending_of_due hframe hlow).fallsDue hcheck hpassed hstate))

/-- A carriage within its claim is within it once the check is abandoned, the claim being recomputed (R184, R185). -/
theorem liesWithin_abandonCheck (hmoving : s.motion.halt = .moving) (hout : s.motion.outstanding = [])
    (h : liesWithin s.occupied s.guard.claim) :
    liesWithin (abandonCheck s).occupied (abandonCheck s).guard.claim := by
  cases hfree : s.guard.isFree with
  | true => rwa [abandonCheck_of_free hfree]
  | false =>
    have hocc : (abandonCheck s).occupied = s.occupied := occupied_congr (by simp) (by simp)
    have hocc' : (s.setGuard s.guard.abandoned).occupied = s.occupied := occupied_congr rfl rfl
    have hneeded : (s.setGuard s.guard.abandoned).neededInterval = s.occupied :=
      (neededInterval_of_idle (s := s.setGuard s.guard.abandoned) hout rfl).trans hocc'
    rw [hocc, guard_abandonCheck_of_busy hfree, if_pos hmoving, hneeded]
    exact ⟨le_refl _, le_refl _⟩

theorem SameForClosingLift.abandonCheck (h : SameForClosingLift s v) : SameForClosingLift s (abandonCheck v) :=
  ⟨by simp [h.inputs], by simp [h.sensedLow], by simp [h.outstanding], by simp [h.nextTag], by simp [h.reference],
    by simp [h.refArrived], by simp [h.halt], fun hmoving hout hin => liesWithin_abandonCheck (h.halt.trans hmoving)
      (h.outstanding.trans hout) (h.claim hmoving hout hin)⟩

/-! ## A port lift that falls due (R165, R167) -/

/-- A setpoint that is issued as soon as it is checked is the reference, under the next tag (R165). -/
theorem motion_checkAndIssue {sp : Setpoint} (hin : liesWithin (s.intervalAt sp.x) s.guard.claim)
    (hopen : s.canIssue sp.cutting = true) (horigin : sp.origin ≠ .entry) :
    (checkAndIssue sp s).motion = { s.motion with
      outstanding := s.motion.outstanding ++ [⟨s.motion.nextTag, sp, s.rateOf sp⟩]
      nextTag := s.motion.nextTag + 1, reference := some sp, refArrived := false } := by
  let w := passCheck (s.setGuard { s.guard with atCheck := some sp })
  have hissue : issuePassed w = issue sp w := by
    have hopen' : w.canIssue sp.cutting = true := hopen
    have hpassed : w.guard.passed = some sp := rfl
    simp [issuePassed, hpassed, hopen']
  rw [checkAndIssue, beginCheck_of_liesWithin hin, hissue, issue_of_no_entry horigin]
  rfl

/-- Lift l of the port's own is due at u, with all that its progress reads as at s, in the job of record r. -/
structure PortLiftPending (l : PortLift) (r : JobRecord) (s u : State) : Prop where
  record : u.job.record = some r
  state : u.job.state ≠ .armed
  inputs : u.inputs = s.inputs
  occupied : u.occupied = s.occupied
  sensedLow : u.bus.sensedLow = s.bus.sensedLow
  guard : s.guard.isFree = true → u.guard = s.guard
  outstanding : u.motion.outstanding = s.motion.outstanding
  nextTag : u.motion.nextTag = s.motion.nextTag
  reference : u.motion.reference = s.motion.reference
  halt : u.motion.halt = s.motion.halt
  closing : u.motion.closing = none
  portLift : u.motion.portLift = some l

section

variable {l : PortLift} {r : JobRecord}

theorem origin_ne_entry (l : PortLift) : l.origin ≠ .entry := by cases l <;> simp [PortLift.origin]

theorem pumpLifts_of_no_closing (h : s.motion.closing = none) : pumpLifts s = pumpPortLift s := by
  simp only [pumpLifts, pumpClosing, h]

theorem pumpPortLift_of_open (hport : s.motion.portLift = some l) (hopen : s.canIssue false = true)
    (hfree : s.guard.isFree = true) : pumpPortLift s =
      checkAndIssue (s.liftHere s.clearance .lift l.origin (l.traced s)) (s.setMotion { s.motion with portLift := none }) := by
  simp [pumpPortLift, hport, hopen, hfree]

theorem pumpPortLift_of_blocked (hport : s.motion.portLift = some l)
    (hblocked : ¬ (s.canIssue false = true ∧ s.guard.isFree = true)) : pumpPortLift s = s := by
  rw [← Bool.and_eq_true] at hblocked
  simp [pumpPortLift, hport, hblocked]

theorem clearance_of_record (h : s.job.record = some r) : s.clearance = r.clearance := by simp [State.clearance, h]

theorem canIssue_false_iff (hstate : s.job.state ≠ .armed) : s.canIssue false = true ↔
    s.motion.halt = .moving ∧ s.motion.outstanding.length < 2 ∧ s.bus.sensedLow = false := by
  simp [State.canIssue, hstate, and_assoc]

theorem PortLiftPending.lift_eq (h : PortLiftPending l r s u) :
    u.liftHere u.clearance .lift l.origin (l.traced u) = s.liftHere r.clearance .lift l.origin (l.traced s) := by
  have htraced : l.traced u = l.traced s := by cases l <;> simp [PortLift.traced, State.refTraced, h.reference]
  simp [State.liftHere, h.inputs, clearance_of_record h.record, htraced]

/-- A job-start or resume lift that has fallen due is issued at once, or waits (R165, R167). -/
theorem PortLiftPending.fallsDue (h : PortLiftPending l r s u) : PortLiftFallsDue l r s (pumpPort u) := by
  intro hcheck hpassed
  have hguard : u.guard = s.guard := h.guard ((isFree_iff _).2 ⟨hcheck, hpassed⟩)
  have hfree : u.guard.isFree = true := by rw [hguard]; exact (isFree_iff _).2 ⟨hcheck, hpassed⟩
  have hgo := canIssue_false_iff h.state
  rw [h.halt, h.outstanding, h.sensedLow] at hgo
  rw [pumpPort, pumpLifts_of_no_closing h.closing]
  refine ⟨fun hopen hin => ?_, fun hshut => ?_⟩
  · let sp := s.liftHere r.clearance .lift l.origin (l.traced s)
    have hwithin : liesWithin (u.intervalAt sp.x) u.guard.claim := by
      rw [hguard]
      rw [← h.occupied, State.occupied, h.inputs] at hin
      exact hin
    rw [pumpPortLift_of_open h.portLift (hgo.2 hopen) hfree, h.lift_eq]
    have hmotion := motion_checkAndIssue (s := u.setMotion { u.motion with portLift := none }) (sp := sp) hwithin
      (hgo.2 hopen) (origin_ne_entry l)
    have hrate : (u.setMotion { u.motion with portLift := none }).rateOf sp = r.feeds.lift := by
      cases l <;> simp [State.rateOf, sp, State.liftHere, PortLift.origin, h.record, Feeds.rate]
    rw [hrate] at hmotion
    simp only [pumpMoves_motion, sp] at hmotion ⊢
    rw [hmotion]
    exact ⟨by simp [h.outstanding, h.nextTag], rfl, by simp [h.nextTag], rfl⟩
  · rw [pumpPortLift_of_blocked h.portLift (fun hboth => hshut (hgo.1 hboth.1))]
    exact ⟨by simp [h.outstanding], by simp [h.reference], by simp [h.portLift]⟩

/-- What the port's own lift adds to the outstanding setpoints is that lift (R165). -/
theorem outstanding_pumpPort_of_portLift (hclosing : u.motion.closing = none) (hport : u.motion.portLift = some l) :
    ∀ o ∈ (pumpPort u).motion.outstanding, o ∈ u.motion.outstanding ∨ o.sp.origin = l.origin := by
  intro o ho
  rw [pumpPort, pumpLifts_of_no_closing hclosing] at ho
  by_cases hgo : u.canIssue false = true ∧ u.guard.isFree = true
  · obtain ⟨hopen, hfree⟩ := hgo
    rw [pumpPortLift_of_open hport hopen hfree] at ho
    let sp := u.liftHere u.clearance .lift l.origin (l.traced u)
    obtain h | h := checkAndIssue_cases (sp := sp) (s := u.setMotion { u.motion with portLift := none })
      ((isFree_iff _).1 hfree).2
    · rw [h] at ho
      simp only [pumpMoves_motion, beginCheck_frame] at ho
      exact .inl ho
    · rw [h, issue_of_no_entry (origin_ne_entry l)] at ho
      simp only [pumpMoves_motion] at ho
      obtain ho | ho := List.mem_append.1 ho
      · exact .inl (by simpa using ho)
      · exact .inr (by rw [List.mem_singleton.1 ho]; rfl)
  · rw [pumpPortLift_of_blocked hport hgo] at ho
    exact .inl (by simpa using ho)

end

/-! ## FINISH (R52, R115) -/

section

variable {f : Frame} {r : JobRecord} {w : CarverJob}

theorem concernsFinish_of_carver (hrole : s.straps.role = .carver) (hr : s.job.record = some r)
    (hw : r.work = .carver w) (hid : u16At f.payload 0 = r.id) (hsrc : f.src = w.tracer) :
    s.concernsFinish f = true := by
  simp [State.concernsFinish, State.isCarver, hrole, carverJob_of_carver hr hw, State.holdsId, hr, Frame.jobId, hid, hsrc]

theorem takeFinish_of_concerned (hconcerns : s.concernsFinish f = true)
    (hstate : s.job.state = .running ∨ s.job.state = .stopped) : takeFinish f s = beginDrain s := by
  have hin : s.inJob = true := (inJob_iff s).2 (by simpa using hstate)
  simp [takeFinish, hconcerns, hin]

theorem beginDrain_of_begun (h : s.job.finishing = true) : beginDrain s = s := by simp [beginDrain, h]

theorem beginDrain_of_new (h : s.job.finishing = false) :
    beginDrain s = pumpPort (testDrain (s.setJob { s.job with finishing := true })) := by simp [beginDrain, h]

/-- A drain with something left to do, or with the station STOPPED, is not complete (R52, R115). -/
theorem testDrain_of_unfinished (h : s.job.state = .stopped ∨ s.pq.posted ≠ [] ∨ s.pq.issued ≠ []) : testDrain s = s := by
  rw [testDrain, if_neg]
  obtain h | h | h := h <;> simp [State.isRunning, h]

theorem testDrain_of_finished (hfinishing : s.job.finishing = true) (hstate : s.job.state = .running)
    (hposted : s.pq.posted = []) (hissued : s.pq.issued = []) : testDrain s = closingDue (s.retract true) s := by
  simp [testDrain, hfinishing, State.isRunning, hstate, hposted, hissued]

theorem takeFinish_of_left (hconcerns : s.concernsFinish f = true)
    (hstate : s.job.state ∈ [.suspended, .excused, .done]) : takeFinish f s = s := by
  have hin : s.inJob = false := by
    rw [← Bool.not_eq_true, inJob_iff]
    aesop
  have hleft : s.job.state.hasLeft = true := (hasLeft_iff _).2 hstate
  simp [takeFinish, hconcerns, hin, hleft]

/-- The station once its drain has ended with the retract unneeded (R52, R115, R168). -/
def drainDone (s : State) : State :=
  offerCredit (setStation .done ((spindleOff (s.setMotion { s.motion with closing := none })).setJob
    { s.job with finishing := false }))

/-- The drain's retract is found unneeded (R115, R168). -/
theorem pumpLifts_of_drained (hclosing : s.motion.closing = some c) (hport : s.motion.portLift = none)
    (hdrain : c.drain = true) (hstands : s.standsAt c.level = true) (hfinishing : s.job.finishing = true)
    (hstate : s.job.state = .running) : pumpLifts s = drainDone s := by
  rw [pumpLifts_of_no_portLift hport, pumpClosing_of_stands hclosing hstands, closingDone]
  simp only [hdrain, if_true]
  exact endDrain_of_drain (s := spindleOff (s.setMotion { s.motion with closing := none })) hfinishing hstate

theorem job_drainDone (s : State) : (drainDone s).job = { s.job with state := .done, finishing := false } := by
  simp [drainDone, job_setStation]

theorem spindle_drainDone (s : State) : (drainDone s).motion.spindle = .off := by
  simp [drainDone, spindleOff]

theorem pq_drainDone (hc : s.carverJob = some w) :
    (drainDone s).pq = { s.pq with creditTimer := none, freeAtOffer := s.pq.free } := by
  have hdone : (setStation .done ((spindleOff (s.setMotion { s.motion with closing := none })).setJob
      { s.job with finishing := false })).inJob = false := rfl
  rw [drainDone, pq_offerCredit (c := w) (by simpa [State.carverJob, job_setStation] using hc), hdone]
  rfl

theorem exists_credit_drainDone (hc : s.carverJob = some w) (hmute : s.bus.mute = false) :
    ∃ g ∈ (drainDone s).bus.places, g.kind = .credit :=
  exists_credit_offerCredit (c := w) (by simpa [State.carverJob, job_setStation] using hc) (by simpa using hmute)
    (by simp [job_setStation])

/-- A closing lift that the carriage still has to make, or to wait for, leaves the record and the queue (R168). -/
theorem pumpLifts_of_not_stands (hclosing : s.motion.closing = some c) (hport : s.motion.portLift = none)
    (hstands : s.standsAt c.level = false) : UnchangedBut [.bus, .motion, .guard] s (pumpLifts s) := by
  rw [pumpLifts_of_no_portLift hport]
  by_cases hgo : s.motion.outstanding.isEmpty = true ∧ s.canIssue false = true ∧ s.guard.isFree = true
  · obtain ⟨hout, hopen, hfree⟩ := hgo
    rw [pumpClosing_of_open hclosing hstands (List.isEmpty_iff.1 hout) hopen hfree]
    exact ((setMotion_unchangedBut s _).mono (by decide)).trans
      (checkAndIssue_unchangedBut (s := s.setMotion _) hfree (by simp [State.liftHere]))
  · have hsame : pumpClosing s = s := by
      simp only [← Bool.and_eq_true, ← Bool.and_assoc] at hgo
      simp only [pumpClosing, hclosing, hstands, hgo, if_false, Bool.false_eq_true]
    rw [hsame]
    exact UnchangedBut.refl _ s

/-- Settles O30: a drain with something left, a drain that is complete at once, and a FINISH that changes nothing. -/
theorem finishSetsTheFinishingFlag : Obligations.FinishSetsTheFinishingFlag := by
  intro s f rest hrx hk hrole r hr w hw hid hsrc
  let u := s.dropFrame rest
  have harm : exec .finish s = .next (takeFrame .finish takeFinish s) := rfl
  have hconcerns : u.concernsFinish f = true := concernsFinish_of_carver (s := u) hrole hr hw hid hsrc
  rw [takeFrame_of_front takeFinish hrx hk] at harm
  refine ⟨fun hstate hnew hleft hclosing hport hwaiting => ?_, fun hstate hnew hposted hissued hcheck hpassed => ?_,
    fun hsame => ?_⟩
  · let x := u.setJob { u.job with finishing := true }
    have hx : pumpPort x = x :=
      (pumpPort_of_no_lifts (s := x) hport hclosing).trans (pumpMoves_of_no_move (s := x) hwaiting)
    rw [takeFinish_of_concerned (s := u) hconcerns hstate, beginDrain_of_new (s := u) hnew,
      testDrain_of_unfinished (s := x) hleft, hx] at harm
    exact ⟨x, harm, rfl, rfl, by intro b hb; cases b <;> simp [Block.same, x, u] at hb ⊢⟩
  · let x := u.setJob { u.job with finishing := true }
    let lift : ClosingLift := ⟨r.clearance, r.feeds.lift, .lift, true⟩
    have hlift : x.retract true = lift := retract_of_record hr true
    rw [takeFinish_of_concerned (s := u) hconcerns (.inl hstate), beginDrain_of_new (s := u) hnew,
      testDrain_of_finished (s := x) rfl hstate hposted hissued, hlift] at harm
    have hsame : SameForClosingLift s x := ⟨rfl, rfl, rfl, rfl, rfl, rfl, rfl, fun _ _ hin => hin⟩
    let y := closingDue lift x
    have hstandsIff : y.standsAt lift.level = true ↔ s.motion.outstanding = [] ∧ s.motion.refArrived = true ∧
        ∃ ref, s.motion.reference = some ref ∧ ref.feed = .lift ∧ ref.depth = r.clearance := standsAt_iff y _
    have hy : UnchangedBut [.bus, .job, .motion] s y := ((dropFrame_unchangedBut s rest).mono (by decide)).trans
      (by intro b hb; cases b <;> simp [Block.same, y, x, u] at hb ⊢)
    have hport : (pumpPort y).job = (pumpLifts y).job ∧ (pumpPort y).pq = (pumpLifts y).pq ∧
        (pumpPort y).motion.spindle = (pumpLifts y).motion.spindle := by simp [pumpPort]
    obtain ⟨hjob, hpq, hspindle⟩ := hport
    refine ⟨pumpPort y, harm, by simp [y, x, u], closingLiftFallsDue_pumpPort hsame ((isFree_iff _).2 ⟨hcheck, hpassed⟩)
      (by simp [x, u, hstate]) (UnchangedBut.refl _ _) rfl, fun hstand => ?_, fun hstand => ?_,
      (hy.mono (by decide)).trans (pumpPort_unchangedBut y)⟩
    · have hdone := pumpLifts_of_drained (s := y) (c := lift) rfl rfl rfl (hstandsIff.2 hstand) rfl hstate
      have hcy : y.carverJob = some w := carverJob_of_carver (s := y) hr hw
      refine ⟨by rw [hjob, hdone, job_drainDone]; rfl, by rw [hspindle, hdone, spindle_drainDone],
        by rw [hpq, hdone, pq_drainDone hcy]; rfl, fun hmute => ?_⟩
      obtain ⟨g, hg, hcredit⟩ := exists_credit_drainDone hcy hmute
      exact ⟨g, places_subset_pumpMoves _ (by rw [hdone]; exact hg), hcredit⟩
    · have hgoes := pumpLifts_of_not_stands (s := y) (c := lift) rfl rfl (by rw [← Bool.not_eq_true, hstandsIff]; exact hstand)
      exact ⟨hjob.trans (hgoes .job (by decide)), hpq.trans (hgoes .pq (by decide))⟩
  · have hstays : takeFinish f u = u := by
      obtain ⟨hstate, hbegun⟩ | hstate := hsame
      · have hin : s.job.state = .running ∨ s.job.state = .stopped := by simpa using hstate
        rw [takeFinish_of_concerned (s := u) hconcerns hin,
          beginDrain_of_begun (s := u) hbegun]
      · exact takeFinish_of_left (s := u) hconcerns hstate
    rw [hstays] at harm
    exact ⟨u, harm, rfl, dropFrame_unchangedBut s rest⟩

end

end Sys2Proof.Machine

/-! SUPPORT. RESUME and START (R48, R76, R167, R169, R175). -/

namespace Sys2Proof.Machine

open Sys2Proof

variable {s t u v : State}

/-! ## The port goes on with no closing lift pending (R167) -/

theorem pumpPort_unchangedBut_of_no_closing (h : s.motion.closing = none) :
    UnchangedBut [.bus, .motion, .guard] s (pumpPort s) := by
  rw [pumpPort, pumpLifts_of_no_closing h]
  exact (pumpPortLift_unchangedBut s).trans (pumpMoves_unchangedBut _)

theorem occupied_of_record {r : JobRecord} (hinputs : u.inputs = s.inputs) (hr : s.job.record = some r)
    (hru : u.job.record = some r) : u.occupied = s.occupied := by
  simp [State.occupied, State.intervalAt, State.halfWidths, hinputs, hr, hru]

theorem spindle_pumpPort_of_no_closing (h : s.motion.closing = none) :
    (pumpPort s).motion.spindle = s.motion.spindle := by
  rw [pumpPort, pumpLifts_of_no_closing h]
  simp

theorem offerCredit_unchangedBut (s : State) : UnchangedBut [.bus, .pq] s (offerCredit s) := by
  intro b hb
  cases b <;> simp [Block.same] at hb ⊢

theorem setStation_unchangedBut (st : StationState) (s : State) : UnchangedBut [.job, .motion] s (setStation st s) := by
  intro b hb
  cases b <;> simp [Block.same] at hb ⊢

theorem spindleOn_unchangedBut (s : State) : UnchangedBut [.motion] s (spindleOn s) := by
  intro b hb
  cases b <;> simp [Block.same] at hb ⊢

theorem spindle_spindleOn_of_carver (hrole : s.straps.role = .carver) :
    (s.motion.restNotice = false → (spindleOn s).motion.spindle = .spinningUp 20000) ∧
      (s.motion.restNotice = true → spindleOn s = s) := by
  refine ⟨fun h => ?_, fun h => ?_⟩ <;> simp [spindleOn, State.isCarver, hrole, h]

/-! ## RESUME (R175) -/

section

variable {f : Frame} {r : JobRecord} {c : CarverJob}

theorem takeResume_of_stopped (hstate : s.job.state = .stopped) (hr : s.job.record = some r)
    (hid : u16At f.payload 0 = r.id ∨ u16At f.payload 0 = 0) : takeResume f s =
      if s.bus.sensedLow then raise .resumeRefused s else resumeJob s := by
  have hconcerns : (s.holdsId f.jobId || (f.jobId == 0 && s.job.record.isSome)) = true := by
    obtain h | h := hid <;> simp [State.holdsId, hr, Frame.jobId, h]
  simp [takeResume, hconcerns, State.isStopped, hstate]

/-- The station back in the state it remembered, its CREDIT offered (R117, R175). -/
def resumed (s : State) : State := offerCredit (setStation s.job.remembered s)

theorem resumed_unchangedBut (s : State) : UnchangedBut [.bus, .job, .pq, .motion] s (resumed s) :=
  ((setStation_unchangedBut _ s).mono (by decide)).trans ((offerCredit_unchangedBut _).mono (by decide))

theorem job_resumed (s : State) : (resumed s).job = { s.job with state := s.job.remembered } := by
  simp [resumed, job_setStation]

theorem resumeJob_of_armed (h : s.job.remembered = .armed) : resumeJob s = resumed s := by
  have hstate : (resumed s).isRunning = false := by simp [State.isRunning, job_resumed, h]
  have hsplit : resumeJob s = if (resumed s).isRunning then
      (match (resumed s).straps.role with
        | .carver => resumeCarver (resumed s)
        | .tracer => resumeTracer (resumed s))
      else resumed s := rfl
  rw [hsplit, hstate]
  rfl

theorem resumeJob_of_running (h : s.job.remembered = .running) : resumeJob s =
    match s.straps.role with
    | .carver => resumeCarver (resumed s)
    | .tracer => resumeTracer (resumed s) := by
  have hstate : (resumed s).isRunning = true := by simp [State.isRunning, job_resumed, h]
  have hrole : (resumed s).straps = s.straps := resumed_unchangedBut s .straps (by decide)
  rw [← hrole]
  exact if_pos hstate

theorem pq_resumed (hr : s.job.record = some r) (hc : r.work = .carver c) (h : s.job.remembered = .running) :
    (resumed s).pq = { s.pq with creditTimer := some 100, freeAtOffer := s.pq.free } := by
  have hin : (setStation s.job.remembered s).inJob = true := by rw [h]; rfl
  rw [resumed, pq_offerCredit (c := c) (carverJob_of_carver (s := setStation s.job.remembered s) hr hc), hin]
  simp

theorem exists_credit_resumed (hr : s.job.record = some r) (hc : r.work = .carver c) (h : s.job.remembered = .running)
    (hmute : s.bus.mute = false) : ∃ g ∈ (resumed s).bus.places, g.kind = .credit :=
  exists_credit_offerCredit (c := c) (carverJob_of_carver (s := setStation s.job.remembered s) hr hc) hmute (by simp [job_setStation, h])

/-- The drain of a station back in RUNNING has nothing left (R175). -/
def State.drained (s : State) : Bool := s.job.finishing && s.pq.posted.isEmpty && s.pq.issued.isEmpty

/-- The resume lift is due, its spindle turning (R169, R175). -/
def resumeDue (s : State) : State :=
  (spindleOn s).setMotion { (spindleOn s).motion with portLift := some (.resume s.drained) }

theorem resumeCarver_eq (s : State) : resumeCarver s = pumpPort (resumeDue s) := by
  have hjob : (spindleOn s).job = s.job := spindleOn_unchangedBut s .job (by decide)
  have hpq : (spindleOn s).pq = s.pq := spindleOn_unchangedBut s .pq (by decide)
  simp [resumeCarver, resumeDue, State.drained]

theorem resumeDue_unchangedBut (s : State) : UnchangedBut [.motion] s (resumeDue s) :=
  (spindleOn_unchangedBut s).trans (setMotion_unchangedBut _ _)

theorem portLiftPending_resumeDue (hr : s.job.record = some r) (hremembered : s.job.remembered = .running)
    (hclosing : s.motion.closing = none) :
    PortLiftPending (.resume s.drained) r s (resumeDue (resumed s)) := by
  have hframe : UnchangedBut [.bus, .job, .pq, .motion] s (resumeDue (resumed s)) :=
    (resumed_unchangedBut s).trans ((resumeDue_unchangedBut _).mono (by decide))
  have hjob : (resumeDue (resumed s)).job = { s.job with state := .running } := by
    rw [(resumeDue_unchangedBut (resumed s) .job (by decide) : _ = (resumed s).job), job_resumed, hremembered]
  have hdrained : (resumed s).drained = s.drained := by simp [State.drained, resumed]
  refine ⟨by rw [hjob]; exact hr, by simp [hjob], hframe .inputs (by decide), ?_, ?_, fun _ => hframe .guard (by decide),
    ?_, ?_, ?_, ?_, ?_, ?_⟩
  · exact occupied_of_record (hframe .inputs (by decide)) hr (by rw [hjob]; exact hr)
  · have hbus : (resumeDue (resumed s)).bus = (resumed s).bus := resumeDue_unchangedBut _ .bus (by decide)
    rw [hbus]
    simp [resumed]
  all_goals simp [resumeDue, resumed, hclosing]
  rw [← hdrained]
  rfl

/-- Settles O27: refused with the line low, back in ARMED with nothing to follow, or back in RUNNING with its lift due. -/
theorem resumeReturnsToTheRememberedState : Obligations.ResumeReturnsToTheRememberedState := by
  intro s f rest hrx hk hstate r hr hid
  let u := s.dropFrame rest
  have harm : exec .resume s = .next (takeFrame .resume takeResume s) := rfl
  rw [takeFrame_of_front takeResume hrx hk, takeResume_of_stopped (s := u) hstate hr hid] at harm
  have hu : UnchangedBut [.bus] s u := dropFrame_unchangedBut s rest
  refine ⟨fun hlow => ?_, fun hhigh harmed => ?_, fun hhigh hrunning hclosing c hc hrole => ?_⟩
  · have hlow' : u.bus.sensedLow = true := hlow
    rw [if_pos hlow'] at harm
    refine ⟨_, harm, by simp [u], fun _ => set_raise _ u, fun hset => ?_,
      (hu.mono (by decide)).trans (raise_unchangedBut _ u)⟩
    have hstands : u.cond.has .resumeRefused = true := hset
    have hsame : raise .resumeRefused u = u := if_pos hstands
    exact (congrArg State.cond hsame).trans (hu .cond (by decide))
  · have hhigh' : ¬ u.bus.sensedLow = true := by rw [Bool.not_eq_true]; exact hhigh
    rw [if_neg hhigh', resumeJob_of_armed (s := u) harmed] at harm
    exact ⟨_, harm, by simp [resumed, u], (job_resumed u).trans (by rw [show u.job = s.job from rfl, harmed]),
      by simp [resumed, u], by simp [resumed, u], (hu.mono (by decide)).trans (resumed_unchangedBut u)⟩
  · have hhigh' : ¬ u.bus.sensedLow = true := by rw [Bool.not_eq_true]; exact hhigh
    have hrole' : u.straps.role = .carver := hrole
    rw [if_neg hhigh', resumeJob_of_running (s := u) hrunning, hrole', resumeCarver_eq] at harm
    let y := resumeDue (resumed u)
    have hpend : PortLiftPending (.resume u.drained) r u y := portLiftPending_resumeDue hr hrunning hclosing
    have hgoes := pumpPort_unchangedBut_of_no_closing hpend.closing
    have hdue : UnchangedBut [.motion] (resumed u) y := resumeDue_unchangedBut _
    have hspindle : (pumpPort y).motion.spindle = (spindleOn (resumed u)).motion.spindle := by
      rw [spindle_pumpPort_of_no_closing hpend.closing]
      rfl
    have hnotice : (resumed u).motion.restNotice = s.motion.restNotice := by simp [resumed, u]
    obtain ⟨hspin, hstay⟩ := spindle_spindleOn_of_carver (s := resumed u)
      ((congrArg Straps.role (resumed_unchangedBut u .straps (by decide))).trans hrole)
    refine ⟨pumpPort y, harm, by simp [y, resumeDue, resumed, u], ?_, ?_, fun hrest => ?_, fun hrest => ?_, fun hmute => ?_,
      hpend.fallsDue, ?_⟩
    · rw [(hgoes .job (by decide) : _ = y.job), (hdue .job (by decide) : _ = (resumed u).job), job_resumed]
      exact congrArg (fun st => { s.job with state := st }) hrunning
    · rw [(hgoes .pq (by decide) : _ = y.pq), (hdue .pq (by decide) : _ = (resumed u).pq)]
      exact pq_resumed (s := u) hr hc hrunning
    · rw [hspindle, hspin (hnotice.trans hrest)]
    · rw [hspindle, hstay (hnotice.trans hrest)]
      simp [resumed, u]
    · obtain ⟨g, hg, hcredit⟩ := exists_credit_resumed (s := u) hr hc hrunning hmute
      refine ⟨g, places_subset_pumpPort y ?_, hcredit⟩
      rwa [(hdue .bus (by decide) : y.bus = (resumed u).bus)]
    · exact (((hu.mono (by decide)).trans ((resumed_unchangedBut u).mono (by decide))).trans (hdue.mono (by decide))).trans
        (hgoes.mono (by decide))

/-! ## START (R48, R76) -/

/-- A check left from the job before is dropped, the station is RUNNING, and its job-start lift is due (R48, R167). -/
def started (s : State) : State :=
  (setStation .running (abandonCheck s)).setMotion
    { (setStation .running (abandonCheck s)).motion with portLift := some .jobStart }

theorem abandonCheck_unchangedBut (s : State) : UnchangedBut [.bus, .guard] s (abandonCheck s) := by
  intro b hb
  cases b <;> simp [Block.same] at hb ⊢

theorem started_unchangedBut (s : State) : UnchangedBut [.bus, .job, .motion, .guard] s (started s) :=
  (((abandonCheck_unchangedBut s).mono (by decide)).trans ((setStation_unchangedBut _ _).mono (by decide))).trans
    ((setMotion_unchangedBut _ _).mono (by decide))

theorem job_started (s : State) : (started s).job = { s.job with state := .running } := by
  simp [started, job_setStation]

theorem startJob_of_carver (hrole : s.straps.role = .carver) :
    startJob s = pumpPort (offerCredit (spindleOn (started s))) := by
  have hrole' : (started s).straps.role = .carver :=
    (congrArg Straps.role (started_unchangedBut s .straps (by decide))).trans hrole
  simp only [startJob]
  split
  · rfl
  case h_2 h => exact absurd (hrole'.symm.trans h) (by decide)

theorem startJob_of_tracer (hrole : s.straps.role = .tracer) :
    startJob s = testEnrolment (pumpPort (startEnrolment (started s))) := by
  have hrole' : (started s).straps.role = .tracer :=
    (congrArg Straps.role (started_unchangedBut s .straps (by decide))).trans hrole
  simp only [startJob]
  split
  case h_1 h => exact absurd (hrole'.symm.trans h) (by decide)
  · rfl

theorem takeStart_of_armed (hstate : s.job.state = .armed) (hr : s.job.record = some r) (hid : u16At f.payload 0 = r.id) :
    takeStart f s = startJob s := by
  simp [takeStart, hstate, State.holdsId, hr, Frame.jobId, hid]

theorem portLiftPending_started (hr : s.job.record = some r) (hclosing : s.motion.closing = none)
    (hframe : UnchangedBut [.bus, .gen, .pacer, .pq, .motion] (started s) u) (hlow : u.bus.sensedLow = s.bus.sensedLow)
    (hmotion : ∃ sp, u.motion = { (started s).motion with spindle := sp }) : PortLiftPending .jobStart r s u := by
  obtain ⟨sp, hmotion⟩ := hmotion
  have hjob : u.job = { s.job with state := .running } := (hframe .job (by decide)).trans (job_started s)
  have hinputs : u.inputs = s.inputs :=
    (hframe .inputs (by decide)).trans (started_unchangedBut s .inputs (by decide))
  refine ⟨by rw [hjob]; exact hr, by simp [hjob], hinputs, occupied_of_record hinputs hr (by rw [hjob]; exact hr), hlow,
    fun hfree => ?_, ?_, ?_, ?_, ?_, ?_, ?_⟩
  · rw [(hframe .guard (by decide) : u.guard = (started s).guard)]
    simp [started, abandonCheck_of_free hfree]
  all_goals simp [hmotion, started, hclosing]

/-- The enrolment of a job that has just started ends at once exactly where the enrol list is empty (R76). -/
theorem enrolComplete_of_no_entry {w : TracerJob} (hr : s.job.record = some r) (hw : r.work = .tracer w)
    (hlag : s.pacer.lag = []) : s.enrolComplete = true ↔ w.enrol = [] := by
  cases h : w.enrol <;> simp [State.enrolComplete, tracerJob_of_record hr hw, hlag, h]

/-- The tracer back in ARMED after an enrolment with no entry (R78). -/
def notEnrolled (s : State) : State :=
  setStation .armed (raise .noCarvers (s.setPacer { s.pacer with phase := .off, enrolTimer := none, decision := none }))

theorem enrolmentResult_of_empty (hlag : s.pacer.lag = []) : enrolmentResult s = notEnrolled s := by
  have hempty : s.pacer.lag.isEmpty = true := List.isEmpty_iff.2 hlag
  exact if_pos hempty

theorem notEnrolled_unchangedBut (s : State) : UnchangedBut [.bus, .job, .pacer, .motion, .cond] s (notEnrolled s) := by
  intro b hb
  cases b <;> simp [Block.same, notEnrolled] at hb ⊢

theorem job_notEnrolled (s : State) : (notEnrolled s).job = { s.job with state := .armed } := by
  simp [notEnrolled, job_setStation]

theorem pacer_notEnrolled (s : State) : (notEnrolled s).pacer =
    { s.pacer with phase := .off, enrolTimer := none, decision := none } := by
  simp [notEnrolled]

theorem has_noCarvers_notEnrolled (s : State) : (notEnrolled s).cond.has .noCarvers = true := by
  simp [notEnrolled, has_raise]

theorem testEnrolment_of_empty (henrolling : s.pacer.enrolling = true) (hcomplete : s.enrolComplete = true)
    (hstate : s.job.state ≠ .stopped) (hlag : s.pacer.lag = []) : testEnrolment s = notEnrolled s := by
  simp [testEnrolment, henrolling, hcomplete, endEnrolment, State.isStopped, hstate, enrolmentResult_of_empty hlag]

/-- Settles O24: the job-start lift is due, and each role begins its work. -/
theorem startRunsTheArmedStation : Obligations.StartRunsTheArmedStation := by
  intro s f rest hrx hk hstate r hr hid hclosing
  let u := s.dropFrame rest
  have harm : exec .start s = .next (takeFrame .start takeStart s) := rfl
  rw [takeFrame_of_front takeStart hrx hk, takeStart_of_armed (s := u) hstate hr hid] at harm
  have hu : UnchangedBut [.bus] s u := dropFrame_unchangedBut s rest
  let x := started u
  have hx : UnchangedBut [.bus, .job, .motion, .guard] s x := (hu.mono (by decide)).trans (started_unchangedBut u)
  have hjob : x.job = { s.job with state := .running } := job_started u
  have hlow : x.bus.sensedLow = s.bus.sensedLow := by simp [x, started, u]
  have hrx' : x.bus.rx = rest := by simp [x, started, u]
  have hmute' : x.bus.mute = s.bus.mute := by simp [x, started, u]
  have hmotion : x.motion.restNotice = s.motion.restNotice ∧ x.motion.spindle = s.motion.spindle ∧
      x.motion.outstanding = s.motion.outstanding ∧ x.motion.closing = none ∧ x.motion.portLift = some .jobStart := by
    simp [x, started, u, hclosing]
  obtain ⟨hnotice, hspindle, hout, hxclosing, hport⟩ := hmotion
  refine ⟨fun c hc hrole => ?_, fun w hw hrole => ?_⟩
  · rw [startJob_of_carver (s := u) hrole] at harm
    let y := offerCredit (spindleOn x)
    have hrole' : x.straps.role = .carver := (congrArg Straps.role (hx .straps (by decide))).trans hrole
    obtain ⟨hspin, hstay⟩ := spindle_spindleOn_of_carver hrole'
    have hcx : (spindleOn x).carverJob = some c := by
      rw [State.carverJob, (spindleOn_unchangedBut x .job (by decide) : _ = x.job), hjob]
      simp [hr, hc]
    have hy : UnchangedBut [.bus, .pq, .motion] x y :=
      ((spindleOn_unchangedBut x).mono (by decide)).trans ((offerCredit_unchangedBut _).mono (by decide))
    have hymotion : y.motion = (spindleOn x).motion := offerCredit_unchangedBut _ .motion (by decide)
    have hspun : (spindleOn x).motion = { x.motion with spindle := (spindleOn x).motion.spindle } := by
      unfold spindleOn
      split <;> rfl
    have hpend : PortLiftPending .jobStart r u y := portLiftPending_started hr hclosing (hy.mono (by decide))
      (by simp [y, x, started, u]) ⟨_, hymotion.trans hspun⟩
    have hgoes := pumpPort_unchangedBut_of_no_closing hpend.closing
    have hspindle' : (pumpPort y).motion.spindle = (spindleOn x).motion.spindle := by
      rw [spindle_pumpPort_of_no_closing hpend.closing, hymotion]
    have hpq : (spindleOn x).pq = s.pq :=
      (spindleOn_unchangedBut x .pq (by decide)).trans (hx .pq (by decide))
    have hin : (spindleOn x).inJob = true := by
      rw [inJob_iff, (spindleOn_unchangedBut x .job (by decide) : _ = x.job), hjob]
      simp
    refine ⟨pumpPort y, harm, ?_, by simp [y, hrx'], ?_, fun hrest => ?_, fun hrest => ?_, fun hmute => ?_,
      hpend.fallsDue, fun o ho => ?_, ?_⟩
    · exact ((hgoes .job (by decide)).trans (hy .job (by decide))).trans hjob
    · rw [(hgoes .pq (by decide) : _ = y.pq), pq_offerCredit hcx, hpq, hin]
      rfl
    · rw [hspindle', hspin (hnotice.trans hrest)]
    · rw [hspindle', hstay (hnotice.trans hrest), hspindle]
    · obtain ⟨g, hg, hcredit⟩ := exists_credit_offerCredit hcx (by simpa [hmute'] using hmute)
        (by rw [(spindleOn_unchangedBut x .job (by decide) : _ = x.job), hjob]; simp)
      exact ⟨g, places_subset_pumpPort y hg, hcredit⟩
    · have hfrom := outstanding_pumpPort_of_portLift hpend.closing hpend.portLift o ho
      rw [hpend.outstanding] at hfrom
      exact hfrom
    · exact ((hx.mono (by decide)).trans (hy.mono (by decide))).trans (hgoes.mono (by decide))
  · rw [startJob_of_tracer (s := u) hrole] at harm
    let y := startEnrolment x
    have hy : UnchangedBut [.gen, .pacer] x y := by
      intro b hb
      cases b <;> simp [Block.same, y, startEnrolment] at hb ⊢
    have hpend : PortLiftPending .jobStart r u y :=
      portLiftPending_started hr hclosing (hy.mono (by decide)) hlow ⟨x.motion.spindle, hy .motion (by decide)⟩
    have hgoes := pumpPort_unchangedBut_of_no_closing hpend.closing
    let z := pumpPort y
    have hzpacer : z.pacer = { Pacer.afterReset with
        phase := .enrolling, enrolTimer := some 2000, restarted := s.pacer.restarted } := by
      rw [(hgoes .pacer (by decide) : z.pacer = y.pacer), ← (hx .pacer (by decide) : x.pacer = s.pacer)]
      rfl
    have hzgen : z.gen = { s.gen with nextSeq := 1 } := by
      rw [(hgoes .gen (by decide) : z.gen = y.gen), ← (hx .gen (by decide) : x.gen = s.gen)]
      rfl
    have hzjob : z.job = { s.job with state := .running } :=
      ((hgoes .job (by decide)).trans (hy .job (by decide))).trans hjob
    have hz : UnchangedBut [.bus, .job, .gen, .pacer, .motion, .guard] s z :=
      ((hx.mono (by decide)).trans (hy.mono (by decide))).trans (hgoes.mono (by decide))
    have hzrx : z.bus.rx = rest := by simp [z, y, startEnrolment, hrx']
    have hcomplete := enrolComplete_of_no_entry (s := z) (by rw [hzjob]; exact hr) hw (by rw [hzpacer]; rfl)
    have honly : ∀ o ∈ z.motion.outstanding, o ∈ s.motion.outstanding ∨ o.sp.origin = .jobStartLift := by
      intro o ho
      have hfrom := outstanding_pumpPort_of_portLift hpend.closing hpend.portLift o ho
      rw [hpend.outstanding] at hfrom
      exact hfrom
    by_cases hnone : w.enrol = []
    · have hend : testEnrolment z = notEnrolled z := testEnrolment_of_empty (by rw [hzpacer]; rfl) (hcomplete.2 hnone)
        (by simp [hzjob]) (by rw [hzpacer]; rfl)
      have hnot := notEnrolled_unchangedBut z
      have hdue : PortLiftFallsDue .jobStart r s z := hpend.fallsDue
      rw [hend] at harm
      refine ⟨notEnrolled z, harm, (hnot .gen (by decide)).trans hzgen, by simp [notEnrolled, hzrx],
        fun hsome => absurd hnone hsome, fun _ => ⟨?_, ?_, has_noCarvers_notEnrolled z⟩, ?_, ?_,
        (hz.mono (by decide)).trans (hnot.mono (by decide))⟩
      · rw [job_notEnrolled, hzjob, ← hstate]
      · rw [pacer_notEnrolled, hzpacer]
        rfl
      · simpa [PortLiftFallsDue, notEnrolled] using hdue
      · simpa [notEnrolled] using honly
    · have hend : testEnrolment z = z := by
        have hnot : z.enrolComplete = false := by rw [← Bool.not_eq_true, hcomplete]; exact hnone
        simp [testEnrolment, hnot]
      rw [hend] at harm
      exact ⟨z, harm, hzgen, hzrx, fun _ => ⟨hzjob, hzpacer⟩, fun h => absurd h hnone, hpend.fallsDue, honly,
        hz.mono (by decide)⟩

end

end Sys2Proof.Machine

/-! SUPPORT. The end of a job's work at a carver (R114, R147, R185), and EXCUSE (R50, R51, R83). -/

namespace Sys2Proof.Machine

open Sys2Proof

variable {s t u v : State}

/-! ## The port with no drain to end (R52) -/

theorem spindleOff_unchangedBut (s : State) : UnchangedBut [.motion] s (spindleOff s) := setMotion_unchangedBut s _

theorem pumpClosing_unchangedBut_of_no_drain (h : ¬ (s.job.finishing = true ∧ s.job.state = .running)) :
    UnchangedBut [.bus, .motion, .guard] s (pumpClosing s) := by
  obtain hsame | ⟨c, m, hdone⟩ | ⟨hfree, sp, m, horigin, hgo⟩ := pumpClosing_cases s
  · rw [hsame]
    exact UnchangedBut.refl _ s
  · have hend : endDrain (spindleOff (s.setMotion m)) = spindleOff (s.setMotion m) := endDrain_of_none h
    have hclose : closingDone c (s.setMotion m) = spindleOff (s.setMotion m) := by
      simp only [closingDone, hend]
      exact ite_self _
    rw [hdone, hclose]
    exact ((setMotion_unchangedBut s m).trans (spindleOff_unchangedBut _)).mono (by decide)
  · rw [hgo]
    exact ((setMotion_unchangedBut s m).mono (by decide)).trans
      (checkAndIssue_unchangedBut (s := s.setMotion m) hfree horigin)

theorem pumpPort_unchangedBut_of_no_drain (h : ¬ (s.job.finishing = true ∧ s.job.state = .running)) :
    UnchangedBut [.bus, .motion, .guard] s (pumpPort s) :=
  ((pumpClosing_unchangedBut_of_no_drain h).trans (pumpPortLift_unchangedBut _)).trans (pumpMoves_unchangedBut _)

/-- With no lift due the port's tracer moves alone may go on. -/
theorem motion_pumpPort_of_no_lifts (hclosing : s.motion.closing = none) (hport : s.motion.portLift = none) :
    (pumpPort s).motion.closing = none ∧ (pumpPort s).motion.outstanding = s.motion.outstanding := by
  rw [pumpPort_of_no_lifts hport hclosing]
  simp [hclosing]

/-! ## The end of a carver's work (R114, R147, R155) -/

theorem emptyQueue_unchangedBut (s : State) : UnchangedBut [.pq] s (emptyQueue s) := by
  intro b hb
  cases b <;> simp [Block.same, emptyQueue] at hb ⊢

theorem dropClose_unchangedBut (s : State) : UnchangedBut [.seed, .map, .seq] s (dropClose s) := by
  intro b hb
  cases b <;> simp [Block.same] at hb ⊢

theorem seq_dropClose (s : State) : (dropClose s).seq = { s.seq with phase := .none } := by
  unfold dropClose
  split <;> rfl

theorem sweeping_abandonSweep (m : CutMap) : m.abandonSweep.sweeping = false := by
  unfold CutMap.abandonSweep
  split
  · rfl
  case isFalse h => simpa using h

theorem map_dropClose (s : State) :
    (dropClose s).map.sweeping = false ∧ (s.map.sweeping = false → (dropClose s).map = s.map) := by
  cases h : s.map.sweeping <;> simp [dropClose, h, sweeping_abandonSweep]

theorem endWork_unchangedBut (s : State) : UnchangedBut [.seed, .bus, .pq, .map, .seq, .guard] s (endWork s) :=
  (((emptyQueue_unchangedBut s).mono (by decide)).trans ((dropClose_unchangedBut _).mono (by decide))).trans
    ((abandonCheck_unchangedBut _).mono (by decide))

/-- What the end of a carver's work makes of its queue, its Sequencer and its Cut Map (R114, R147, R155). -/
structure WorkEnded (s t : State) : Prop where
  posted : t.pq.posted = []
  free : t.pq.free = s.pq.free + s.pq.posted.length
  issued : t.pq.issued = s.pq.issued.map fun i => { i with emptied := true }
  released : t.pq.released = s.pq.released
  seq : t.seq = { s.seq with phase := .none }
  sweeping : t.map.sweeping = false
  map : s.map.sweeping = false → t.map = s.map

theorem workEnded_endWork (s : State) : WorkEnded s (endWork s) := by
  obtain ⟨hsweep, hmap⟩ := map_dropClose (emptyQueue s)
  have hseq := seq_dropClose (emptyQueue s)
  refine ⟨?_, ?_, ?_, ?_, ?_, ?_, fun h => ?_⟩
  · simp [endWork, emptyQueue, PathQueue.emptied]
  · simp [endWork, emptyQueue, PathQueue.emptied]
  · simp [endWork, emptyQueue, PathQueue.emptied]
  · simp [endWork, emptyQueue, PathQueue.emptied]
  · simpa [endWork] using hseq
  · simpa [endWork] using hsweep
  · simpa [endWork] using hmap h

theorem sameForClosingLift_endWork (h : SameForClosingLift s v) : SameForClosingLift s (endWork v) := by
  have hframe : UnchangedBut [.seed, .pq, .map, .seq] v (dropClose (emptyQueue v)) :=
    ((emptyQueue_unchangedBut v).mono (by decide)).trans ((dropClose_unchangedBut _).mono (by decide))
  have hmotion : (dropClose (emptyQueue v)).motion = v.motion := hframe .motion (by decide)
  have hocc : (dropClose (emptyQueue v)).occupied = v.occupied :=
    occupied_congr (hframe .inputs (by decide)) (hframe .job (by decide))
  refine SameForClosingLift.abandonCheck ⟨(hframe .inputs (by decide)).trans h.inputs,
    (congrArg Bus.sensedLow (hframe .bus (by decide))).trans h.sensedLow, by rw [hmotion, h.outstanding],
    by rw [hmotion, h.nextTag], by rw [hmotion, h.reference], by rw [hmotion, h.refArrived], by rw [hmotion, h.halt],
    fun hmoving hout hin => ?_⟩
  rw [hocc, (hframe .guard (by decide) : _ = v.guard)]
  exact h.claim hmoving hout hin

/-! ## EXCUSE at a tracer (R50, R83) -/

section

variable {f : Frame} {r : JobRecord} {w : TracerJob} {c : CarverJob} {k : Nat}

theorem tracerExcuse_of_listed (hr : s.job.record = some r) (hw : r.work = .tracer w)
    (hstate : s.job.state ∈ [.armed, .running, .stopped]) (hid : u16At f.payload 0 = r.id)
    (hnamed : byteAt f.payload 2 ∈ w.enrol) : tracerExcuse f s = excuseCarver (byteAt f.payload 2) r w s := by
  have hpart := (takesPart_iff _).2 hstate
  simp [tracerExcuse, hr, tracerJob_of_record hr hw, Frame.jobId, hid, hpart, hnamed]

theorem excuseCarver_of_armed (hstate : s.job.state = .armed) :
    excuseCarver k r w s = s.setJob { s.job with record := some (unlist k r w) } := by
  simp [excuseCarver, State.inJob, State.isRunning, State.isStopped, hstate]

theorem excuseCarver_of_started (hstate : s.job.state = .running ∨ s.job.state = .stopped) :
    excuseCarver k r w s = removeCarver k (s.setJob { s.job with record := some (unlist k r w) }) := by
  obtain h | h := hstate <;> simp [excuseCarver, State.inJob, State.isRunning, State.isStopped, h]

theorem follows_testEnrolment (s : State) : Follows s (testEnrolment s) := by
  have hend (x : State) : Follows x (setStation .armed x) := .same rfl rfl rfl
  have hresult (x : State) : Follows x (enrolmentResult x) := by
    unfold enrolmentResult
    refine ((Follows.refl x).setPacer (x := { x.pacer with enrolTimer := none, decision := none }) rfl rfl).trans ?_
    dsimp only
    split
    · refine Follows.trans (Follows.trans ?_ (follows_raise _ _)) (hend _)
      exact (Follows.refl _).setPacer rfl rfl
    · exact (follows_raiseIf _ _ _).trans (follows_decidePass _ _)
  exact .ite (.ite ((Follows.refl s).setPacer rfl rfl) (hresult s)) (.refl s)

theorem lag_removeCarver (k : Nat) (s : State) :
    (removeCarver k s).pacer.lag = s.pacer.lag.filter fun e => e.carver != k :=
  ((follows_testEnrolment _).trans (follows_testCollection _)).lag

/-- While a pass is emitted neither enrolment nor collection is tested (R83). -/
theorem removeCarver_of_passing (k : Nat) (hphase : s.pacer.phase = .passing) :
    removeCarver k s = s.setPacer (s.pacer.removeEntry k) := by
  have hphase' : (s.pacer.removeEntry k).phase = .passing := hphase
  have henrol : testEnrolment (s.setPacer (s.pacer.removeEntry k)) = s.setPacer (s.pacer.removeEntry k) := by
    simp [testEnrolment, Pacer.enrolling, hphase']
  rw [removeCarver, henrol]
  simp [testCollection, hphase']

theorem removeCarver_unchangedBut (k : Nat) (s : State) :
    UnchangedBut [.bus, .job, .gen, .pacer, .store, .motion, .guard, .cond] s (removeCarver k s) := by
  intro b hb
  cases b <;> simp [Block.same] at hb ⊢

/-! ## EXCUSE at the carver it names (R51) -/

/-- The carver EXCUSED, with no finishing flag. -/
def excused (s : State) : State := setStation .excused (s.setJob { s.job with finishing := false })

theorem excused_unchangedBut (s : State) : UnchangedBut [.job, .motion] s (excused s) := by
  intro b hb
  cases b <;> simp [Block.same, excused] at hb ⊢

theorem job_excused (s : State) : (excused s).job = { s.job with state := .excused, finishing := false } := rfl

/-- The excused carver with its work ended, where it was in a started job (R51). -/
def excusedWork (s : State) : State := if s.job.state = .armed then excused s else endWork (excused s)

theorem job_excusedWork (s : State) : (excusedWork s).job = { s.job with state := .excused, finishing := false } := by
  unfold excusedWork
  split
  · rfl
  · exact (endWork_unchangedBut (excused s) .job (by decide)).trans (job_excused s)

theorem excusedWork_unchangedBut (s : State) :
    UnchangedBut [.seed, .bus, .job, .pq, .map, .seq, .motion, .guard] s (excusedWork s) := by
  unfold excusedWork
  split
  · exact (excused_unchangedBut s).mono (by decide)
  · exact ((excused_unchangedBut s).mono (by decide)).trans ((endWork_unchangedBut _).mono (by decide))

theorem motion_excusedWork (s : State) : (excusedWork s).motion = (excused s).motion := by
  unfold excusedWork
  split
  · rfl
  · exact endWork_unchangedBut _ .motion (by decide)

theorem bus_excusedWork (s : State) :
    (excusedWork s).bus.rx = s.bus.rx ∧ (excusedWork s).bus.mute = s.bus.mute := by
  unfold excusedWork
  split <;> simp [excused, endWork]

/-- The retract of a carver excused in RUNNING is due (R51, R168). -/
def excusedLift (s : State) : State :=
  if s.job.state = .running then closingDue ((excusedWork s).retract false) (excusedWork s) else excusedWork s

theorem becomeExcused_eq (s : State) : becomeExcused s = pumpPort (offerCredit (excusedLift s)) := rfl

theorem excusedLift_unchangedBut (s : State) : UnchangedBut [.motion] (excusedWork s) (excusedLift s) := by
  unfold excusedLift
  split
  · exact setMotion_unchangedBut _ _
  · exact UnchangedBut.refl _ _

theorem sameForClosingLift_excused (s : State) : SameForClosingLift s (excused s) := by
  have hocc : (excused s).occupied = s.occupied := by
    simp [State.occupied, State.intervalAt, State.halfWidths, excused]
  refine ⟨rfl, rfl, by simp [excused], by simp [excused], by simp [excused], by simp [excused], by simp [excused],
    fun _ _ hin => ?_⟩
  rw [hocc]
  exact hin

theorem carverExcuse_of_named (hnamed : byteAt f.payload 2 = s.straps.number.val) (hr : s.job.record = some r)
    (hid : u16At f.payload 0 = r.id) : carverExcuse f s =
      if s.job.state.takesPart then becomeExcused s else if s.job.state.hasLeft then s else strayControl s := by
  simp [carverExcuse, hnamed, State.number, State.holdsId, hr, Frame.jobId, hid]

theorem carverExcuse_of_other (hnamed : byteAt f.payload 2 ≠ s.straps.number.val) : carverExcuse f s = s := by
  simp [carverExcuse, State.number, hnamed]

theorem takeExcuse_of_carver (hrole : s.straps.role = .carver) : takeExcuse f s = carverExcuse f s := by
  simp only [takeExcuse, hrole]

theorem takeExcuse_of_tracer (hrole : s.straps.role = .tracer) : takeExcuse f s = tracerExcuse f s := by
  simp only [takeExcuse, hrole]

theorem not_draining_of_not_finishing (h : s.job.finishing = false) :
    ¬ (s.job.finishing = true ∧ s.job.state = .running) := fun hboth => by simp [h] at hboth

/-- Settles O26: the tracer's tables, the carver's end of work by the state it was in, and the frame it only discards. -/
theorem excuseRemovesTheCarver : Obligations.ExcuseRemovesTheCarver := by
  intro s f rest hrx hk r hr
  let u := s.dropFrame rest
  have harm : exec .excuse s = .next (takeFrame .excuse takeExcuse s) := rfl
  rw [takeFrame_of_front takeExcuse hrx hk] at harm
  have hu : UnchangedBut [.bus] s u := dropFrame_unchangedBut s rest
  refine ⟨fun w hw hrole hstate hid hnamed => ?_, fun c hc hrole hnamed hid => ⟨fun hstate => ?_, fun hleft => ?_⟩,
    fun hrole hother => ?_⟩
  · rw [takeExcuse_of_tracer (s := u) hrole, tracerExcuse_of_listed (s := u) hr hw hstate hid hnamed] at harm
    let k := byteAt f.payload 2
    let x := u.setJob { u.job with record := some (unlist k r w) }
    have hx : UnchangedBut [.bus, .job] s x := (hu.mono (by decide)).trans
      (by intro b hb; cases b <;> simp [Block.same, x] at hb ⊢)
    by_cases harmed : s.job.state = .armed
    · rw [excuseCarver_of_armed (s := u) harmed] at harm
      exact ⟨x, harm, rfl, rfl, fun _ => ⟨rfl, hx⟩, fun h => absurd harmed h, fun h => absurd harmed h,
        hx.mono (by decide)⟩
    · have hstarted : s.job.state = .running ∨ s.job.state = .stopped := by simpa [harmed] using hstate
      rw [excuseCarver_of_started (s := u) hstarted] at harm
      have hlag : (removeCarver k x).pacer.lag = s.pacer.lag.filter fun e => e.carver != k := lag_removeCarver k x
      refine ⟨removeCarver k x, harm, by simp [x, u], by simp [x, unlist, k], fun h => absurd h harmed,
        fun _ => ⟨fun e he => ?_, fun e he hne => ?_⟩, fun _ hphase => ?_,
        (hx.mono (by decide)).trans (removeCarver_unchangedBut k x)⟩
      · rw [hlag, List.mem_filter] at he
        exact ⟨by simpa using he.2, he.1⟩
      · rw [hlag, List.mem_filter]
        exact ⟨he, by simpa using hne⟩
      · rw [removeCarver_of_passing (s := x) k hphase]
        exact ⟨rfl, (hx.mono (by decide)).trans (by intro b hb; cases b <;> simp [Block.same] at hb ⊢)⟩
  · have hpart : u.job.state.takesPart = true := (takesPart_iff _).2 hstate
    rw [takeExcuse_of_carver (s := u) hrole, carverExcuse_of_named (s := u) hnamed hr hid, if_pos hpart,
      becomeExcused_eq] at harm
    let x := excusedWork u
    let y := excusedLift u
    let z := offerCredit y
    have hy : UnchangedBut [.motion] x y := excusedLift_unchangedBut u
    have hz : UnchangedBut [.bus, .pq] y z := offerCredit_unchangedBut y
    have hzjob : z.job = { s.job with state := .excused, finishing := false } :=
      ((hz .job (by decide)).trans (hy .job (by decide))).trans (job_excusedWork u)
    have hgoes : UnchangedBut [.bus, .motion, .guard] z (pumpPort z) :=
      pumpPort_unchangedBut_of_no_drain (not_draining_of_not_finishing (by rw [hzjob]))
    have hxz : UnchangedBut [.bus, .pq, .motion] x z := (hy.mono (by decide)).trans (hz.mono (by decide))
    have hxt : UnchangedBut [.bus, .pq, .motion, .guard] x (pumpPort z) :=
      (hxz.mono (by decide)).trans (hgoes.mono (by decide))
    have hcy : y.carverJob = some c := by
      rw [State.carverJob, (hy .job (by decide) : y.job = x.job), job_excusedWork u]
      simp [u, hr, hc]
    have hin : y.inJob = false := by
      rw [← Bool.not_eq_true, inJob_iff, (hy .job (by decide) : y.job = x.job), job_excusedWork u]
      simp
    have hpq : (pumpPort z).pq = { x.pq with creditTimer := none, freeAtOffer := x.pq.free } := by
      rw [(hgoes .pq (by decide) : _ = z.pq), pq_offerCredit hcy, hin, (hy .pq (by decide) : y.pq = x.pq)]
      rfl
    obtain ⟨hrxx, hmutex⟩ := bus_excusedWork u
    have hyrx : y.bus.rx = rest := by rw [(hy .bus (by decide) : y.bus = x.bus), hrxx]; rfl
    refine ⟨pumpPort z, harm, by simp [z, hyrx], ?_, fun harmed => ?_, fun harmed => ?_, fun hrunning => ?_,
      fun hnot hclosing hport => ?_, by rw [hpq], fun hmute => ?_, ?_⟩
    · exact (hgoes .job (by decide)).trans hzjob
    · have hx : x = excused u := if_pos harmed
      have hxpq : x.pq = s.pq := by rw [hx]; rfl
      refine ⟨by rw [hpq, hxpq], by rw [hpq, hxpq], ?_⟩
      rw [(hxt .seq (by decide) : _ = x.seq), hx]
      rfl
    · have hx : x = endWork (excused u) := if_neg harmed
      obtain ⟨hposted, hfree, hissued, -, hseq, hsweep, hmap⟩ := workEnded_endWork (excused u)
      have htmap : (pumpPort z).map = (endWork (excused u)).map := by
        rw [(hxt .map (by decide) : _ = x.map), hx]
      rw [hpq, (hxt .seq (by decide) : _ = x.seq), htmap, hx]
      exact ⟨hposted, hfree, hissued, hseq, hsweep, hmap⟩
    · have hx : x = endWork (excused u) := if_neg (by simp [u, hrunning])
      have hlift : x.retract false = ⟨r.clearance, r.feeds.lift, .lift, false⟩ :=
        retract_of_record (by rw [job_excusedWork u]; exact hr) false
      have hyx : y = closingDue ⟨r.clearance, r.feeds.lift, .lift, false⟩ x := by
        rw [← hlift]
        exact if_pos hrunning
      have hsame : SameForClosingLift u x := by
        rw [hx]
        exact sameForClosingLift_endWork (sameForClosingLift_excused u)
      have hdue : ClosingLiftFallsDue ⟨r.clearance, r.feeds.lift, .lift, false⟩ u (pumpPort z) :=
        closingLiftFallsDue_pumpPort hsame (by rw [hx]; exact isFree_abandonCheck _)
          (by rw [job_excusedWork u]; simp) (by rw [← hyx]; exact hz) (by simp [z, hyx, closingDue])
      exact hdue
    · have hyx : y = x := if_neg hnot
      have hzmotion : z.motion = (excused u).motion := by
        rw [(hz .motion (by decide) : z.motion = y.motion), hyx, motion_excusedWork u]
      obtain ⟨hnone, hout⟩ := motion_pumpPort_of_no_lifts (s := z) (by rw [hzmotion]; exact hclosing)
        (by rw [hzmotion]; exact hport)
      exact ⟨hnone, by rw [hout, hzmotion]; rfl⟩
    · obtain ⟨g, hg, hcredit⟩ := exists_credit_offerCredit hcy
        (by rw [(hy .bus (by decide) : y.bus = x.bus), hmutex]; exact hmute)
        (by rw [(hy .job (by decide) : y.job = x.job), job_excusedWork u]; simp)
      exact ⟨g, places_subset_pumpPort z hg, hcredit⟩
    · exact ((hu.mono (by decide)).trans ((excusedWork_unchangedBut u).mono (by decide))).trans (hxt.mono (by decide))
  · have hpart : ¬ u.job.state.takesPart = true := by
      rw [takesPart_iff]
      have hleft' : u.job.state ∈ [.suspended, .excused, .done] := hleft
      aesop
    have hgone : u.job.state.hasLeft = true := (hasLeft_iff _).2 hleft
    rw [takeExcuse_of_carver (s := u) hrole, carverExcuse_of_named (s := u) hnamed hr hid, if_neg hpart,
      if_pos hgone] at harm
    exact ⟨u, harm, rfl, hu⟩
  · rw [takeExcuse_of_carver (s := u) hrole, carverExcuse_of_other (s := u) hother] at harm
    exact ⟨u, harm, rfl, hu⟩

end

end Sys2Proof.Machine

/-! SUPPORT. ABORT (R15, R49, R73, R90, R114, R168, R185). -/

namespace Sys2Proof.Machine

open Sys2Proof

variable {s t u v : State}

/-! ## No TRACE frame is queued by what follows an ABORT (R15, R90) -/

/-- Each frame that waits in t waited in s, or is no TRACE. -/
def AddsNoTrace (s t : State) : Prop := ∀ g ∈ t.bus.queue, g ∈ s.bus.queue ∨ g.kind ≠ .trace

namespace AddsNoTrace

theorem same (h : t.bus = s.bus) : AddsNoTrace s t := fun _ hg => .inl (h ▸ hg)

theorem refl (s : State) : AddsNoTrace s s := same rfl

theorem trans (h : AddsNoTrace s t) (h' : AddsNoTrace t u) : AddsNoTrace s u := fun g hg =>
  (h' g hg).elim (h g) .inr

theorem ite {p : Prop} [Decidable p] (ht : AddsNoTrace s t) (hu : AddsNoTrace s u) :
    AddsNoTrace s (if p then t else u) := by
  split
  · exact ht
  · exact hu

/-- A last change that leaves the Bus Controller. -/
theorem then_same (h : AddsNoTrace s t) (hbus : u.bus = t.bus) : AddsNoTrace s u := h.trans (same hbus)

end AddsNoTrace

theorem addsNoTrace_fill {k : Kind} (hk : k ≠ .trace) (dest : Byte) (payload : List Byte) (s : State) :
    AddsNoTrace s (s.setBus (s.bus.fill k dest payload)) := by
  intro g hg
  obtain rfl | hg := mem_place.1 hg
  · exact .inr hk
  · exact .inl hg

theorem addsNoTrace_offerReport {k : Kind} (hk : k ≠ .trace) (dest : Byte) (s : State) :
    AddsNoTrace s (offerReport k dest s) := by
  have hfill : AddsNoTrace s (s.setBus (s.bus.fillReport k dest)) := by
    unfold Bus.fillReport
    split
    · exact .refl s
    · exact addsNoTrace_fill hk dest [] s
  have hoffer : AddsNoTrace s (s.setBus (s.bus.offerReport k dest)) := by
    unfold Bus.offerReport
    split
    · exact .refl s
    · split
      · split
        · split
          · exact .refl s
          · exact fun g hg => .inl hg
        · exact hfill
      · exact hfill
  exact .ite hoffer (.refl s)

theorem addsNoTrace_setClaim (iv : Interval) (s : State) : AddsNoTrace s (setClaim iv s) :=
  .ite (.refl s) (addsNoTrace_offerReport (by decide) _ (s.setGuard _))

theorem addsNoTrace_setAnnounce (n : Option Interval) (s : State) : AddsNoTrace s (setAnnounce n s) :=
  .ite (.refl s) (addsNoTrace_offerReport (by decide) _ (s.setGuard _))

theorem addsNoTrace_checkBeyond (side : Side) (n : Interval) (s : State) : AddsNoTrace s (checkBeyond side n s) := by
  have hwait : AddsNoTrace s (enterWait side s) := (addsNoTrace_setAnnounce none s).then_same rfl
  unfold checkBeyond
  split
  · exact (addsNoTrace_setClaim n s).then_same rfl
  · split
    · exact hwait
    · exact .ite hwait ((addsNoTrace_setAnnounce (some n) s).then_same rfl)

theorem addsNoTrace_beginCheck (sp : Setpoint) (s : State) : AddsNoTrace s (beginCheck sp s) := by
  obtain h | ⟨side, n, h⟩ := beginCheck_cases sp s
  · exact .same (h ▸ rfl)
  · exact h ▸ addsNoTrace_checkBeyond side n (s.setGuard _)

theorem addsNoTrace_abandonCheck (s : State) : AddsNoTrace s (abandonCheck s) := by
  refine .ite (.refl s) ((addsNoTrace_setAnnounce none s).trans ?_)
  exact .ite (addsNoTrace_setClaim _ (State.setGuard _ _)) (.refl _)

theorem addsNoTrace_checkAndIssue {sp : Setpoint} (hfree : s.guard.isFree = true) (horigin : sp.origin ≠ .entry) :
    AddsNoTrace s (checkAndIssue sp s) := by
  obtain h | h := checkAndIssue_cases (sp := sp) ((isFree_iff _).1 hfree).2
  · exact h ▸ addsNoTrace_beginCheck sp s
  · rw [h, issue_of_no_entry horigin]
    exact (addsNoTrace_beginCheck sp s).then_same rfl

theorem addsNoTrace_offerCredit (s : State) : AddsNoTrace s (offerCredit s) := by
  unfold offerCredit
  split
  · exact addsNoTrace_offerReport (by decide) _ (s.setPq _)
  · exact .refl s

theorem addsNoTrace_closingDone (c : ClosingLift) (s : State) : AddsNoTrace s (closingDone c s) := by
  have hend : AddsNoTrace s (endDrain (spindleOff s)) := .ite (addsNoTrace_offerCredit (setStation _ _)) (.refl _)
  exact .ite hend (.refl _)

theorem addsNoTrace_pumpPort (s : State) : AddsNoTrace s (pumpPort s) := by
  have hclosing : AddsNoTrace s (pumpClosing s) := by
    obtain h | ⟨c, m, h⟩ | ⟨hfree, sp, m, horigin, h⟩ := pumpClosing_cases s
    · exact .same (by rw [h])
    · exact h ▸ addsNoTrace_closingDone c (s.setMotion m)
    · exact h ▸ addsNoTrace_checkAndIssue (s := s.setMotion m) hfree horigin
  have hport (x : State) : AddsNoTrace x (pumpPortLift x) := by
    unfold pumpPortLift
    split
    · exact .refl x
    case h_2 l _ =>
      split_ifs with hgo
      · simp only [Bool.and_eq_true] at hgo
        exact addsNoTrace_checkAndIssue (s := x.setMotion _) hgo.2 (origin_ne_entry l)
      · exact .refl x
  have hmoves (x : State) : AddsNoTrace x (pumpMoves x) := by
    unfold pumpMoves
    split
    · exact .ite (addsNoTrace_beginCheck _ (x.setMotion _)) (.refl x)
    · exact .refl x
  exact (hclosing.trans (hport _)).trans (hmoves _)

/-! ## What the closing lift leaves at the Guard (R180, R185) -/

/-- A setpoint at the check or passed is a closing lift. -/
def OnlyClosingLift (g : Guard) : Prop :=
  (∀ sp, g.atCheck = some sp → ∃ l, sp.origin = .closingLift l) ∧ ∀ sp, g.passed = some sp → ∃ l, sp.origin = .closingLift l

theorem onlyClosingLift_of_free {g : Guard} (h : g.isFree = true) : OnlyClosingLift g := by
  obtain ⟨hcheck, hpassed⟩ := (isFree_iff g).1 h
  exact ⟨fun sp hsp => by simp [hcheck] at hsp, fun sp hsp => by simp [hpassed] at hsp⟩

theorem atCheck_checkBeyond_cases (side : Side) (n : Interval) (s : State) :
    (checkBeyond side n s).guard.atCheck = none ∨ (checkBeyond side n s).guard.atCheck = s.guard.atCheck := by
  unfold checkBeyond
  split
  · exact .inl rfl
  · split
    · exact .inr (by simp)
    · split <;> exact .inr (by simp)

theorem atCheck_beginCheck_cases (sp : Setpoint) (s : State) :
    (beginCheck sp s).guard.atCheck = none ∨ (beginCheck sp s).guard.atCheck = some sp := by
  obtain h | ⟨side, n, h⟩ := beginCheck_cases sp s
  · exact .inl (by rw [h]; rfl)
  · rw [h]
    exact atCheck_checkBeyond_cases side n (s.setGuard _)

theorem onlyClosingLift_checkAndIssue {sp : Setpoint} {l : ClosingLift} (hfree : s.guard.isFree = true)
    (horigin : sp.origin = .closingLift l) : OnlyClosingLift (checkAndIssue sp s).guard := by
  have hpassed : s.guard.passed = none := ((isFree_iff _).1 hfree).2
  have hcheck (x : Setpoint) (hx : (beginCheck sp s).guard.atCheck = some x) : ∃ l, x.origin = .closingLift l := by
    obtain h | h := atCheck_beginCheck_cases sp s
    · simp [h] at hx
    · exact ⟨l, by rw [← Option.some.inj (h.symm.trans hx), horigin]⟩
  obtain h | h := checkAndIssue_cases (sp := sp) hpassed
  · rw [h]
    refine ⟨hcheck, fun x hx => ?_⟩
    obtain h | h := passed_beginCheck_cases sp s
    · exact ⟨l, by rw [← Option.some.inj (h.symm.trans hx), horigin]⟩
    · simp [h, hpassed] at hx
  · rw [h, issue_of_no_entry (by simp [horigin])]
    exact ⟨hcheck, fun x hx => by simp at hx⟩

theorem onlyClosingLift_pumpPort (hfree : s.guard.isFree = true) (hport : s.motion.portLift = none)
    (hwaiting : s.motion.waiting = []) : OnlyClosingLift (pumpPort s).guard := by
  rw [pumpPort, pumpMoves_of_no_move (by simpa using hwaiting), pumpLifts_of_no_portLift hport]
  unfold pumpClosing
  split
  · exact onlyClosingLift_of_free hfree
  · split_ifs
    · exact onlyClosingLift_of_free (by simpa using hfree)
    · exact onlyClosingLift_checkAndIssue (s := s.setMotion _) hfree rfl
    · exact onlyClosingLift_of_free hfree

/-! ## The record discarded (R49) -/

theorem job_discardJob (s : State) : (discardJob s).job =
    { s.job with state := .idle, record := none, assembly := none, finishing := false } := rfl

theorem motion_discardJob (s : State) : (discardJob s).motion =
    { s.motion with highTimer := none, lowTimer := none, stallTimer := none } := by
  simp [discardJob, setStation, refreshLoad, State.loadWatched, State.isRunning, runWhile]

theorem discardJob_unchangedBut (s : State) : UnchangedBut [.job, .motion] s (discardJob s) := by
  intro b hb
  cases b <;> simp [Block.same, discardJob] at hb ⊢

/-- Where the last half-widths are those of the record, the carriage is as wide without it (R35, R177). -/
theorem sameForClosingLift_discardJob {r : JobRecord} (hr : s.job.record = some r)
    (hkept : s.job.halfLeft = r.halfLeft ∧ s.job.halfRight = r.halfRight) : SameForClosingLift s (discardJob s) := by
  have hocc : (discardJob s).occupied = s.occupied := by
    obtain ⟨hleft, hright⟩ := hkept
    simp [State.occupied, State.intervalAt, State.halfWidths, hr, hleft, hright, discardJob]
  have hmotion := motion_discardJob s
  refine ⟨rfl, rfl, by rw [hmotion], by rw [hmotion], by rw [hmotion], by rw [hmotion], by rw [hmotion], fun _ _ hin => ?_⟩
  rw [hocc]
  exact hin

/-! ## A tracer's stream ended (R15, R73, R90) -/

/-- The Generator, the Pacer and the moves of a tracer whose stream ends, before its check is dropped (R73, R90). -/
def streamDropped (s : State) : State :=
  (((s.setGen s.gen.ended).setPacer s.pacer.ended).setBus s.bus.withdrawTraces).setMotion
    { s.motion with held := [], waiting := [] }

theorem endStream_eq (s : State) : endStream s = abandonCheck (streamDropped s) := rfl

theorem streamDropped_unchangedBut (s : State) : UnchangedBut [.bus, .gen, .pacer, .motion] s (streamDropped s) := by
  intro b hb
  cases b <;> simp [Block.same, streamDropped] at hb ⊢

theorem endStream_unchangedBut (s : State) : UnchangedBut [.bus, .gen, .pacer, .motion, .guard] s (endStream s) :=
  ((streamDropped_unchangedBut s).mono (by decide)).trans ((abandonCheck_unchangedBut _).mono (by decide))

theorem gen_endStream (s : State) : (endStream s).gen = s.gen.ended :=
  abandonCheck_unchangedBut (streamDropped s) .gen (by decide)

theorem pacer_endStream (s : State) : (endStream s).pacer = s.pacer.ended :=
  abandonCheck_unchangedBut (streamDropped s) .pacer (by decide)

theorem motion_endStream (s : State) : (endStream s).motion = { s.motion with held := [], waiting := [] } :=
  abandonCheck_unchangedBut (streamDropped s) .motion (by decide)

theorem noTrace_endStream (s : State) : ∀ g ∈ (endStream s).bus.queue, g.kind ≠ .trace := by
  intro g hg
  obtain h | h := addsNoTrace_abandonCheck (streamDropped s) g hg
  · have hkept : g ∈ s.bus.queue.filter fun f => f.kind != .trace := h
    simpa using (List.mem_filter.1 hkept).2
  · exact h

theorem sameForClosingLift_endStream (h : SameForClosingLift s v) : SameForClosingLift s (endStream v) :=
  SameForClosingLift.abandonCheck ⟨h.inputs, h.sensedLow, h.outstanding, h.nextTag, h.reference, h.refArrived, h.halt,
    h.claim⟩

theorem sameForClosingLift_endTracing (h : SameForClosingLift s v) : SameForClosingLift s (endTracing v) :=
  sameForClosingLift_endStream ⟨h.inputs, h.sensedLow, h.outstanding, h.nextTag, h.reference, h.refArrived, h.halt,
    h.claim⟩

/-- In a station that does not run, a freed place goes to a JOIN that is due, or to nothing (R14). -/
theorem placeFreed_of_not_running (h : s.isRunning = false) :
    placeFreed s = s ∨ ∃ answer, placeFreed s = offerJoin answer s := by
  have hgate : s.gateOpen = false := by simp [State.gateOpen, h]
  simp only [placeFreed, h, hgate, Bool.and_false, Bool.false_and, Bool.false_eq_true, if_false]
  split
  case h_1 answer _ =>
    split
    · exact .inr ⟨answer, rfl⟩
    · exact .inl rfl
  · exact .inl rfl

theorem offerJoin_unchangedBut (answer : Bool) (s : State) : UnchangedBut [.bus, .roster] s (offerJoin answer s) := by
  intro b hb
  cases b <;> simp [Block.same] at hb ⊢

theorem placeFreed_unchangedBut_of_not_running (h : s.isRunning = false) :
    UnchangedBut [.bus, .roster] s (placeFreed s) := by
  obtain h | ⟨answer, h⟩ := placeFreed_of_not_running h
  · rw [h]
    exact UnchangedBut.refl _ s
  · rw [h]
    exact offerJoin_unchangedBut answer s

theorem addsNoTrace_placeFreed_of_not_running (h : s.isRunning = false) : AddsNoTrace s (placeFreed s) := by
  obtain h | ⟨answer, h⟩ := placeFreed_of_not_running h
  · exact .same (by rw [h])
  · rw [h]
    exact .ite ((addsNoTrace_fill (by decide) _ _ s).then_same rfl) (.same rfl)

/-! ## ABORT by role (R49) -/

section

variable {f : Frame} {r : JobRecord} {c : CarverJob} {w : TracerJob}

theorem takeAbort_of_taken
    (hstate : s.job.state ∈ [.loading, .armed, .running, .stopped, .suspended, .excused, .done])
    (hid : u16At f.payload 0 = 0 ∨ s.holdsId (u16At f.payload 0) = true ∨ s.assemblesId (u16At f.payload 0) = true) :
    takeAbort f s = abortJob s := by
  have habort : s.job.state.abortable = true := by
    simp only [List.mem_cons, List.not_mem_nil, or_false] at hstate
    obtain h | h | h | h | h | h | h := hstate <;> rw [h] <;> rfl
  have hconcerns : (f.jobId == 0 || s.holdsId f.jobId || s.assemblesId f.jobId) = true := by
    obtain h | h | h := hid <;> simp [Frame.jobId, h]
  simp [takeAbort, habort, hconcerns]

/-- A closing lift falls due unless the station was STOPPED (R49, R168). -/
def dueUnlessStopped (old : StationState) (lift : ClosingLift) (s : State) : State :=
  if old = .stopped then s else closingDue lift s

theorem dueUnlessStopped_unchangedBut (old : StationState) (lift : ClosingLift) (s : State) :
    UnchangedBut [.motion] s (dueUnlessStopped old lift s) := by
  unfold dueUnlessStopped
  split
  · exact UnchangedBut.refl _ s
  · exact setMotion_unchangedBut _ _

theorem waiting_dueUnlessStopped (old : StationState) (lift : ClosingLift) (s : State) :
    (dueUnlessStopped old lift s).motion.waiting = s.motion.waiting := by
  unfold dueUnlessStopped
  split <;> rfl

theorem portLift_dueUnlessStopped {old : StationState} (h : old ≠ .stopped) (lift : ClosingLift) (s : State) :
    (dueUnlessStopped old lift s).motion.portLift = none := by
  rw [dueUnlessStopped, if_neg h]
  rfl

/-- The CREDIT of the change to IDLE, unless the carver was ARMED (R117). -/
def creditUnlessArmed (old : StationState) (dest : Byte) (s : State) : State :=
  if old = .armed then s else offerCreditTo dest s

theorem offerCreditTo_unchangedBut (dest : Byte) (s : State) : UnchangedBut [.bus, .pq] s (offerCreditTo dest s) := by
  intro b hb
  cases b <;> simp [Block.same] at hb ⊢

theorem creditUnlessArmed_unchangedBut (old : StationState) (dest : Byte) (s : State) :
    UnchangedBut [.bus, .pq] s (creditUnlessArmed old dest s) := by
  unfold creditUnlessArmed
  split
  · exact UnchangedBut.refl _ s
  · exact offerCreditTo_unchangedBut dest s

theorem keeps_creditUnlessArmed (old : StationState) (dest : Byte) (s : State) :
    (creditUnlessArmed old dest s).bus.rx = s.bus.rx ∧ (creditUnlessArmed old dest s).bus.sensedLow = s.bus.sensedLow ∧
      (creditUnlessArmed old dest s).pq.posted = s.pq.posted ∧ (creditUnlessArmed old dest s).pq.free = s.pq.free ∧
      (creditUnlessArmed old dest s).pq.issued = s.pq.issued ∧
      (creditUnlessArmed old dest s).pq.released = s.pq.released := by
  unfold creditUnlessArmed
  split <;> simp

theorem exists_credit_creditUnlessArmed {old : StationState} (h : old ≠ .armed) (hmute : s.bus.mute = false)
    (hstate : s.job.state ∉ [.held, .starting]) (dest : Byte) :
    ∃ g ∈ (creditUnlessArmed old dest s).bus.places, g.kind = .credit := by
  have hcan (q : PathQueue) : (s.setPq q).canOffer = true := (canOffer_iff s).2 hstate
  have hbus : (creditUnlessArmed old dest s).bus = s.bus.offerReport .credit dest := by
    simp [creditUnlessArmed, h, offerCreditTo, offerReport, hcan]
  rw [hbus]
  exact Bus.exists_place_offerReport hmute _ _

/-- The carver IDLE with its work ended and its retract due, before the port goes on (R49, R168). -/
def carverAborted (c : CarverJob) (s : State) : State :=
  creditUnlessArmed s.job.state (byteOf c.tracer)
    (dueUnlessStopped s.job.state (s.retract false) (endWork (discardJob s)))

theorem abortCarver_eq (c : CarverJob) (s : State) : abortCarver c s = pumpPort (carverAborted c s) := rfl

/-- The tracer IDLE with its stream ended and its park due, before the port goes on (R90, R168). -/
def tracerAborted (s : State) : State :=
  dueUnlessStopped s.job.state (park s) (endTracing (discardJob s))

theorem carverAborted_unchangedBut (c : CarverJob) (s : State) :
    UnchangedBut [.seed, .bus, .job, .pq, .map, .seq, .motion, .guard] s (carverAborted c s) :=
  ((((discardJob_unchangedBut s).mono (by decide)).trans ((endWork_unchangedBut _).mono (by decide))).trans
    ((dueUnlessStopped_unchangedBut _ _ _).mono (by decide))).trans ((creditUnlessArmed_unchangedBut _ _ _).mono (by decide))

theorem job_carverAborted (c : CarverJob) (s : State) : (carverAborted c s).job =
    { s.job with state := .idle, record := none, assembly := none, finishing := false } := by
  have hcredit := creditUnlessArmed_unchangedBut s.job.state (byteOf c.tracer)
    (dueUnlessStopped s.job.state (s.retract false) (endWork (discardJob s))) .job (by decide)
  have hlift := dueUnlessStopped_unchangedBut s.job.state (s.retract false) (endWork (discardJob s)) .job (by decide)
  exact ((hcredit.trans hlift).trans (endWork_unchangedBut _ .job (by decide))).trans (job_discardJob s)

theorem endTracing_unchangedBut (s : State) :
    UnchangedBut [.bus, .gen, .pacer, .store, .motion, .guard] s (endTracing s) := by
  have hstore : UnchangedBut [.store] s (s.setStore TraceStore.afterReset) := by
    intro b hb
    cases b <;> simp [Block.same] at hb ⊢
  exact (hstore.mono (by decide)).trans ((endStream_unchangedBut _).mono (by decide))

theorem tracerAborted_unchangedBut (s : State) :
    UnchangedBut [.bus, .job, .gen, .pacer, .store, .motion, .guard] s (tracerAborted s) :=
  (((discardJob_unchangedBut s).mono (by decide)).trans ((endTracing_unchangedBut _).mono (by decide))).trans
    ((dueUnlessStopped_unchangedBut _ _ _).mono (by decide))

theorem job_tracerAborted (s : State) : (tracerAborted s).job =
    { s.job with state := .idle, record := none, assembly := none, finishing := false } :=
  ((dueUnlessStopped_unchangedBut s.job.state (park s) (endTracing (discardJob s)) .job (by decide)).trans
    (endTracing_unchangedBut _ .job (by decide))).trans (job_discardJob s)

/-- An IDLE station with no record has no drain to end. -/
theorem pumpPort_unchangedBut_of_discarded (h : s.job.finishing = false) :
    UnchangedBut [.bus, .motion, .guard] s (pumpPort s) :=
  pumpPort_unchangedBut_of_no_drain (not_draining_of_not_finishing h)

theorem isRunning_of_idle (h : s.job.state = .idle) : s.isRunning = false := by simp [State.isRunning, h]

theorem job_abortCarver (c : CarverJob) (s : State) : (abortCarver c s).job =
    { s.job with state := .idle, record := none, assembly := none, finishing := false } := by
  have hgoes := pumpPort_unchangedBut_of_discarded (s := carverAborted c s) (by rw [job_carverAborted])
  exact (hgoes .job (by decide)).trans (job_carverAborted c s)

theorem pumped_tracerAborted_job (s : State) : (pumpPort (tracerAborted s)).job =
    { s.job with state := .idle, record := none, assembly := none, finishing := false } := by
  have hgoes := pumpPort_unchangedBut_of_discarded (s := tracerAborted s) (by rw [job_tracerAborted])
  exact (hgoes .job (by decide)).trans (job_tracerAborted s)

theorem abortTracer_unchangedBut (s : State) : UnchangedBut [.bus, .roster] (pumpPort (tracerAborted s)) (abortTracer s) :=
  placeFreed_unchangedBut_of_not_running (isRunning_of_idle (by rw [pumped_tracerAborted_job]))

theorem job_abortTracer (s : State) : (abortTracer s).job =
    { s.job with state := .idle, record := none, assembly := none, finishing := false } :=
  (abortTracer_unchangedBut s .job (by decide)).trans (pumped_tracerAborted_job s)

/-! ## ABORT in LOADING (R49) -/

/-- The tracer's stream ended in LOADING, its job-start lift dropped with the record (log entries 55 and 66). -/
def loadingDropped (s : State) : State :=
  endStream ((discardJob s).setMotion { (discardJob s).motion with portLift := none })

theorem abortLoading_of_carver (hrole : s.straps.role = .carver) : abortLoading s = abandonCheck (discardJob s) := by
  have hrole' : (discardJob s).straps.role = .carver := hrole
  simp only [abortLoading, hrole']

theorem abortLoading_of_tracer (hrole : s.straps.role = .tracer) : abortLoading s = placeFreed (loadingDropped s) := by
  have hrole' : (discardJob s).straps.role = .tracer := hrole
  simp only [abortLoading, hrole']
  rfl

theorem job_loadingDropped (s : State) : (loadingDropped s).job =
    { s.job with state := .idle, record := none, assembly := none, finishing := false } :=
  endStream_unchangedBut _ .job (by decide)

theorem motion_loadingDropped (s : State) : (loadingDropped s).motion = { s.motion with
    highTimer := none, lowTimer := none, stallTimer := none, held := [], waiting := [], portLift := none } := by
  rw [loadingDropped, motion_endStream]
  show { ({ (discardJob s).motion with portLift := none } : Motion) with held := [], waiting := [] } = _
  rw [motion_discardJob]

theorem loadingDropped_unchangedBut (s : State) :
    UnchangedBut [.bus, .job, .gen, .pacer, .motion, .guard] s (loadingDropped s) :=
  (((discardJob_unchangedBut s).mono (by decide)).trans ((setMotion_unchangedBut _ _).mono (by decide))).trans
    ((endStream_unchangedBut _).mono (by decide))

/-- What a check dropped leaves of the Guard, told of the state it stood in. -/
def CheckDropped (g h : Guard) : Prop :=
  h.atCheck = none ∧ h.passed = none ∧ (g.atCheck = none → g.passed = none → h = g) ∧
    (g.atCheck ≠ none ∨ g.passed ≠ none → h.phase = .none ∧ h.announce = none)

theorem checkDropped_abandonCheck (s : State) : CheckDropped s.guard (abandonCheck s).guard := by
  obtain ⟨hcheck, hpassed, hbusy, hfree, -⟩ := guard_abandonCheck s
  exact ⟨hcheck, hpassed, fun h h' => by rw [hfree h h'], hbusy⟩

theorem checkDropped_endStream (s : State) : CheckDropped s.guard (endStream s).guard := by
  have h := checkDropped_abandonCheck (streamDropped s)
  rwa [(streamDropped_unchangedBut s .guard (by decide) : _ = s.guard), ← endStream_eq] at h

theorem checkDropped_loadingDropped (s : State) : CheckDropped s.guard (loadingDropped s).guard := by
  have hframe : UnchangedBut [.job, .motion] s
      ((discardJob s).setMotion { (discardJob s).motion with portLift := none }) :=
    (discardJob_unchangedBut s).trans ((setMotion_unchangedBut _ _).mono (by decide))
  have h := checkDropped_endStream ((discardJob s).setMotion { (discardJob s).motion with portLift := none })
  rwa [(hframe .guard (by decide) : _ = s.guard)] at h

theorem placeFreed_loadingDropped_unchangedBut (s : State) :
    UnchangedBut [.bus, .roster] (loadingDropped s) (placeFreed (loadingDropped s)) :=
  placeFreed_unchangedBut_of_not_running (isRunning_of_idle (by rw [job_loadingDropped]))

theorem job_abortLoading (s : State) : (abortLoading s).job =
    { s.job with state := .idle, record := none, assembly := none, finishing := false } := by
  cases hrole : s.straps.role with
  | carver =>
    rw [abortLoading_of_carver hrole]
    exact (abandonCheck_unchangedBut _ .job (by decide)).trans (job_discardJob s)
  | tracer =>
    rw [abortLoading_of_tracer hrole]
    exact (placeFreed_loadingDropped_unchangedBut s .job (by decide)).trans (job_loadingDropped s)

theorem guard_abortLoading (s : State) : CheckDropped s.guard (abortLoading s).guard := by
  cases hrole : s.straps.role with
  | carver =>
    rw [abortLoading_of_carver hrole]
    exact checkDropped_abandonCheck (discardJob s)
  | tracer =>
    rw [abortLoading_of_tracer hrole, (placeFreed_loadingDropped_unchangedBut s .guard (by decide) : _ = _)]
    exact checkDropped_loadingDropped s

theorem abortJob_of_loading (h : s.job.state = .loading) : abortJob s = abortLoading s := if_pos h

theorem abortJob_of_carver (h : s.job.state ≠ .loading) (hc : s.carverJob = some c) : abortJob s = abortCarver c s := by
  simp [abortJob, h, hc]

theorem abortJob_of_no_carver (h : s.job.state ≠ .loading) (hc : s.carverJob = none) : abortJob s = abortTracer s := by
  simp [abortJob, h, hc]

theorem job_abortJob (s : State) : (abortJob s).job =
    { s.job with state := .idle, record := none, assembly := none, finishing := false } := by
  by_cases h : s.job.state = .loading
  · rw [abortJob_of_loading h, job_abortLoading]
  · cases hc : s.carverJob with
    | some c => rw [abortJob_of_carver h hc, job_abortCarver]
    | none => rw [abortJob_of_no_carver h hc, job_abortTracer]

/-- The Guard after an ABORT that is not taken in LOADING or STOPPED holds the closing lift at most. -/
theorem onlyClosingLift_abortJob (hloading : s.job.state ≠ .loading) (hstopped : s.job.state ≠ .stopped)
    (hwaiting : s.motion.waiting = []) : OnlyClosingLift (abortJob s).guard := by
  cases hc : s.carverJob with
  | some c =>
    rw [abortJob_of_carver hloading hc, abortCarver_eq]
    have hcredit := creditUnlessArmed_unchangedBut s.job.state (byteOf c.tracer)
      (dueUnlessStopped s.job.state (s.retract false) (endWork (discardJob s)))
    have hmotion := hcredit .motion (by decide)
    have hguard := (hcredit .guard (by decide)).trans
      (dueUnlessStopped_unchangedBut s.job.state (s.retract false) (endWork (discardJob s)) .guard (by decide))
    have hwork : (endWork (discardJob s)).motion = (discardJob s).motion := endWork_unchangedBut _ .motion (by decide)
    refine onlyClosingLift_pumpPort ?_ ?_ ?_
    · exact (congrArg Guard.isFree hguard).trans (isFree_abandonCheck _)
    · exact (congrArg Motion.portLift hmotion).trans (portLift_dueUnlessStopped hstopped _ _)
    · refine (congrArg Motion.waiting hmotion).trans ((waiting_dueUnlessStopped _ _ _).trans ?_)
      rw [hwork, motion_discardJob]
      exact hwaiting
  | none =>
    rw [abortJob_of_no_carver hloading hc, (abortTracer_unchangedBut s .guard (by decide) : _ = _)]
    have hguard := dueUnlessStopped_unchangedBut s.job.state (park s) (endTracing (discardJob s)) .guard (by decide)
    refine onlyClosingLift_pumpPort ?_ (portLift_dueUnlessStopped hstopped _ _) ?_
    · exact (congrArg Guard.isFree hguard).trans (isFree_abandonCheck _)
    · refine (waiting_dueUnlessStopped _ _ _).trans ?_
      rw [endTracing, motion_endStream]

/-- What an ABORT taken in LOADING leaves (R49; log entries 55 and 66). -/
theorem abortLoading_spec (s : State) :
    let still : Motion := { s.motion with highTimer := none, lowTimer := none, stallTimer := none }
    (s.straps.role = .carver → (abortLoading s).motion = still ∧
      UnchangedBut [.bus, .job, .motion, .guard] s (abortLoading s) ∧
      (s.guard.atCheck = none → s.guard.passed = none → (abortLoading s).bus = s.bus)) ∧
    (s.straps.role = .tracer →
      (abortLoading s).gen = s.gen.ended ∧ (abortLoading s).pacer = s.pacer.ended ∧
      (∀ g ∈ (abortLoading s).bus.queue, g.kind ≠ .trace) ∧
      (abortLoading s).motion = { still with held := [], waiting := [], portLift := none } ∧
      UnchangedBut [.bus, .roster, .job, .gen, .pacer, .motion, .guard] s (abortLoading s)) := by
  refine ⟨fun hrole => ?_, fun hrole => ?_⟩
  · rw [abortLoading_of_carver hrole]
    have habandon := abandonCheck_unchangedBut (discardJob s)
    refine ⟨(habandon .motion (by decide)).trans (motion_discardJob s),
      ((discardJob_unchangedBut s).mono (by decide)).trans (habandon.mono (by decide)), fun hcheck hpassed => ?_⟩
    have hfree : (discardJob s).guard.isFree = true := (isFree_iff _).2 ⟨hcheck, hpassed⟩
    rw [abandonCheck_of_free hfree]
    rfl
  · rw [abortLoading_of_tracer hrole]
    have hfreed := placeFreed_loadingDropped_unchangedBut s
    have hidle : (loadingDropped s).isRunning = false := isRunning_of_idle (by rw [job_loadingDropped])
    refine ⟨(hfreed .gen (by decide)).trans (gen_endStream _), (hfreed .pacer (by decide)).trans (pacer_endStream _),
      fun g hg => ?_, (hfreed .motion (by decide)).trans (motion_loadingDropped s),
      ((loadingDropped_unchangedBut s).mono (by decide)).trans (hfreed.mono (by decide))⟩
    exact (addsNoTrace_placeFreed_of_not_running hidle g hg).elim (noTrace_endStream _ g) id

/-- What an ABORT leaves of a carver's job (R49, R114). -/
theorem abortCarver_spec (hr : s.job.record = some r) :
    WorkEnded s (abortCarver c s) ∧
    (s.job.state ≠ .armed → s.bus.mute = false → ∃ g ∈ (abortCarver c s).bus.places, g.kind = .credit) ∧
    (s.job.state = .stopped → s.motion.closing = none → s.motion.portLift = none →
      (abortCarver c s).motion.closing = none ∧ (abortCarver c s).motion.outstanding = s.motion.outstanding) ∧
    (s.job.state ≠ .stopped → s.job.halfLeft = r.halfLeft ∧ s.job.halfRight = r.halfRight →
      ClosingLiftFallsDue ⟨r.clearance, r.feeds.lift, .lift, false⟩ s (abortCarver c s)) ∧
    UnchangedBut [.seed, .bus, .job, .pq, .map, .seq, .motion, .guard] s (abortCarver c s) := by
  let x := endWork (discardJob s)
  let y := dueUnlessStopped s.job.state (s.retract false) x
  let z := carverAborted c s
  have hy : UnchangedBut [.motion] x y := dueUnlessStopped_unchangedBut _ _ _
  have hz : UnchangedBut [.bus, .pq] y z := creditUnlessArmed_unchangedBut _ _ _
  have hgoes : UnchangedBut [.bus, .motion, .guard] z (pumpPort z) :=
    pumpPort_unchangedBut_of_discarded (by rw [job_carverAborted])
  have hxt : UnchangedBut [.bus, .pq, .motion, .guard] x (pumpPort z) :=
    ((hy.mono (by decide)).trans (hz.mono (by decide))).trans (hgoes.mono (by decide))
  have hkeeps : z.bus.rx = y.bus.rx ∧ z.bus.sensedLow = y.bus.sensedLow ∧ z.pq.posted = y.pq.posted ∧
      z.pq.free = y.pq.free ∧ z.pq.issued = y.pq.issued ∧ z.pq.released = y.pq.released :=
    keeps_creditUnlessArmed s.job.state (byteOf c.tracer) y
  obtain ⟨-, hlow, hposted, hfree, hissued, hreleased⟩ := hkeeps
  have hpq : (pumpPort z).pq = z.pq := hgoes .pq (by decide)
  have hypq : y.pq = x.pq := hy .pq (by decide)
  obtain ⟨hnil, hgrown, hmarked, hlast, hphase, hsweep, hmap⟩ := workEnded_endWork (discardJob s)
  have hyjob : y.job = { s.job with state := .idle, record := none, assembly := none, finishing := false } :=
    (hy .job (by decide)).trans ((endWork_unchangedBut _ .job (by decide)).trans (job_discardJob s))
  rw [abortCarver_eq]
  refine ⟨⟨?_, ?_, ?_, ?_, ?_, ?_, fun h => ?_⟩, fun harmed hmute => ?_, fun hstopped hclosing hport => ?_,
    fun hstopped hkept => ?_, ?_⟩
  · rw [hpq, hposted, hypq]
    exact hnil
  · rw [hpq, hfree, hypq]
    exact hgrown
  · rw [hpq, hissued, hypq]
    exact hmarked
  · rw [hpq, hreleased, hypq]
    exact hlast
  · exact (hxt .seq (by decide)).trans hphase
  · exact (congrArg CutMap.sweeping (hxt .map (by decide))).trans hsweep
  · exact (hxt .map (by decide)).trans (hmap h)
  · have hymute : y.bus.mute = false := by
      rw [(hy .bus (by decide) : y.bus = x.bus)]
      simpa [x, endWork, discardJob] using hmute
    obtain ⟨g, hg, hcredit⟩ := exists_credit_creditUnlessArmed (s := y) harmed hymute (by rw [hyjob]; simp) (byteOf c.tracer)
    exact ⟨g, places_subset_pumpPort z hg, hcredit⟩
  · have hyx : y = x := if_pos hstopped
    have hzmotion : z.motion = (discardJob s).motion := by
      rw [(hz .motion (by decide) : z.motion = y.motion), hyx]
      exact endWork_unchangedBut _ .motion (by decide)
    rw [motion_discardJob] at hzmotion
    obtain ⟨hnone, hout⟩ := motion_pumpPort_of_no_lifts (s := z) (by rw [hzmotion]; exact hclosing)
      (by rw [hzmotion]; exact hport)
    exact ⟨hnone, by rw [hout, hzmotion]⟩
  · have hyx : y = closingDue ⟨r.clearance, r.feeds.lift, .lift, false⟩ x := by
      rw [← retract_of_record hr]
      exact if_neg hstopped
    exact closingLiftFallsDue_pumpPort (sameForClosingLift_endWork (sameForClosingLift_discardJob hr hkept))
      (isFree_abandonCheck _) (by simp [endWork, job_discardJob]) (by rw [← hyx]; exact hz) (by
        rw [hlow, (hy .bus (by decide) : y.bus = x.bus)])
  · exact (carverAborted_unchangedBut c s).trans (hgoes.mono (by decide))

theorem park_of_record (hr : s.job.record = some r) : park s = ⟨r.clearance, r.feeds.rapid, .rapid, false⟩ := by
  simp [park, hr]

/-- What an ABORT leaves of a tracer's job (R49, R90, R93). -/
theorem abortTracer_spec (hr : s.job.record = some r) :
    (abortTracer s).gen = s.gen.ended ∧ (abortTracer s).pacer = s.pacer.ended ∧
    (abortTracer s).store = TraceStore.afterReset ∧ (abortTracer s).motion.held = [] ∧
    (abortTracer s).motion.waiting = [] ∧ (∀ g ∈ (abortTracer s).bus.queue, g.kind ≠ .trace) ∧
    (s.job.state = .stopped → s.motion.closing = none → s.motion.portLift = none →
      (abortTracer s).motion.closing = none ∧ (abortTracer s).motion.outstanding = s.motion.outstanding) ∧
    (s.job.state ≠ .stopped → s.job.halfLeft = r.halfLeft ∧ s.job.halfRight = r.halfRight →
      ClosingLiftFallsDue ⟨r.clearance, r.feeds.rapid, .rapid, false⟩ s (abortTracer s)) ∧
    UnchangedBut [.bus, .roster, .job, .gen, .pacer, .store, .motion, .guard] s (abortTracer s) := by
  let x := endTracing (discardJob s)
  let y := tracerAborted s
  have hy : UnchangedBut [.motion] x y := dueUnlessStopped_unchangedBut _ _ _
  have hgoes : UnchangedBut [.bus, .motion, .guard] y (pumpPort y) :=
    pumpPort_unchangedBut_of_discarded (by rw [job_tracerAborted])
  have hfreed := abortTracer_unchangedBut s
  have hmotion : (abortTracer s).motion = (pumpPort y).motion := hfreed .motion (by decide)
  have hxt : UnchangedBut [.bus, .roster, .motion, .guard] x (abortTracer s) :=
    ((hy.mono (by decide)).trans (hgoes.mono (by decide))).trans (hfreed.mono (by decide))
  have hxmotion : x.motion = { s.motion with
      highTimer := none, lowTimer := none, stallTimer := none, held := [], waiting := [] } := by
    refine (motion_endStream _).trans ?_
    show { (discardJob s).motion with held := [], waiting := [] } = _
    rw [motion_discardJob]
  have hywaiting : y.motion.waiting = [] := by rw [show y.motion.waiting = _ from waiting_dueUnlessStopped _ _ _, hxmotion]
  have hyheld : y.motion.held = [] := by
    have hheld : y.motion.held = x.motion.held := by
      simp only [y, tracerAborted, dueUnlessStopped]
      split <;> rfl
    rw [hheld, hxmotion]
  refine ⟨(hxt .gen (by decide)).trans (gen_endStream _), (hxt .pacer (by decide)).trans (pacer_endStream _),
    (hxt .store (by decide)).trans (endStream_unchangedBut _ .store (by decide)), ?_, ?_, fun g hg => ?_,
    fun hstopped hclosing hport => ?_, fun hstopped hkept => ?_, ?_⟩
  · rw [hmotion]
    simpa [pumpPort] using hyheld
  · have hmoves : (pumpLifts y).motion.waiting = [] := by simpa using hywaiting
    rw [hmotion, pumpPort, pumpMoves_of_no_move hmoves, hmoves]
  · have hybus : y.bus = x.bus := hy .bus (by decide)
    have hadds : AddsNoTrace x (abortTracer s) := (AddsNoTrace.same hybus).trans ((addsNoTrace_pumpPort y).trans
      (addsNoTrace_placeFreed_of_not_running (isRunning_of_idle (by rw [pumped_tracerAborted_job]))))
    exact (hadds g hg).elim (noTrace_endStream _ g) id
  · have hyx : y = x := if_pos hstopped
    obtain ⟨hnone, hout⟩ := motion_pumpPort_of_no_lifts (s := y) (by rw [hyx, hxmotion]; exact hclosing)
      (by rw [hyx, hxmotion]; exact hport)
    rw [hmotion]
    exact ⟨hnone, by rw [hout, hyx, hxmotion]⟩
  · have hyx : y = closingDue ⟨r.clearance, r.feeds.rapid, .rapid, false⟩ x := by
      rw [← park_of_record hr]
      exact if_neg hstopped
    have hdue : ClosingLiftFallsDue ⟨r.clearance, r.feeds.rapid, .rapid, false⟩ s (pumpPort y) :=
      closingLiftFallsDue_pumpPort (v := x) (sameForClosingLift_endTracing
        (sameForClosingLift_discardJob hr hkept))
        (isFree_abandonCheck _) (by
          rw [(endTracing_unchangedBut (discardJob s) .job (by decide) : x.job = _), job_discardJob]
          simp) (by rw [← hyx]; exact UnchangedBut.refl _ _) (by rw [hyx]; rfl)
    simpa only [ClosingLiftFallsDue, hmotion] using hdue
  · exact ((tracerAborted_unchangedBut s).mono (by decide)).trans
      ((hgoes.mono (by decide)).trans (hfreed.mono (by decide)))

/-- Settles O25: the job discarded in every state, what LOADING leaves, and each role's end of work. -/
theorem abortDiscardsTheJob : Obligations.AbortDiscardsTheJob := by
  intro s f rest hrx hk hstate hid
  let u := s.dropFrame rest
  have harm : exec .abort s = .next (takeFrame .abort takeAbort s) := rfl
  rw [takeFrame_of_front takeAbort hrx hk, takeAbort_of_taken (s := u) hstate hid] at harm
  have hu : UnchangedBut [.bus] s u := dropFrame_unchangedBut s rest
  refine ⟨abortJob u, harm, job_abortJob u, by simp [u], fun hloading => ?_, fun hloading r hr => ⟨?_, ?_, ?_⟩⟩
  · obtain ⟨hcheck, hpassed, hfree, hbusy⟩ := guard_abortLoading u
    obtain ⟨hcarver, htracer⟩ := abortLoading_spec u
    rw [abortJob_of_loading (s := u) hloading]
    refine ⟨hcheck, hpassed, hfree, hbusy, fun hrole => ?_, fun hrole => ?_⟩
    · obtain ⟨hmotion, hframe, hbus⟩ := hcarver hrole
      exact ⟨hmotion, (hu.mono (by decide)).trans hframe, hbus⟩
    · obtain ⟨hgen, hpacer, hqueue, hmotion, hframe⟩ := htracer hrole
      exact ⟨hgen, hpacer, hqueue, hmotion, (hu.mono (by decide)).trans hframe⟩
  · exact fun hstopped hwaiting => onlyClosingLift_abortJob (s := u) hloading hstopped hwaiting
  · intro c hc
    rw [abortJob_of_carver (s := u) hloading (carverJob_of_carver (s := u) hr hc)]
    obtain ⟨hended, hcredit, hstopped, hdue, hframe⟩ := abortCarver_spec (s := u) (c := c) hr
    exact ⟨hended.posted, hended.free, hended.issued, hended.released, hended.seq, hended.sweeping, hended.map, hcredit,
      hstopped, fun hnot hkept => hdue hnot hkept, (hu.mono (by decide)).trans (hframe.mono (by decide))⟩
  · intro w hw
    have hc : u.carverJob = none := by simp [State.carverJob, u, hr, hw]
    rw [abortJob_of_no_carver (s := u) hloading hc]
    obtain ⟨hgen, hpacer, hstore, hheld, hwaiting, hqueue, hstopped, hdue, hframe⟩ := abortTracer_spec (s := u) hr
    refine ⟨by rw [hgen]; rfl, by rw [hgen]; rfl, by rw [hgen]; rfl, by rw [hgen]; rfl, hpacer, hstore, hheld, hwaiting,
      hqueue, hstopped, fun hnot hkept => hdue hnot hkept, (hu.mono (by decide)).trans (hframe.mono (by decide))⟩

end

end Sys2Proof.Machine

/-! SUPPORT. The clamps of a valid job record (R41, R45, section 13.7). -/

namespace Sys2Proof.Machine

open Sys2Proof

/-! ## The plan read from its bytes (R44) -/

theorem all_true_of_firstFailure_none {checks : List (Bool × JobCode)} (h : firstFailure checks = none) :
    ∀ c ∈ checks, c.1 = true := by
  induction checks with
  | nil => simp
  | cons c rest ih =>
    obtain ⟨ok, code⟩ := c
    cases ok with
    | false => simp [firstFailure] at h
    | true => exact List.forall_mem_cons.2 ⟨rfl, ih h⟩

theorem planOk_of_valid {own id : Nat} {d : List Byte} (h : validate own .carver id d = none) :
    planOk (planAt d (69 + 2 * byteAt d 67) (byteAt d (68 + 2 * byteAt d 67))) = true :=
  all_true_of_firstFailure_none h
    (planOk (planAt d (69 + 2 * byteAt d 67) (byteAt d (68 + 2 * byteAt d 67))), .badPlan)
    (by simp only [roleChecks, carverChecks, List.mem_cons, true_or, or_true])

theorem map_some_reduceOption {α : Type} {l : List (Option α)} (h : ∀ o ∈ l, o ≠ none) :
    l.reduceOption.map some = l := by
  induction l with
  | nil => rfl
  | cons o l ih =>
    obtain ⟨ho, hl⟩ := List.forall_mem_cons.1 h
    obtain ⟨a, rfl⟩ := Option.ne_none_iff_exists'.1 ho
    simp [ih hl]

/-- Every step of a valid plan is read (R44). -/
theorem map_some_plan {own id : Nat} {d : List Byte} (h : validate own .carver id d = none) :
    (carverOf d).plan.map some = planAt d (69 + 2 * byteAt d 67) (byteAt d (68 + 2 * byteAt d 67)) := by
  refine map_some_reduceOption fun o ho hnone => ?_
  have hok := planOk_of_valid h
  rw [planOk, Bool.and_eq_true, List.all_eq_true] at hok
  have hentry := hok.2 o ho
  simp [hnone, planEntryOk] at hentry

theorem stepKindOf_eq_some {n : Nat} {k : StepKind} (h : stepKindOf n = some k) : k.code = n := by
  unfold stepKindOf at h
  split at h <;> simp at h <;> rw [← h] <;> rfl

theorem advanceOf_eq_some {n : Nat} {a : Advance} (h : advanceOf n = some a) :
    [Advance.count, .dry, .floor, .once][n]? = some a := by
  unfold advanceOf at h
  split at h <;> simp at h <;> rw [← h] <;> rfl

theorem planStepAt_eq_some {d : List Byte} {off : Nat} {p : PlanStep} (h : planStepAt d off = some p) :
    p.kind.code = byteAt d off ∧ p.first = lengthAt d (off + 1) ∧ p.delta = lengthAt d (off + 4) ∧
      p.last = lengthAt d (off + 7) ∧ p.cls = byteAt d (off + 10) ∧ p.limit = byteAt d (off + 11) ∧
      [Advance.count, .dry, .floor, .once][byteAt d (off + 12)]? = some p.advance := by
  unfold planStepAt at h
  split at h
  case h_1 kind advance hkind hadvance =>
    obtain rfl := Option.some.inj h
    exact ⟨stepKindOf_eq_some hkind, rfl, rfl, rfl, rfl, rfl, advanceOf_eq_some hadvance⟩
  case h_2 => simp at h

theorem planAt_getElem? {d : List Byte} {off n i : Nat} {o : Option PlanStep} (h : (planAt d off n)[i]? = some o) :
    o = planStepAt d (off + 13 * i) := by
  rw [planAt, List.getElem?_map, Option.map_eq_some_iff] at h
  obtain ⟨j, hj, rfl⟩ := h
  rw [List.getElem?_eq_some_iff] at hj
  obtain ⟨hlt, hj⟩ := hj
  rw [← hj, List.getElem_range]

theorem plan_getElem? {own id : Nat} {d : List Byte} (h : validate own .carver id d = none) {i : Nat} {p : PlanStep}
    (hp : (carverOf d).plan[i]? = some p) : planStepAt d (69 + 2 * byteAt d 67 + 13 * i) = some p := by
  have hmap : ((carverOf d).plan.map some)[i]? = some (some p) := by simp [hp]
  rw [map_some_plan h] at hmap
  exact (planAt_getElem? hmap).symm

theorem length_plan {own id : Nat} {d : List Byte} (h : validate own .carver id d = none) :
    (carverOf d).plan.length = byteAt d (68 + 2 * byteAt d 67) := by
  simpa [planAt] using congrArg List.length (map_some_plan h)

/-! ## The clamps (R45) -/

theorem bounded_eq (i : Int) : bounded 50 20000 i = if i < 50 then 50 else if 20000 < i then 20000 else i := by
  unfold bounded
  split_ifs <;> omega

theorem clampFeed_eq (n : Nat) : clampFeed n = if n < 10 then 10 else if 30000 < n then 30000 else n := by
  unfold clampFeed
  split_ifs <;> omega

theorem mem_listed {name x : ClampName} {changed : Bool} : x ∈ listed name changed ↔ x = name ∧ changed = true := by
  cases changed <;> simp [listed]

theorem listed_sublist (name : ClampName) (changed : Bool) : (listed name changed).Sublist [name] := by
  cases changed <;> simp [listed]

/-- The names a record's clamps may list, of either role. -/
theorem clamped_sublist (r : JobRecord) : ∃ name : ClampName, (name = .spacing ∨ name = .letterLimit) ∧
    r.clamp.clamped.Sublist ([name] ++ [.gap] ++ ([.cut] ++ [.plunge] ++ [.rapid] ++ [.lift]) ++ [.clearance]) := by
  have hfeeds : r.feeds.clamped.Sublist ([ClampName.cut] ++ [.plunge] ++ [.rapid] ++ [.lift]) :=
    (((listed_sublist _ _).append (listed_sublist _ _)).append (listed_sublist _ _)).append (listed_sublist _ _)
  have hrest (name : ClampName) {l : List ClampName} (hl : l.Sublist [name]) :=
    ((hl.append (listed_sublist .gap (max 5000 r.gap != r.gap))).append hfeeds).append
      (listed_sublist .clearance (min (-2000) r.clearance != r.clearance))
  cases hw : r.work with
  | tracer t => exact ⟨.spacing, .inl rfl, by simpa [JobRecord.clamp, hw, Work.clamp] using hrest .spacing (listed_sublist _ _)⟩
  | carver c => exact ⟨.letterLimit, .inr rfl, by simpa [JobRecord.clamp, hw, Work.clamp] using hrest .letterLimit (listed_sublist _ _)⟩

theorem nodup_clamped (r : JobRecord) : r.clamp.clamped.Nodup := by
  obtain ⟨name, hname, hsub⟩ := clamped_sublist r
  refine hsub.nodup ?_
  obtain rfl | rfl := hname <;> decide

theorem readRecord_common (role : Role) (id : Nat) (d : List Byte) :
    (readRecord role id d).id = id ∧ (readRecord role id d).halfLeft = lengthAt d 3 ∧
      (readRecord role id d).halfRight = lengthAt d 6 ∧ (readRecord role id d).gap = lengthAt d 9 ∧
      (readRecord role id d).xMin = lengthAt d 12 ∧ (readRecord role id d).xMax = lengthAt d 15 ∧
      (readRecord role id d).yMin = lengthAt d 18 ∧ (readRecord role id d).yMax = lengthAt d 21 ∧
      (readRecord role id d).clearance = lengthAt d 24 ∧
      (readRecord role id d).feeds = ⟨u16At d 27, u16At d 29, u16At d 31, u16At d 33⟩ := by
  cases role <;> exact ⟨rfl, rfl, rfl, rfl, rfl, rfl, rfl, rfl, rfl, rfl⟩

/-- A name is listed exactly when its clamp changed the record's value (R45). -/
theorem mem_clamped (role : Role) (id : Nat) (d : List Byte) (name : ClampName) :
    name ∈ (readRecord role id d).clamp.clamped ↔ (match name with
      | .spacing => role = .tracer ∧ bounded 50 20000 (lengthAt d 48) ≠ lengthAt d 48
      | .gap => max 5000 (lengthAt d 9) ≠ lengthAt d 9
      | .cut => clampFeed (u16At d 27) ≠ u16At d 27
      | .plunge => clampFeed (u16At d 29) ≠ u16At d 29
      | .rapid => clampFeed (u16At d 31) ≠ u16At d 31
      | .lift => clampFeed (u16At d 33) ≠ u16At d 33
      | .clearance => min (-2000) (lengthAt d 24) ≠ lengthAt d 24
      | .letterLimit => role = .carver ∧ min (lengthAt d 57) (lengthAt d 52) ≠ lengthAt d 57) := by
  cases role <;> cases name <;>
    simp [readRecord, recordOf, JobRecord.clamp, Work.clamp, Feeds.clamped, mem_listed, tracerOf, carverOf]

/-- Settles O23: the common fields, the role's own, and the list of clamps. -/
theorem recordsAreClamped : Obligations.RecordsAreClamped := by
  intro own role id d hvalid
  obtain ⟨hid, hleft, hright, hgap, hx0, hx1, hy0, hy1, hclearance, hfeeds⟩ := readRecord_common role id d
  dsimp only
  simp only [← clampFeed_eq, ← bounded_eq]
  refine ⟨hid, hleft, hright, ?_, hx0, hx1, hy0, hy1, ?_, ?_, fun hrole => ?_, fun hrole => ?_, nodup_clamped _,
    fun name => ?_⟩
  · show max 5000 (readRecord role id d).gap = _
    rw [hgap]
    split_ifs <;> omega
  · show min (-2000) (readRecord role id d).clearance = _
    rw [hclearance]
    split_ifs <;> omega
  · show (readRecord role id d).feeds.clamp = _
    rw [hfeeds]
    rfl
  · subst hrole
    show Work.tracer { tracerOf d with spacing := bounded 50 20000 (lengthAt d 48) } = _
    rfl
  · subst hrole
    refine ⟨{ carverOf d with letterLimit := min (lengthAt d 57) (lengthAt d 52) }, rfl, rfl, rfl, rfl, rfl, rfl, rfl, rfl,
      rfl, rfl, rfl, rfl, ?_, rfl, rfl, rfl, rfl, length_plan hvalid, fun i p hp => ?_⟩
    · show min (lengthAt d 57) (lengthAt d 52) = _
      split_ifs <;> omega
    · exact planStepAt_eq_some (plan_getElem? hvalid hp)
  · rw [mem_clamped]
    cases name <;> simp

end Sys2Proof.Machine

/-! SUPPORT. JOB segments: refusals, the assembly in progress and its end (R36 to R41, R45, R46, R169). -/

namespace Sys2Proof.Machine

open Sys2Proof

variable {s t u : State} {f : Frame} {g : Segment} {a : Assembly} {code : JobCode}

/-! ## A segment's fields (section 13.6) -/

theorem byteAt_drop (d : List Byte) (n k : Nat) : byteAt (d.drop n) k = byteAt d (n + k) := by
  simp [byteAt, List.getD_eq_getElem?_getD]

theorem total_readSegment (p : List Byte) : u16At (readSegment p).data 0 = u16At p 4 := by
  simp [readSegment, u16At, byteAt_drop]

/-- The first segment is out of order (R37). -/
def Segment.Disordered (g : Segment) : Prop := g.index ≠ 0 ∨ g.jobId = 0

/-- The first segment does not fit its total (R37). -/
def Segment.Misfits (g : Segment) : Prop :=
  g.data.length < 2 ∨ u16At g.data 0 < 2 ∨ 336 < u16At g.data 0 ∨ u16At g.data 0 < g.data.length

/-- The segment does not continue the assembly (R38). -/
def Segment.Breaks (g : Segment) (a : Assembly) : Prop :=
  g.jobId ≠ a.jobId ∨ g.index ≠ a.lastIndex + 1 ∨ 11 < g.index

theorem firstSegmentFailure_of_disordered (h : g.Disordered) : firstSegmentFailure g = some .order := by
  have hnot : ¬ (g.index = 0 ∧ 1 ≤ g.jobId) := by
    unfold Segment.Disordered at h
    omega
  simp [firstSegmentFailure, firstFailure, hnot]

theorem firstSegmentFailure_of_misfits (h : ¬ g.Disordered) (hfit : g.Misfits) :
    firstSegmentFailure g = some .length := by
  have hordered : g.index = 0 ∧ 1 ≤ g.jobId := by
    unfold Segment.Disordered at h
    omega
  have hnot : ¬ (2 ≤ g.data.length ∧ 2 ≤ u16At g.data 0 ∧ u16At g.data 0 ≤ 336 ∧ g.data.length ≤ u16At g.data 0) := by
    unfold Segment.Misfits at hfit
    omega
  simp only [firstSegmentFailure, firstFailure, hordered, hnot]
  simp

theorem firstSegmentFailure_of_good (h : ¬ g.Disordered) (hfit : ¬ g.Misfits) : firstSegmentFailure g = none := by
  have hordered : g.index = 0 ∧ 1 ≤ g.jobId := by
    unfold Segment.Disordered at h
    omega
  have hfits : 2 ≤ g.data.length ∧ 2 ≤ u16At g.data 0 ∧ u16At g.data 0 ≤ 336 ∧ g.data.length ≤ u16At g.data 0 := by
    unfold Segment.Misfits at hfit
    omega
  simp only [firstSegmentFailure, firstFailure, hordered, hfits]
  simp

/-! ## Refusals (R39, R40) -/

theorem refuse_unchangedBut (id : Nat) (code : JobCode) (index : Nat) (s : State) :
    UnchangedBut [.bus, .job, .cond] s (refuse id code index s) := by
  intro b hb
  cases b <;> simp [Block.same, refuse] at hb ⊢

theorem job_refuse (id : Nat) (code : JobCode) (index : Nat) (s : State) :
    (refuse id code index s).job = { s.job with refusal := some ⟨id, code, index⟩ } := by
  simp [refuse]

theorem has_jobRefused_refuse (id : Nat) (code : JobCode) (index : Nat) (s : State) :
    (refuse id code index s).cond.has .jobRefused = true := by
  simp [refuse, has_raise]

theorem dropAssembly_of_none (h : s.job.assembly = none) : dropAssembly s = s := by
  simp [dropAssembly, h]

theorem dropAssembly_of_some (h : s.job.assembly = some a) :
    dropAssembly s = setStation a.back (s.setJob { s.job with assembly := none }) := by
  simp [dropAssembly, h]

theorem job_dropAssembly (h : s.job.assembly = some a) :
    (dropAssembly s).job = { s.job with state := a.back, assembly := none } := by
  rw [dropAssembly_of_some h]
  rfl

theorem dropAssembly_unchangedBut (s : State) : UnchangedBut [.job, .motion] s (dropAssembly s) := by
  intro b hb
  cases b <;> simp [Block.same] at hb ⊢

/-- The load timers do not run on a station that does not run, or whose spindle is off (R170). -/
theorem motion_setStation_of_unwatched {st : StationState} (h : st ≠ .running ∨ s.motion.spindle = .off) :
    (setStation st s).motion = { s.motion with highTimer := none, lowTimer := none, stallTimer := none } := by
  have hwatch : (s.setJob { s.job with state := st }).loadWatched = false := by
    obtain h | h := h
    · simp [State.loadWatched, State.isRunning, h]
    · simp [State.loadWatched, h]
  simp [setStation, refreshLoad, hwatch, runWhile]

theorem spindle_dropAssembly (s : State) : (dropAssembly s).motion.spindle = s.motion.spindle := by
  unfold dropAssembly
  split <;> simp

/-! ## The assembly kept (R37, R38, R169) -/

/-- The station in LOADING with the bytes taken so far, its spindle off (R37, R169). -/
def assembling (a : Assembly) (s : State) : State :=
  spindleOff (setStation .loading (s.setJob { s.job with assembly := some a }))

theorem keepAssembly_of_more (a : Assembly) (s : State) : keepAssembly a true s = assembling a s := rfl

theorem keepAssembly_of_last (a : Assembly) (s : State) : keepAssembly a false s = endAssembly a (assembling a s) := rfl

theorem job_assembling (a : Assembly) (s : State) :
    (assembling a s).job = { s.job with state := .loading, assembly := some a } := rfl

theorem assembling_unchangedBut (a : Assembly) (s : State) : UnchangedBut [.job, .motion] s (assembling a s) := by
  intro b hb
  cases b <;> simp [Block.same, assembling] at hb ⊢

/-! ## What becomes of a segment by the job state (R36 to R38) -/

theorem takeSegment_of_first (hstate : s.job.state ∈ [.ready, .idle, .done, .loading]) (hfirst : g.first = true) :
    takeSegment g s = startAssembly g s := by
  simp only [List.mem_cons, List.not_mem_nil, or_false] at hstate
  obtain h | h | h | h := hstate <;> simp [takeSegment, h, hfirst]

theorem takeSegment_of_not_first (hstate : s.job.state ∈ [.ready, .idle, .done]) (hfirst : g.first = false) :
    takeSegment g s = refuse g.jobId .order g.index s := by
  simp only [List.mem_cons, List.not_mem_nil, or_false] at hstate
  obtain h | h | h := hstate <;> simp [takeSegment, h, hfirst]

theorem takeSegment_of_next (hstate : s.job.state = .loading) (ha : s.job.assembly = some a) (hfirst : g.first = false) :
    takeSegment g s = continueAssembly a g s := by
  simp [takeSegment, hstate, hfirst, ha]

theorem takeSegment_of_busy
    (hstate : s.job.state ∈ [.armed, .running, .stopped, .suspended, .excused, .failed]) :
    takeSegment g s = refuse g.jobId .busy g.index s := by
  simp only [List.mem_cons, List.not_mem_nil, or_false] at hstate
  obtain h | h | h | h | h | h := hstate <;> simp [takeSegment, h]

theorem startAssembly_of_failure (h : firstSegmentFailure g = some code) :
    startAssembly g s = refuse g.jobId code g.index (dropAssembly s) := by
  simp only [startAssembly, h]

theorem startAssembly_of_good (h : firstSegmentFailure g = none) :
    startAssembly g s = keepAssembly ⟨g.jobId, u16At g.data 0, 0, g.data, returnState s⟩ g.more s := by
  simp only [startAssembly, h]

theorem continueAssembly_of_breaks (h : g.Breaks a) :
    continueAssembly a g s = refuse a.jobId .order g.index (dropAssembly s) := by
  refine if_neg fun hgood => ?_
  unfold Segment.Breaks at h
  omega

theorem continueAssembly_of_long (h : ¬ g.Breaks a) (hlong : a.total < a.data.length + g.data.length) :
    continueAssembly a g s = refuse a.jobId .length g.index (dropAssembly s) := by
  have hgood : g.jobId = a.jobId ∧ g.index = a.lastIndex + 1 ∧ g.index ≤ 11 := by
    unfold Segment.Breaks at h
    omega
  rw [continueAssembly, if_pos hgood, if_neg (by omega)]

theorem continueAssembly_of_good (hid : g.jobId = a.jobId) (hindex : g.index = a.lastIndex + 1) (hlast : g.index ≤ 11)
    (hfits : a.data.length + g.data.length ≤ a.total) : continueAssembly a g s =
      keepAssembly { a with lastIndex := g.index, data := a.data ++ g.data } g.more s := by
  rw [continueAssembly, if_pos ⟨hid, hindex, hlast⟩, if_pos hfits]

theorem takeJob_to_all (h : f.dest = 255) : takeJob f s = s := if_pos h

theorem takeJob_to_own (h : f.dest ≠ 255) : takeJob f s = takeSegment (readSegment f.payload) s := if_neg h

/-- Settles O20, by the job state and the first check that fails. -/
theorem jobSegmentsAreRefusedOrAssembled : Obligations.JobSegmentsAreRefusedOrAssembled := by
  intro s f rest hrx hk
  let u := s.dropFrame rest
  let g := readSegment f.payload
  have harm : exec .job s = .next (takeFrame .job takeJob s) := rfl
  rw [takeFrame_of_front takeJob hrx hk] at harm
  have hu : UnchangedBut [.bus] s u := dropFrame_unchangedBut s rest
  have hfirst : g.first = true ↔ byteAt f.payload 3 % 2 = 1 := by simp [g, readSegment]
  have hmore : g.more = true ↔ byteAt f.payload 3 / 2 % 2 = 1 := by simp [g, readSegment]
  have htotal : u16At g.data 0 = u16At f.payload 4 := total_readSegment f.payload
  dsimp only
  rw [← hfirst, ← hmore, ← htotal]
  refine ⟨fun hall => ?_, fun hdest code hcode => ?_, fun hdest hstate a ha code refused hcode => ?_,
    fun hdest hgoes hnew hstate hordered hfits => ?_, fun hdest hgoes hnext hstate a ha hid hindex hlast hfits => ?_⟩
  · rw [takeJob_to_all hall] at harm
    exact ⟨u, harm, rfl, hu⟩
  · have hrefused : takeJob f u = refuse g.jobId code g.index u := by
      rw [takeJob_to_own hdest]
      obtain ⟨rfl, hbusy⟩ | ⟨hstate, hnone, ⟨rfl, hbad⟩ | ⟨rfl, hnew, hordered, hmisfit⟩⟩ := hcode
      · exact takeSegment_of_busy (s := u) hbusy
      · have hstate' : u.job.state ∈ [.ready, .idle, .done] := hstate
        cases hf : g.first with
        | false => exact takeSegment_of_not_first hstate' hf
        | true =>
          have hbad' : g.Disordered := hbad.resolve_left (not_not_intro hf)
          rw [takeSegment_of_first (List.subset_append_left _ [.loading] hstate') hf,
            startAssembly_of_failure (firstSegmentFailure_of_disordered hbad'), dropAssembly_of_none (s := u) hnone]
      · have hstate' : u.job.state ∈ [.ready, .idle, .done] := hstate
        rw [takeSegment_of_first (List.subset_append_left _ [.loading] hstate') hnew,
          startAssembly_of_failure (firstSegmentFailure_of_misfits (g := g) hordered hmisfit),
          dropAssembly_of_none (s := u) hnone]
    rw [hrefused] at harm
    exact ⟨_, harm, job_refuse _ _ _ u, by simp [u], has_jobRefused_refuse _ _ _ u,
      (hu.mono (by decide)).trans (refuse_unchangedBut _ _ _ u)⟩
  · have hrefused : takeJob f u = refuse refused code g.index (dropAssembly u) := by
      rw [takeJob_to_own hdest]
      obtain ⟨hnew, rfl, hbad⟩ | ⟨hnext, rfl, hbad⟩ := hcode
      · rw [takeSegment_of_first (s := u) (by simp [u, hstate]) hnew]
        obtain ⟨rfl, hbad⟩ | ⟨rfl, hordered, hmisfit⟩ := hbad
        · exact startAssembly_of_failure (firstSegmentFailure_of_disordered hbad)
        · exact startAssembly_of_failure (firstSegmentFailure_of_misfits (g := g) hordered hmisfit)
      · rw [takeSegment_of_next (s := u) hstate ha (Bool.not_eq_true _ ▸ hnext)]
        obtain ⟨rfl, hbreaks⟩ | ⟨rfl, hfits, hlong⟩ := hbad
        · exact continueAssembly_of_breaks hbreaks
        · exact continueAssembly_of_long hfits hlong
    rw [hrefused] at harm
    have hdrop : (dropAssembly u).job = { s.job with state := a.back, assembly := none } := job_dropAssembly (s := u) ha
    have hrefuse := refuse_unchangedBut refused code g.index (dropAssembly u)
    have hmotion := hrefuse .motion (by decide)
    refine ⟨_, harm, by rw [job_refuse, hdrop]; rfl, by simp [u], has_jobRefused_refuse _ _ _ _, ?_, fun hback => ?_, ?_⟩
    · exact (congrArg Motion.spindle hmotion).trans (spindle_dropAssembly u)
    · refine hmotion.trans ?_
      rw [dropAssembly_of_some (s := u) ha, motion_setStation_of_unwatched (.inl hback)]
      rfl
    · exact ((hu.mono (by decide)).trans ((dropAssembly_unchangedBut u).mono (by decide))).trans (hrefuse.mono (by decide))
  · have hkept : takeJob f u = assembling ⟨g.jobId, u16At g.data 0, 0, g.data, returnState u⟩ u := by
      rw [takeJob_to_own hdest, takeSegment_of_first (s := u) (by simpa [u, or_assoc] using hstate) hnew,
        startAssembly_of_good (firstSegmentFailure_of_good (g := g) hordered hfits), hgoes, keepAssembly_of_more]
    rw [hkept] at harm
    exact ⟨_, harm, rfl, rfl, rfl, (hu.mono (by decide)).trans ((assembling_unchangedBut _ u).mono (by decide))⟩
  · have hkept : takeJob f u = assembling { a with lastIndex := g.index, data := a.data ++ g.data } u := by
      rw [takeJob_to_own hdest, takeSegment_of_next (s := u) hstate ha (Bool.not_eq_true _ ▸ hnext),
        continueAssembly_of_good hid hindex hlast hfits, hgoes, keepAssembly_of_more]
    rw [hkept] at harm
    refine ⟨_, harm, ?_, rfl, rfl, (hu.mono (by decide)).trans ((assembling_unchangedBut _ u).mono (by decide))⟩
    rw [job_assembling, ← hstate]
    rfl

/-! ## The end of an assembly (R39, R41, R45, R46) -/

/-- What an assembly that has ended fails, if anything (R39, R41). -/
def assemblyFailure (own : Nat) (role : Role) (a : Assembly) : Option JobCode :=
  if a.data.length = a.total then validate own role a.jobId a.data else some .length

theorem endAssembly_of_failure (h : assemblyFailure s.straps.number.val s.straps.role a = some code) :
    endAssembly a s = refuse a.jobId code a.lastIndex (dropAssembly s) := by
  unfold assemblyFailure at h
  unfold endAssembly
  split at h
  case isTrue hlong =>
    rw [if_pos hlong]
    simp only [State.number, h]
  case isFalse hshort =>
    obtain rfl := Option.some.inj h
    rw [if_neg hshort]

theorem endAssembly_of_valid (h : assemblyFailure s.straps.number.val s.straps.role a = none) :
    endAssembly a s = arm (readRecord s.straps.role a.jobId a.data).clamp s := by
  unfold assemblyFailure at h
  split at h
  case isTrue hlong =>
    rw [endAssembly, if_pos hlong]
    simp only [State.number, h]
  case isFalse => simp at h

/-- The role's blocks at their start of job (R46). -/
def armWork (r : JobRecord) (s : State) : State :=
  match r.work with
  | .carver c => armCarver c s
  | .tracer _ => armTracer s

/-- The Job Store with a record armed (R46). -/
def JobStore.holding (j : JobStore) (r : JobRecord) : JobStore :=
  { j with record := some r, assembly := none, halfLeft := r.halfLeft, halfRight := r.halfRight, finishing := false }

/-- The station with a record armed, before the claim follows (R46). -/
def armedWith (r : JobRecord) (s : State) : State :=
  setStation .armed (armMotion (armWork r (s.setJob (s.job.holding r))))

theorem arming_eq (r : JobRecord) (s : State) : arm r s = followClaim (armedWith r s) := by
  rfl

theorem armWork_unchangedBut (r : JobRecord) (s : State) :
    UnchangedBut [.pacer, .store, .pq, .map, .seq] s (armWork r s) := by
  intro b hb
  unfold armWork
  split <;> cases b <;> simp [Block.same, armTracer] at hb ⊢

theorem armMotion_unchangedBut (s : State) : UnchangedBut [.motion] s (armMotion s) := by
  intro b hb
  cases b <;> simp [Block.same] at hb ⊢

theorem followClaim_unchangedBut (s : State) : UnchangedBut [.bus, .guard] s (followClaim s) := by
  intro b hb
  cases b <;> simp [Block.same] at hb ⊢

theorem armedWith_unchangedBut (r : JobRecord) (s : State) :
    UnchangedBut [.job, .pacer, .store, .pq, .map, .seq, .motion] s (armedWith r s) := by
  have hjob : UnchangedBut [.job] s (s.setJob (s.job.holding r)) := by
    intro b hb
    cases b <;> simp [Block.same] at hb ⊢
  exact (((hjob.mono (by decide)).trans ((armWork_unchangedBut r _).mono (by decide))).trans
    ((armMotion_unchangedBut _).mono (by decide))).trans ((setStation_unchangedBut _ _).mono (by decide))

theorem job_armedWith (r : JobRecord) (s : State) : (armedWith r s).job = { s.job.holding r with state := .armed } := by
  have hwork : (armMotion (armWork r (s.setJob (s.job.holding r)))).job = s.job.holding r :=
    (armMotion_unchangedBut _ .job (by decide)).trans (armWork_unchangedBut r _ .job (by decide))
  rw [armedWith, job_setStation, hwork]

/-- The Motion Port at arming (R46, R168, R170). -/
theorem motion_armedWith (r : JobRecord) (s : State) : (armedWith r s).motion = { s.motion with
    reference := none, refArrived := false, waiting := [], closing := none, spindle := .off, restNotice := false
    override := .p100, highTimer := none, lowTimer := none, stallTimer := none } := by
  have hwork : (armWork r (s.setJob (s.job.holding r))).motion = s.motion := armWork_unchangedBut r _ .motion (by decide)
  rw [armedWith, motion_setStation_of_unwatched (.inl (by decide))]
  simp only [armMotion, spindleOff]
  show ({ ({ (armWork r (s.setJob (s.job.holding r))).motion with
    reference := none, refArrived := false, restNotice := false, override := .p100, closing := none, waiting := []
    spindle := .off, highTimer := none, lowTimer := none, stallTimer := none } : Motion) with
    highTimer := none, lowTimer := none, stallTimer := none }) = _
  rw [hwork]

theorem armWork_of_carver {r : JobRecord} {c : CarverJob} (hc : r.work = .carver c) (s : State) :
    armWork r s = armCarver c s := by
  simp only [armWork, hc]

theorem armWork_of_tracer {r : JobRecord} {w : TracerJob} (hw : r.work = .tracer w) (s : State) :
    armWork r s = armTracer s := by
  simp only [armWork, hw]

theorem armedWith_unchangedBut_work (r : JobRecord) (s : State) :
    UnchangedBut [.job, .motion] (armWork r (s.setJob (s.job.holding r))) (armedWith r s) :=
  ((armMotion_unchangedBut _).mono (by decide)).trans (setStation_unchangedBut _ _)

/-- What the arming of a record leaves of each block (R46, R168, R177). -/
theorem arming_spec (r : JobRecord) (s : State) :
    (arm r s).job = { s.job.holding r with state := .armed } ∧
    (∀ c, r.work = .carver c → (arm r s).pq = PathQueue.afterReset ∧ (arm r s).map = CutMap.afterReset ∧
      (arm r s).pacer = s.pacer ∧ (arm r s).store = s.store ∧
      ∀ p more, c.plan = p :: more → (arm r s).seq = Sequencer.start p) ∧
    (∀ w, r.work = .tracer w → (arm r s).pacer = Pacer.afterReset ∧ (arm r s).store = TraceStore.afterReset ∧
      (arm r s).pq = s.pq ∧ (arm r s).map = s.map ∧ (arm r s).seq = s.seq) ∧
    (arm r s).motion = { s.motion with
      reference := none, refArrived := false, waiting := [], closing := none, spindle := .off, restNotice := false
      override := .p100, highTimer := none, lowTimer := none, stallTimer := none } ∧
    (s.motion.halt = .moving → s.motion.outstanding = [] → s.guard.isFree = true →
      (arm r s).guard.claim = ⟨s.inputs.x - r.halfLeft, s.inputs.x + r.halfRight⟩) ∧
    UnchangedBut [.bus, .job, .pacer, .store, .pq, .map, .seq, .motion, .guard] s (arm r s) := by
  let x := armedWith r s
  have hclaim : UnchangedBut [.bus, .guard] x (arm r s) := followClaim_unchangedBut x
  have hx : UnchangedBut [.job, .pacer, .store, .pq, .map, .seq, .motion] s x := armedWith_unchangedBut r s
  have hwork : UnchangedBut [.bus, .job, .motion, .guard] (armWork r (s.setJob (s.job.holding r))) (arm r s) :=
    ((armedWith_unchangedBut_work r s).mono (by decide)).trans (hclaim.mono (by decide))
  have hmotion := motion_armedWith r s
  refine ⟨(hclaim .job (by decide)).trans (job_armedWith r s), fun c hc => ?_, fun w hw => ?_,
    (hclaim .motion (by decide)).trans hmotion, fun hmoving hout hfree => ?_,
    (hx.mono (by decide)).trans (hclaim.mono (by decide))⟩
  · rw [armWork_of_carver hc] at hwork
    refine ⟨(hwork .pq (by decide)).trans ?_, (hwork .map (by decide)).trans ?_, (hwork .pacer (by decide)).trans (by simp),
      (hwork .store (by decide)).trans (by simp), fun p more hplan => (hwork .seq (by decide)).trans ?_⟩
    · unfold armCarver
      split <;> rfl
    · unfold armCarver
      split <;> rfl
    · simp only [armCarver, hplan]
      rfl
  · rw [armWork_of_tracer hw] at hwork
    exact ⟨hwork .pacer (by decide), hwork .store (by decide), hwork .pq (by decide), hwork .map (by decide),
      hwork .seq (by decide)⟩
  · have hocc : x.occupied = ⟨s.inputs.x - r.halfLeft, s.inputs.x + r.halfRight⟩ := by
      have hinputs : x.inputs = s.inputs := hx .inputs (by decide)
      simp [State.occupied, State.intervalAt, State.halfWidths, hinputs, x, job_armedWith, JobStore.holding]
    have hidle : x.motion.halt = .moving ∧ x.motion.outstanding = [] ∧ x.guard.isFree = true := by
      rw [(hx .guard (by decide) : x.guard = s.guard), hmotion]
      exact ⟨hmoving, hout, hfree⟩
    rw [arming_eq, guard_followClaim_of_idle hidle, ← hocc]

theorem work_readRecord_clamp (id : Nat) (d : List Byte) :
    (∃ c, (readRecord .carver id d).clamp.work = .carver c) ∧ ∃ w, (readRecord .tracer id d).clamp.work = .tracer w :=
  ⟨⟨_, rfl⟩, ⟨_, rfl⟩⟩

/-- The assembly ends with this segment: the only one, or the last (R37, R38). -/
theorem takeSegment_of_last (hlast : g.more = false)
    (h : (g.first = true ∧ s.job.state ∈ [.ready, .idle, .done, .loading] ∧ ¬ g.Disordered ∧ ¬ g.Misfits ∧
        a = ⟨g.jobId, u16At g.data 0, 0, g.data, returnState s⟩) ∨
      (g.first = false ∧ s.job.state = .loading ∧ ∃ b, s.job.assembly = some b ∧ g.jobId = b.jobId ∧
        g.index = b.lastIndex + 1 ∧ g.index ≤ 11 ∧ b.data.length + g.data.length ≤ b.total ∧
        a = { b with lastIndex := g.index, data := b.data ++ g.data })) :
    takeSegment g s = endAssembly a (assembling a s) := by
  obtain ⟨hnew, hstate, hordered, hfits, rfl⟩ | ⟨hnext, hstate, b, hb, hid, hindex, hmax, hfits, rfl⟩ := h
  · rw [takeSegment_of_first hstate hnew, startAssembly_of_good (firstSegmentFailure_of_good hordered hfits), hlast,
      keepAssembly_of_last]
  · rw [takeSegment_of_next hstate hb hnext, continueAssembly_of_good hid hindex hmax hfits, hlast, keepAssembly_of_last]

/-- Settles O21: the assembly's first failure refuses it, and a valid record is armed. -/
theorem jobAssemblyEndsInArmedOrRefused : Obligations.JobAssemblyEndsInArmedOrRefused := by
  intro s f rest hrx hk hdest hmore a
  let u := s.dropFrame rest
  let g := readSegment f.payload
  have hu : UnchangedBut [.bus] s u := dropFrame_unchangedBut s rest
  have hlast : g.more = false := by simp [g, readSegment, hmore]
  have htotal : u16At g.data 0 = u16At f.payload 4 := total_readSegment f.payload
  dsimp only
  rw [← htotal]
  intro h
  have harm : exec .job s = .next (takeFrame .job takeJob s) := rfl
  have hends : takeJob f u = endAssembly a (assembling a u) := by
    rw [takeJob_to_own hdest]
    refine takeSegment_of_last (g := g) (s := u) hlast ?_
    obtain ⟨hfirst, hstate, hindex, hid, hlen, htwo, hmax, hfits, ha⟩ | ⟨hnext, hcont⟩ := h
    · refine .inl ⟨by simp [g, readSegment, hfirst], hstate, ?_, ?_, ha⟩
      · show ¬ (byteAt f.payload 2 ≠ 0 ∨ u16At f.payload 0 = 0)
        omega
      · show ¬ ((f.payload.drop 4).length < 2 ∨ u16At g.data 0 < 2 ∨ 336 < u16At g.data 0 ∨
          u16At g.data 0 < (f.payload.drop 4).length)
        omega
    · exact .inr ⟨by simp [g, readSegment, hnext], hcont⟩
  rw [takeFrame_of_front takeJob hrx hk, hends] at harm
  let x := assembling a u
  have hx : UnchangedBut [.bus, .job, .motion] s x := (hu.mono (by decide)).trans ((assembling_unchangedBut a u).mono (by decide))
  have hlastIndex : a.lastIndex = byteAt f.payload 2 := by
    obtain ⟨-, -, hindex, -, -, -, -, -, rfl⟩ | ⟨-, -, b, -, -, -, -, -, rfl⟩ := h
    · exact hindex.symm
    · rfl
  refine ⟨fun code hcode => ?_, fun hvalid => ?_⟩
  · rw [endAssembly_of_failure (s := x) hcode] at harm
    have hdrop : dropAssembly x = setStation a.back (x.setJob { x.job with assembly := none }) :=
      dropAssembly_of_some (s := x) rfl
    have hrefuse := refuse_unchangedBut a.jobId code a.lastIndex (dropAssembly x)
    refine ⟨_, harm, ?_, (hrefuse .motion (by decide)).trans ?_, has_jobRefused_refuse _ _ _ _, by simp [x, assembling, u], ?_⟩
    · rw [job_refuse, hdrop, ← hlastIndex]
      rfl
    · rw [hdrop, motion_setStation_of_unwatched (.inr rfl)]
      rfl
    · exact ((hx.mono (by decide)).trans ((dropAssembly_unchangedBut x).mono (by decide))).trans (hrefuse.mono (by decide))
  · rw [endAssembly_of_valid (s := x) hvalid] at harm
    obtain ⟨hjob, hcarver, htracer, hmotion, hclaim, hframe⟩ :=
      arming_spec (readRecord s.straps.role a.jobId a.data).clamp x
    obtain ⟨⟨c, hc⟩, ⟨w, hw⟩⟩ := work_readRecord_clamp a.jobId a.data
    refine ⟨_, harm, hjob, fun hrole => ?_, fun hrole => ?_, hmotion, fun hmoving hout hcheck hpassed => ?_,
      by simp [x, assembling, u], (hx.mono (by decide)).trans (hframe.mono (by decide))⟩
    · obtain ⟨hpq, hmap, hpacer, hstore, -⟩ := hcarver c (by rw [hrole]; exact hc)
      refine ⟨hpq, hmap, hpacer, hstore, fun c' hc' p more hplan => ?_⟩
      obtain ⟨-, -, -, -, hseq⟩ := hcarver c' hc'
      exact hseq p more hplan
    · exact htracer w (by rw [hrole]; exact hw)
    · exact hclaim hmoving hout ((isFree_iff _).2 ⟨hcheck, hpassed⟩)

end Sys2Proof.Machine

/-! SUPPORT. QUERY and the content of its REPLY (R14, R146, R148, R191, section 13.7). -/

namespace Sys2Proof.Machine

open Sys2Proof

variable {s t u : State} {f : Frame} {q : List Byte}

/-! ## A sweep looked at (R146) -/

theorem reach_of_still {m : CutMap} (h : m.sweeping = false) (n : Nat) : m.reach n = m := by
  simp [CutMap.reach, h]

theorem reach_eq (m : CutMap) (n : Nat) : m.reach n = { m with progress := (m.reach n).progress } := by
  unfold CutMap.reach
  split <;> rfl

/-- A running sweep has come to within the 1,000 cells of the present tick (R146). -/
theorem progress_reach {m : CutMap} {left : Nat} (hsweep : m.sweeping = true) (hleft : m.sweepTimer = some left) (n : Nat) :
    m.progress ≤ (m.reach n).progress ∧ min 32768 (1000 * (33 - left)) ≤ (m.reach n).progress ∧
      (m.reach n).progress ≤ max m.progress (min 32768 (1000 * (33 - left) + 999)) := by
  have hprogress : (m.reach n).progress =
      max m.progress (min 32768 (1000 * (33 - left) + Config.sweepInTick n % 1000)) := by
    simp [CutMap.reach, hsweep, CutMap.pace, CutMap.sweptTicks, hleft]
  have hpart : Config.sweepInTick n % 1000 < 1000 := Nat.mod_lt _ (by decide)
  rw [hprogress]
  omega

/-! ## QUERY (R14, R191) -/

/-- The state the content of the REPLY is read from: the sweep looked at now (R146). -/
def lookedAt (s : State) : State := s.setMap (s.map.reach s.seed)

theorem answerQuery_eq (src : Nat) (q : List Byte) (s : State) : answerQuery src q s =
    offerReply src (replyPayload q (lookedAt s)) ((lookedAt s).setSeed ((lookedAt s).seed + 1)) := rfl

theorem takeQuery_to_all (h : f.dest = 255) : takeQuery f s = s := if_pos h

theorem takeQuery_to_own (h : f.dest ≠ 255) : takeQuery f s = answerQuery f.src f.payload s := if_neg h

theorem map_answerQuery (src : Nat) (q : List Byte) (s : State) : (answerQuery src q s).map = s.map.reach s.seed := by
  simp [answerQuery]

theorem answerQuery_of_room (h : s.bus.hasRoom = true) (src : Nat) (q : List Byte) :
    (answerQuery src q s).bus = s.bus.fill .reply (byteOf src) (replyPayload q (lookedAt s)) ∧
      (answerQuery src q s).cond = s.cond := by
  have hroom : ((lookedAt s).setSeed ((lookedAt s).seed + 1)).bus.hasRoom = true := h
  rw [answerQuery_eq, offerReply, if_pos hroom]
  exact ⟨rfl, rfl⟩

theorem answerQuery_of_no_room (h : s.bus.hasRoom = false) (src : Nat) (q : List Byte) :
    (answerQuery src q s).bus = s.bus ∧ (answerQuery src q s).cond = s.cond.countUp .droppedReplies 1 := by
  have hroom : ¬ ((lookedAt s).setSeed ((lookedAt s).seed + 1)).bus.hasRoom = true := by
    rw [Bool.not_eq_true]
    exact h
  rw [answerQuery_eq, offerReply, if_neg hroom]
  exact ⟨rfl, rfl⟩

theorem answerQuery_unchangedBut (src : Nat) (q : List Byte) (s : State) :
    UnchangedBut [.seed, .bus, .map, .cond] s (answerQuery src q s) := by
  intro b hb
  cases b <;> simp [Block.same] at hb ⊢

/-- Settles O31: the REPLY has a general place or is dropped, and the sweep is looked at either way. -/
theorem queryIsAnsweredOnce : Obligations.QueryIsAnsweredOnce := by
  intro s f rest hrx hk
  let u := s.dropFrame rest
  have harm : exec .query s = .next (takeFrame .query takeQuery s) := rfl
  rw [takeFrame_of_front takeQuery hrx hk] at harm
  have hu : UnchangedBut [.bus] s u := dropFrame_unchangedBut s rest
  refine ⟨fun hall => ?_, fun hown => ?_⟩
  · rw [takeQuery_to_all hall] at harm
    exact ⟨u, harm, rfl, hu⟩
  · rw [takeQuery_to_own hown] at harm
    have hmap : (answerQuery f.src f.payload u).map = s.map.reach s.seed := map_answerQuery f.src f.payload u
    refine ⟨_, harm, by simp, ?_, fun left hsweep hleft => ?_, fun hstill => ?_, fun hroom => ?_, fun hroom => ?_,
      (hu.mono (by decide)).trans (answerQuery_unchangedBut _ _ u)⟩
    · rw [hmap]
      exact reach_eq s.map s.seed
    · rw [hmap]
      exact progress_reach hsweep hleft s.seed
    · rw [hmap, reach_of_still hstill]
    · obtain ⟨hbus, hcond⟩ := answerQuery_of_room (s := u) (Bus.hasRoom_iff.2 hroom) f.src f.payload
      rw [hbus, hmap]
      exact ⟨hcond, rfl, _, mem_place.2 (.inl rfl), rfl, rfl, rfl, rfl, rfl⟩
    · have hfull : u.bus.hasRoom = false := by
        rw [← Bool.not_eq_true, Bus.hasRoom_iff]
        rintro ⟨hmute, hheld⟩
        obtain h | h := hroom
        · exact absurd (hmute.symm.trans h) (by decide)
        · exact absurd hheld (not_lt.2 h)
      obtain ⟨hbus, hcond⟩ := answerQuery_of_no_room (s := u) hfull f.src f.payload
      exact ⟨hbus, hcond⟩

/-! ## The content of the REPLY (section 13.7) -/

section

variable {n : Nat}

theorem replyPayload_summary (h : byteAt q 0 = 0) : replyPayload q s = 0#8 :: summary s := by
  simp only [replyPayload, h]
  rfl

theorem replyPayload_counters (h : byteAt q 0 = 1) : replyPayload q s = 1#8 :: s.cond.counters.flatMap put16 := by
  simp only [replyPayload, h]
  rfl

theorem replyPayload_roster (h : byteAt q 0 = 2) : replyPayload q s = 2#8 :: rosterSection (byteAt q 1) s := by
  simp only [replyPayload, h]
  rfl

theorem replyPayload_queue (h : byteAt q 0 = 3) (hrole : s.straps.role = .carver) :
    replyPayload q s = 3#8 :: queueSection s := by
  have hcarver : s.isCarver = true := by simp [State.isCarver, hrole]
  simp only [replyPayload, h, hcarver]
  rfl

theorem replyPayload_lag (h : byteAt q 0 = 3) (hrole : s.straps.role = .tracer) :
    replyPayload q s = 3#8 :: lagSection (byteAt q 1) s := by
  have hcarver : s.isCarver = false := by simp [State.isCarver, hrole]
  simp only [replyPayload, h, hcarver]
  rfl

theorem replyPayload_cell (h : byteAt q 0 = 4) :
    replyPayload q s = 4#8 :: cellSection (byteAt q 1) (byteAt q 2) (byteAt q 3) s := by
  simp only [replyPayload, h]
  rfl

theorem replyPayload_of_none (h : 5 ≤ byteAt q 0) : replyPayload q s = [byteOf (byteAt q 0)] := by
  obtain ⟨n, hn⟩ := Nat.exists_eq_add_of_le' h
  simp only [replyPayload, hn]

theorem jobId_eq_getD (s : State) : s.jobId = (s.job.record.map (·.id)).getD 0 := by
  unfold State.jobId
  cases s.job.record <;> rfl

theorem clampedByte_eq (s : State) : clampedByte s =
    byteOf ((s.job.record.map fun r => (r.clamped.map ClampName.weight).sum).getD 0) := by
  unfold clampedByte
  cases s.job.record <;> rfl

theorem length_refusalBytes (s : State) : (refusalBytes s).length = 5 := by
  unfold refusalBytes
  cases s.job.refusal <;> rfl

theorem stepKindByte_of_step {c : CarverJob} {k : Nat} {p : PlanStep} (hc : s.carverJob = some c)
    (hk : s.seq.index = some k) (hp : c.plan[k]? = some p) : stepKindByte s = byteOf p.kind.code := by
  simp only [stepKindByte, hc, hk, hp]

theorem look_of_sound {m : CutMap} (hfailed : m.failed = none) (k : Nat) :
    (m.sweeping = false → m.look k = m.read k) ∧ (m.sweeping = true → m.look k = m.read k ∨ m.look k = (m.read k).sweep) := by
  refine ⟨fun h => by simp [CutMap.look, hfailed, h], fun h => ?_⟩
  cases hv : visited m.progress k <;> simp [CutMap.look, hfailed, h, hv]

/-- Settles O32, section by section. -/
theorem replyHoldsTheSectionAskedFor : Obligations.ReplyHoldsTheSectionAskedFor := by
  intro s q
  dsimp only
  refine ⟨fun h => ?_, fun h => replyPayload_counters h, fun h hindex => ⟨fun p hp => ?_, fun hp => ?_⟩, fun h hindex => ?_,
    fun h hrole => ?_, fun h hrole => ⟨fun e he => ?_, fun hnone => ?_⟩, fun h hrole hface hrow hcol hfailed => ?_,
    fun h hecho => ?_, fun h => replyPayload_of_none h⟩
  · refine ⟨summaryWork s, putSet s.cond.set, refusalBytes s, ?_, rfl, getLsbD_putSet s.cond, length_refusalBytes s,
      fun hnone => by simp [refusalBytes, hnone], fun x hx => by simp [refusalBytes, hx]; rfl, fun hrole => ?_,
      fun hrole => by simp only [summaryWork, hrole]⟩
    · rw [replyPayload_summary h, summary, jobId_eq_getD, clampedByte_eq]
      simp only [List.cons_append]
      rfl
    · refine ⟨stepKindByte s, by simp only [summaryWork, hrole], fun c hc k hk p hp => stepKindByte_of_step hc hk hp⟩
  · rw [replyPayload_roster h, rosterSection, if_pos hindex]
    simp only [hp]
    rfl
  · rw [replyPayload_roster h, rosterSection, if_pos hindex]
    simp only [hp]
    exact ⟨rfl, rfl⟩
  · rw [replyPayload_roster h, rosterSection, if_neg (not_lt.2 hindex)]
    simp [List.range_succ, h]
    rfl
  · rw [replyPayload_queue h hrole]
    rfl
  · rw [replyPayload_lag h hrole]
    simp only [lagSection, he]
    rfl
  · have hnone' : s.pacer.lag[byteAt q 1]? = none := List.getElem?_eq_none hnone
    rw [replyPayload_lag h hrole]
    simp [lagSection, hnone', List.range_succ, h]
    rfl
  · obtain ⟨hstill, hsweeping⟩ := look_of_sound hfailed (cellNumber (byteAt q 1) (byteAt q 2) (byteAt q 3))
    refine ⟨s.map.look (cellNumber (byteAt q 1) (byteAt q 2) (byteAt q 3)), ?_, hstill, hsweeping⟩
    have hin : (s.isCarver && decide (byteAt q 1 < 8 ∧ byteAt q 2 < 64 ∧ byteAt q 3 < 64)) = true := by
      simp [State.isCarver, hrole, hface, hrow, hcol]
    rw [replyPayload_cell h, cellSection]
    simp only [hin]
    simp [List.range_succ, h, Cell.flags]
    rfl
  · have hout : (s.isCarver && decide (byteAt q 1 < 8 ∧ byteAt q 2 < 64 ∧ byteAt q 3 < 64)) = false := by
      rw [← Bool.not_eq_true, Bool.and_eq_true, decide_eq_true_eq]
      rintro ⟨hcarver, hface, hrow, hcol⟩
      have hrole : s.straps.role = .carver := by simpa [State.isCarver] using hcarver
      obtain htracer | h8 | h64 | h64 := hecho
      · exact absurd (hrole.symm.trans htracer) (by decide)
      all_goals omega
    rw [replyPayload_cell h, cellSection]
    simp only [hout]
    simp [List.range_succ, h]
    rfl

end

end Sys2Proof.Machine

/-! SUPPORT. The Pacer's decision (R78, R85 to R89): the pass ordered or the job finished, the ends of enrolment and collection
tested, a tracer's move commanded, and the general places that an event leaves as they are. -/

namespace Sys2Proof.Machine

open Sys2Proof

section

variable {s t u : State} {r : JobRecord} {w : TracerJob}

/-! ## The general places (R13, R14) -/

/-- The same general places are held in s and t, and MUTE is the same: what a step that offers reports alone keeps. -/
def SameRoom (s t : State) : Prop := t.bus.mute = s.bus.mute ∧ t.bus.generalHeld = s.bus.generalHeld

theorem SameRoom.trans (h : SameRoom s t) (h' : SameRoom t u) : SameRoom s u := ⟨h'.1.trans h.1, h'.2.trans h.2⟩

theorem SameRoom.same (h : t.bus = s.bus) : SameRoom s t := by
  rw [SameRoom, h]
  exact ⟨rfl, rfl⟩

theorem SameRoom.refl (s : State) : SameRoom s s := .same rfl

theorem SameRoom.after (hu : SameRoom u t) (hbus : u.bus = s.bus) : SameRoom s t := (SameRoom.same hbus).trans hu

theorem SameRoom.ite {p : Prop} [Decidable p] (ht : SameRoom s t) (hu : SameRoom s u) :
    SameRoom s (if p then t else u) := by
  split
  · exact ht
  · exact hu

theorem Bus.generalHeld_fill (b : Bus) (k : Kind) (dest : Byte) (payload : List Byte) :
    (b.fill k dest payload).generalHeld = b.generalHeld + if k.isReport then 0 else 1 := by
  rw [Bus.generalHeld, ((b.places_fill_perm k dest payload).filter _).length_eq, Bus.generalHeld]
  cases hk : k.isReport <;> simp [hk]

/-- A report has a place of its own kind (R13). -/
theorem Bus.generalHeld_offerReport {k : Kind} (hk : k.isReport = true) (b : Bus) (dest : Byte) :
    (b.offerReport k dest).generalHeld = b.generalHeld := by
  obtain ⟨-, h⟩ | ⟨-, h, -⟩ | ⟨-, h⟩ := b.offerReport_cases k dest
  · rw [h]
  · rw [Bus.generalHeld, h, Bus.generalHeld]
  · rw [h, Bus.fillReport]
    split
    · rfl
    · simp [Bus.generalHeld_fill, hk]

theorem sameRoom_offerReport {k : Kind} (hk : k.isReport = true) (dest : Byte) (s : State) :
    SameRoom s (offerReport k dest s) := by
  refine .ite ⟨by simp, ?_⟩ (.refl s)
  exact Bus.generalHeld_offerReport hk s.bus dest

theorem sameRoom_offerReach (s : State) : SameRoom s (offerReach s) := sameRoom_offerReport rfl _ s

theorem sameRoom_raise (c : Cond) (s : State) : SameRoom s (raise c s) := by
  have halert (u : State) : SameRoom u (alertRise c u) := by
    unfold alertRise
    split
    · exact .after (sameRoom_offerReport rfl _ _) rfl
    · exact .refl u
  exact .ite (.refl s) (.after (.ite (halert _) (.refl _)) rfl)

theorem sameRoom_raiseIf (p : Bool) (c : Cond) (s : State) : SameRoom s (raiseIf p c s) :=
  .ite (sameRoom_raise c s) (.refl s)

theorem sameRoom_setClaim (iv : Interval) (s : State) : SameRoom s (setClaim iv s) :=
  .ite (.refl s) (.after (sameRoom_offerReach _) rfl)

theorem sameRoom_setAnnounce (n : Option Interval) (s : State) : SameRoom s (setAnnounce n s) :=
  .ite (.refl s) (.after (sameRoom_offerReach _) rfl)

theorem sameRoom_enterWait (side : Side) (s : State) : SameRoom s (enterWait side s) :=
  (sameRoom_setAnnounce none s).trans (.same rfl)

theorem sameRoom_checkBeyond (side : Side) (n : Interval) (s : State) : SameRoom s (checkBeyond side n s) := by
  unfold checkBeyond
  split
  · exact (sameRoom_setClaim n s).trans (.same rfl)
  · split
    · exact sameRoom_enterWait side s
    · exact .ite (sameRoom_enterWait side s) ((sameRoom_setAnnounce (some n) s).trans (.same rfl))

theorem sameRoom_beginCheck (sp : Setpoint) (s : State) : SameRoom s (beginCheck sp s) := by
  obtain h | ⟨side, n, h⟩ := beginCheck_cases sp s
  · exact h ▸ .same rfl
  · exact h ▸ .after (sameRoom_checkBeyond side n _) rfl

/-! ## A tracer's move (R165, R180) -/

theorem commandMove_of_free (hwaiting : s.motion.waiting = []) (hfree : s.guard.isFree = true)
    (hport : s.motion.portLift = none) (sp : Setpoint) : commandMove sp s = beginCheck sp s := by
  have hself : s.setMotion { s.motion with waiting := [] } = s := by
    rw [← hwaiting]
    rfl
  have hopen : (s.guard.isFree && s.motion.portLift.isNone) = true := by simp [hfree, hport]
  unfold commandMove pumpMoves
  rw [hwaiting]
  exact (if_pos hopen).trans (congrArg (beginCheck sp) hself)

theorem moveCommanded_commandMove (sp : Setpoint) (s : State) : MoveCommanded sp s (commandMove sp s) := by
  refine ⟨fun hnot hwaiting => ?_, fun hbusy => ?_⟩
  · simp only [not_or, ne_eq, Decidable.not_not] at hnot
    obtain ⟨hcheck, hpassed, hport⟩ := hnot
    rw [commandMove_of_free hwaiting ((isFree_iff _).2 ⟨hcheck, hpassed⟩) hport]
    exact ⟨atCheck_or_passed_beginCheck sp s, by simp⟩
  · have hstay : (s.guard.isFree && s.motion.portLift.isNone) = false := by
      rw [← Bool.not_eq_true, Bool.and_eq_true, isFree_iff]
      rintro ⟨⟨hcheck, hpassed⟩, hport⟩
      simp [hcheck, hpassed, Option.isNone_iff_eq_none.1 hport] at hbusy
    have hput : commandMove sp s = s.setMotion { s.motion with waiting := s.motion.waiting ++ [sp] } := by
      unfold commandMove pumpMoves
      split
      · exact if_neg (Bool.not_eq_true _ ▸ hstay)
      · rfl
    rw [hput]
    exact ⟨rfl, rfl⟩

/-- A tracer's move is at the check, has passed, or waits. -/
def Underway (sp : Setpoint) (t : State) : Prop :=
  t.guard.atCheck = some sp ∨ t.guard.passed = some sp ∨ sp ∈ t.motion.waiting

theorem underway_commandMove (sp : Setpoint) (s : State) : Underway sp (commandMove sp s) := by
  unfold commandMove pumpMoves
  cases hwaiting : s.motion.waiting with
  | nil =>
    refine iteInduction (motive := Underway sp) (fun _ => ?_) fun _ => .inr (.inr (by simp))
    rw [Underway, ← or_assoc]
    exact .inl (atCheck_or_passed_beginCheck sp _)
  | cons x rest =>
    exact iteInduction (motive := Underway sp) (fun _ => .inr (.inr (by simp))) fun _ => .inr (.inr (by simp))

/-! ## The participating entries (R75, R86, R87) -/

theorem mem_wanting {p : Pacer} {e : LagEntry} : e ∈ p.wanting ↔ e ∈ p.lag ∧ e.dropped = false ∧ e.wants = true := by
  simp [Pacer.wanting, Pacer.participating, and_assoc, and_comm]

theorem wanting_isEmpty_iff (p : Pacer) :
    p.wanting.isEmpty = true ↔ ∀ e, ¬ (e ∈ p.lag ∧ e.dropped = false ∧ e.wants = true) := by
  simp only [List.isEmpty_iff, List.eq_nil_iff_forall_not_mem, mem_wanting]

/-- The lowest class of a list of entries, held to m: that of an entry which none undercuts. -/
theorem foldl_min_cls {l : List LagEntry} {m c : Nat} (hm : c ≤ m) (hl : ∀ x ∈ l, c ≤ x.cls)
    (hfound : m = c ∨ ∃ x ∈ l, x.cls = c) : l.foldl (fun m e => min m e.cls) m = c := by
  induction l generalizing m with
  | nil => simpa using hfound
  | cons x l ih =>
    have hx : c ≤ x.cls := hl x List.mem_cons_self
    refine ih (le_min hm hx) (fun y hy => hl y (List.mem_cons_of_mem _ hy)) ?_
    obtain rfl | ⟨y, hy, hcls⟩ := hfound
    · exact .inl (min_eq_left hx)
    · obtain rfl | hy := List.mem_cons.1 hy
      · exact .inl (hcls ▸ min_eq_right (hcls ▸ hm))
      · exact .inr ⟨y, hy, hcls⟩

theorem finestClass_eq {p : Pacer} {e : LagEntry} (he : e ∈ p.wanting) (hmin : ∀ x ∈ p.wanting, e.cls ≤ x.cls)
    (hcls : e.cls ≤ 3) : p.finestClass = e.cls :=
  foldl_min_cls hcls hmin (.inr ⟨e, he, rfl⟩)

theorem collected_iff (p : Pacer) : p.collected = true ↔ ∀ e ∈ p.lag, e.dropped = false → p.pass ≤ e.completed := by
  have hone (e : LagEntry) : e.dropped = true ∨ p.pass ≤ e.completed ↔ (e.dropped = false → p.pass ≤ e.completed) := by
    cases e.dropped <;> simp
  simp [Pacer.collected, Pacer.participating, hone]

/-! ## A pass ordered (R59, R65, R87, R97, R98) -/

theorem serves_iff (st : TraceStore) (w : TracerJob) (c : Nat) :
    st.serves w c = true ↔ st.state = .complete ∧ (w.mode = .follow ∨ st.cls ≤ c) := by
  cases hmode : w.mode <;> simp [TraceStore.serves, hmode]

/-- The Pacer's order of pass p at class c (R87), before the Store's choice. -/
def ordered (p c : Nat) (s : State) : State :=
  s.setPacer { s.pacer with
    pass := p, cls := c, phase := .passing, enrolTimer := none, tailTimer := none, tailExpired := false }

theorem orderPass_eq (hr : s.job.record = some r) (hw : r.work = .tracer w) (p c : Nat) :
    orderPass p c s =
      if s.store.serves w c then buildReplay .passStart (ordered p c s) else beginLive r w p c (ordered p c s) := by
  have hur : (ordered p c s).job.record = some r := hr
  have hutracer : (ordered p c s).tracerJob = some w := tracerJob_of_record hur hw
  have hdef : orderPass p c s = match (ordered p c s).job.record, (ordered p c s).tracerJob with
    | some r, some t =>
      if (ordered p c s).store.serves t c then buildReplay .passStart (ordered p c s)
      else beginLive r t p c (ordered p c s)
    | _, _ => ordered p c s := rfl
  rw [hdef, hur, hutracer]
  rfl

theorem beginLive_of_raster (h : w.mode = .raster) (p c : Nat) (s : State) : beginLive r w p c s =
    s.setGen { s.gen with
      due := s.gen.due ++ [⟨s.gen.nextSeq, p, .passStart, 0, 0, 0, 0, 0, c, w.faces.length⟩]
      nextSeq := s.gen.nextSeq + 1, current := some ⟨p, c⟩, face := 0, row := 0, col := 0, back := false } := by
  simp only [beginLive, h, TracerJob.faceCount]
  rfl

theorem beginLive_of_follow (h : w.mode = .follow) (p c : Nat) (s : State) : beginLive r w p c s =
    commandMove (movePoint r s.inputs.x s.inputs.y ((w.faces[0]?).getD 0) .rapid .turntable)
      (s.setGen { s.gen with
        due := s.gen.due ++ [⟨s.gen.nextSeq, p, .passStart, 0, 0, 0, 0, 0, c, 1⟩]
        nextSeq := s.gen.nextSeq + 1, current := some ⟨p, c⟩, phase := .awaitStart, tableArrived := false }) := by
  simp only [beginLive, h, TracerJob.faceCount, TracerJob.faceAngle, List.getD_eq_getElem?_getD]
  rfl

theorem passOrdered_orderPass (hr : s.job.record = some r) (hw : r.work = .tracer w) (p c : Nat) :
    PassOrdered p c r w s.gen s (orderPass p c s) := by
  rw [orderPass_eq hr hw]
  unfold PassOrdered
  intro replayed start begun turn
  have hserves : s.store.serves w c = true ↔ replayed := serves_iff s.store w c
  by_cases hreplay : replayed
  · rw [if_pos (hserves.2 hreplay)]
    refine ⟨rfl, rfl, rfl, rfl, rfl, rfl, fun _ => ⟨rfl, rfl⟩, fun hnot => absurd hreplay hnot⟩
  · rw [if_neg (fun h => hreplay (hserves.1 h))]
    cases hmode : w.mode with
    | raster =>
      rw [beginLive_of_raster hmode]
      exact ⟨rfl, rfl, rfl, rfl, rfl, rfl, fun h => absurd h hreplay, fun _ => ⟨rfl, fun _ => rfl, nofun⟩⟩
    | follow =>
      rw [beginLive_of_follow hmode]
      refine ⟨?_, ?_, ?_, ?_, ?_, ?_, fun h => absurd h hreplay, fun _ => ⟨?_, nofun, fun _ => ⟨?_, ?_⟩⟩⟩
      case refine_9 => exact underway_commandMove _ _
      all_goals simp [ordered, begun, start]

/-! ## The job finished (R88) -/

theorem offerFinish_of_no_room (h : s.bus.hasRoom = false) :
    offerFinish s = s.setPacer { s.pacer with finishDue := true } := by
  simp [offerFinish, h]

theorem exists_finish_offerFinish (hr : s.job.record = some r) (hrunning : s.isRunning = true)
    (hroom : s.bus.hasRoom = true) :
    ∃ x ∈ (offerFinish s).bus.queue, x.kind = .finish ∧ x.dest = 255 ∧ x.payload = put16 r.id := by
  obtain ⟨-, -, hbus⟩ := offerFinish_of_room hrunning hroom
  have hid : s.jobId = r.id := by simp [State.jobId, hr]
  rw [hbus, hid]
  exact ⟨_, mem_place.2 (.inl rfl), rfl, rfl, rfl⟩

/-- The job finished at s: JOB_DONE, and the FINISH in a place or due. -/
def finished (s : State) : State := raise .jobDone (offerFinish s)

theorem finished_unchangedBut (s : State) : UnchangedBut [.bus, .job, .pacer, .motion, .cond] s (finished s) := by
  unfold finished offerFinish
  intro b hb
  split <;> cases b <;> simp [Block.same] at hb ⊢

theorem lag_finished (s : State) : (finished s).pacer.lag = s.pacer.lag :=
  ((follows_offerFinish s).trans (follows_raise _ _)).lag

/-- The decision that finishes the job, with PASS_LIMIT when a carver still wanted a pass. -/
theorem passDecided_finished (hr : s.job.record = some r) (hrun : s.job.state = .running) {p : Nat}
    (hend : p = w.passLimit ∨ ∀ e, ¬ (e ∈ s.pacer.lag ∧ e.dropped = false ∧ e.wants = true)) {limit : Bool}
    (hlimit : (∃ e, e ∈ s.pacer.lag ∧ e.dropped = false ∧ e.wants = true) → limit = true) :
    PassDecided p r w s.pacer.lag s.gen s (raiseIf limit .passLimit (finished s)) := by
  have hrunning : s.isRunning = true := by simp [State.isRunning, hrun]
  have hself : s.job = { s.job with state := .running } := by rw [← hrun]
  have hframe := finished_unchangedBut s
  have hgen : (finished s).gen = s.gen := hframe .gen (by decide)
  have hstore : (finished s).store = s.store := hframe .store (by decide)
  have hpacer : (finished s).pacer = (offerFinish s).pacer := by simp [finished]
  have hjob : (finished s).job = (offerFinish s).job := by simp [finished]
  unfold PassDecided
  intro wants room
  refine ⟨?_, fun hp e he => ?_, fun _ => ⟨?_, ?_, ?_, fun hwants => ?_, fun hroom => ?_, fun hnot => ?_⟩⟩
  · simpa using lag_finished s
  · exact absurd he ((hend.resolve_left hp) e)
  · simpa using hgen
  · simpa using hstore
  · simp [has_raiseIf, finished, has_raise]
  · simp [has_raiseIf, hlimit hwants]
  · obtain ⟨hdone, hoff, -⟩ := offerFinish_of_room hrunning (Bus.hasRoom_iff.2 hroom)
    obtain ⟨x, hx, hfinish⟩ := exists_finish_offerFinish hr hrunning (Bus.hasRoom_iff.2 hroom)
    have hkept : Follows (offerFinish s) (raiseIf limit .passLimit (finished s)) :=
      (follows_raise _ _).trans (follows_raiseIf _ _ _)
    simp only [raiseIf_frame, hjob, hpacer, hdone, hoff]
    exact ⟨trivial, trivial, trivial, trivial, trivial, x, hkept.queue hx, hfinish⟩
  · have hroom : s.bus.hasRoom = false := by rwa [← Bool.not_eq_true, Bus.hasRoom_iff]
    have hdue := offerFinish_of_no_room hroom
    simp only [raiseIf_frame, hjob, hpacer, hdue]
    exact ⟨hself, rfl⟩

theorem passDecided_orderPass (hr : s.job.record = some r) (hw : r.work = .tracer w) (hrun : s.job.state = .running)
    {p : Nat} (hp : p ≠ w.passLimit) {x : LagEntry} (hx : x ∈ s.pacer.wanting) :
    PassDecided p r w s.pacer.lag s.gen s (orderPass (p + 1) s.pacer.finestClass s) := by
  have hself : s.job = { s.job with state := .running } := by rw [← hrun]
  have hlag : (orderPass (p + 1) s.pacer.finestClass s).pacer.lag = s.pacer.lag := (follows_orderPass _ _ s).lag
  unfold PassDecided
  intro wants room
  refine ⟨hlag, fun _ e he hmin hcls => ⟨by simpa using hself, ?_⟩, fun hend => ?_⟩
  · rw [finestClass_eq (mem_wanting.2 he) (fun y hy => hmin y (mem_wanting.1 hy)) hcls]
    exact passOrdered_orderPass hr hw (p + 1) e.cls
  · exact absurd (mem_wanting.1 hx) (hend.resolve_left hp x)

theorem passDecided_decidePass (hr : s.job.record = some r) (hw : r.work = .tracer w) (hrun : s.job.state = .running)
    (p : Nat) : PassDecided p r w s.pacer.lag s.gen s (decidePass p s) := by
  have hlimit : s.passLimit = w.passLimit := by simp [State.passLimit, tracerJob_of_record hr hw]
  unfold decidePass
  split
  case isTrue hempty =>
    have hnone := (wanting_isEmpty_iff _).1 hempty
    exact passDecided_finished hr hrun (limit := false) (.inr hnone) fun ⟨e, he⟩ => absurd he (hnone e)
  case isFalse hsome =>
    split
    case isTrue hp => exact passDecided_finished hr hrun (limit := true) (.inl (hp.trans hlimit)) fun _ => rfl
    case isFalse hp =>
      obtain ⟨x, hx⟩ := List.exists_mem_of_ne_nil s.pacer.wanting fun hnil => hsome (by simp [hnil])
      exact passDecided_orderPass hr hw hrun (fun h => hp (h.trans hlimit.symm)) hx

/-- A decision speaks of the job, the recording, the inputs and the places of the state it is reached at. -/
theorem PassDecided.at_ {p : Nat} {lag : List LagEntry} {g : Generator} (h : PassDecided p r w lag g u t)
    (hjob : u.job = s.job) (hstore : u.store = s.store) (hinputs : u.inputs = s.inputs) (hroom : SameRoom s u) :
    PassDecided p r w lag g s t := by
  obtain ⟨hmute, hheld⟩ := hroom
  simp only [PassDecided, PassOrdered, hjob, hstore, hinputs, hmute, hheld] at h ⊢
  exact h

/-! ## The end of collection tested (R86, R89) -/

theorem testCollection_of_open (hcollected : s.pacer.collected = false) :
    testCollection s = s := by
  simp [testCollection, hcollected]

theorem testCollection_of_stopped (hphase : s.pacer.phase = .collecting) (hfinish : s.pacer.finishDue = false)
    (hcollected : s.pacer.collected = true) (hstate : s.job.state = .stopped) :
    testCollection s = s.setPacer { s.pacer with decision := some .collection } := by
  simp [testCollection, hphase, hfinish, hcollected, State.isStopped, hstate]

theorem testCollection_of_running (hphase : s.pacer.phase = .collecting) (hfinish : s.pacer.finishDue = false)
    (hcollected : s.pacer.collected = true) (hstate : s.job.state = .running) :
    testCollection s = decidePass s.pacer.pass s := by
  simp [testCollection, hphase, hfinish, hcollected, State.isStopped, hstate]

theorem testCollection_of_phase (h : s.pacer.phase ≠ .collecting) : testCollection s = s := by
  simp [testCollection, h]

/-! ## The end of enrolment (R76, R78, R89) -/

theorem enrolling_iff (p : Pacer) :
    p.enrolling = true ↔ p.phase = .enrolling ∧ p.decision = none ∧ p.finishDue = false := by
  simp [Pacer.enrolling, and_assoc]

theorem endEnrolment_of_stopped (h : s.job.state = .stopped) :
    endEnrolment s = s.setPacer { s.pacer with enrolTimer := none, decision := some .enrolment } := by
  simp [endEnrolment, State.isStopped, h]

theorem endEnrolment_of_running (h : s.job.state = .running) : endEnrolment s = enrolmentResult s := by
  simp [endEnrolment, State.isStopped, h]

/-- Carvers of the enrol list have no entry (R78). -/
def Pacer.lacks (p : Pacer) (w : TracerJob) : Bool := w.enrol.any fun k => !p.lag.any fun e => e.carver == k

theorem lacks_iff (p : Pacer) (w : TracerJob) :
    p.lacks w = true ↔ ∃ k ∈ w.enrol, ∀ e ∈ p.lag, e.carver ≠ k := by
  simp [Pacer.lacks]

/-- Enrolment over with entries (R78): CARVER_ABSENT tells of those missing. -/
def enrolled (w : TracerJob) (s : State) : State :=
  raiseIf (s.pacer.lacks w) .carverAbsent (s.setPacer { s.pacer with enrolTimer := none, decision := none })

theorem enrolmentResult_of_entries (hw : s.tracerJob = some w) (hlag : s.pacer.lag ≠ []) :
    enrolmentResult s = decidePass 0 (enrolled w s) := by
  set u := s.setPacer { s.pacer with enrolTimer := none, decision := none } with hu
  have hutracer : u.tracerJob = some w := hw
  have hempty : u.pacer.lag.isEmpty = false := by simpa [hu] using hlag
  have hdef : enrolmentResult s =
      if u.pacer.lag.isEmpty then setStation .armed (raise .noCarvers (u.setPacer { u.pacer with phase := .off }))
      else decidePass 0 (raiseIf (match u.tracerJob with
        | some t => t.enrol.any fun k => !u.pacer.lag.any fun e => e.carver == k
        | none => false) .carverAbsent u) := rfl
  rw [hdef, hempty, hutracer]
  rfl

theorem enrolled_unchangedBut (w : TracerJob) (s : State) : UnchangedBut [.bus, .pacer, .cond] s (enrolled w s) := by
  intro b hb
  cases b <;> simp [Block.same, enrolled] at hb ⊢

theorem passDecided_enrolled (hr : s.job.record = some r) (hw : r.work = .tracer w) (hrun : s.job.state = .running) :
    PassDecided 0 r w s.pacer.lag s.gen s (decidePass 0 (enrolled w s)) := by
  have hframe := enrolled_unchangedBut w s
  have hjob : (enrolled w s).job = s.job := hframe .job (by decide)
  have hgen : (enrolled w s).gen = s.gen := hframe .gen (by decide)
  have hlag : (enrolled w s).pacer.lag = s.pacer.lag := by simp [enrolled]
  have hroom : SameRoom s (enrolled w s) := .after (sameRoom_raiseIf _ _ _) rfl
  have hdecided := passDecided_decidePass (s := enrolled w s) (by rwa [hjob]) hw (by rwa [hjob]) 0
  rw [hlag, hgen] at hdecided
  exact hdecided.at_ hjob (hframe .store (by decide)) (hframe .inputs (by decide)) hroom

theorem has_carverAbsent_enrolled (hlacks : s.pacer.lacks w = true) :
    (decidePass 0 (enrolled w s)).cond.has .carverAbsent = true := by
  have hraised : (enrolled w s).cond.has .carverAbsent = true := by simp [enrolled, has_raiseIf, hlacks]
  exact (evolves_decidePass (a := false) 0 (enrolled w s)).has hraised

/-! ## The Pacer's timers (R76, R78, R82, R86) -/

theorem exec_enrolmentTimerExpiry_eq (htimer : s.pacer.enrolTimer.isSome = true) (henrolling : s.pacer.enrolling = true) :
    exec .enrolmentTimerExpiry s = .next (endEnrolment s) := by
  have harm : exec .enrolmentTimerExpiry s = execEnrolmentTimerExpiry s := rfl
  rw [harm, execEnrolmentTimerExpiry, if_pos ⟨htimer, henrolling⟩]

theorem exec_tailTimerExpiry_eq (htimer : s.pacer.tailTimer.isSome = true) : exec .tailTimerExpiry s =
    .next (testCollection (s.setPacer { s.pacer with tailTimer := none, tailExpired := true })) := by
  have harm : exec .tailTimerExpiry s = execTailTimerExpiry s := rfl
  rw [harm, execTailTimerExpiry, if_pos htimer]

theorem exec_entrySilent_eq {k : Nat} {e : LagEntry} (he : s.pacer.lag.find? (fun e => e.carver == k) = some e)
    (hphase : s.pacer.phase ≠ .off) (hdropped : e.dropped = false) (hsilent : e.silent = false) :
    exec (.entrySilent k) s = .next (fallSilent k e s) := by
  have harm : exec (.entrySilent k) s = execEntrySilent k s := rfl
  have hentry : s.pacer.entryOf k = some e := he
  simp [harm, execEntrySilent, hentry, hphase, hdropped, hsilent]

theorem unchangedBut_setPacer (x : Pacer) (s : State) : UnchangedBut [.pacer] s (s.setPacer x) := by
  intro b hb
  cases b <;> simp [Block.same] at hb ⊢

/-- A silent participating entry shuts the gate (R57, R81). -/
theorem gateOpen_of_silent {e : LagEntry} (he : e ∈ s.pacer.lag) (hdropped : e.dropped = false)
    (hsilent : e.silent = true) : s.gateOpen = false := by
  have hshut (n : Seq) : s.pacer.allows n = false := by
    rw [← Bool.not_eq_true, Pacer.allows, List.all_eq_true]
    intro hall
    have hone := hall e (by simp [Pacer.participating, he, hdropped])
    simp [hsilent] at hone
  unfold State.gateOpen
  cases s.gen.due <;> simp [hshut]

theorem enrolmentTimer_ends (hr : s.job.record = some r) (hw : r.work = .tracer w)
    (htimer : s.pacer.enrolTimer.isSome = true) (henrolling : s.pacer.enrolling = true) :
    ∃ t, exec .enrolmentTimerExpiry s = .next t ∧
      (s.job.state = .stopped →
        t.pacer = { s.pacer with enrolTimer := none, decision := some .enrolment } ∧ UnchangedBut [.pacer] s t) ∧
      (s.job.state = .running → s.pacer.lag = [] →
        t.job = { s.job with state := .armed } ∧ t.pacer = { s.pacer with enrolTimer := none, phase := .off } ∧
        t.cond.has .noCarvers = true ∧ UnchangedBut [.bus, .job, .pacer, .motion, .cond] s t) ∧
      (s.job.state = .running → s.pacer.lag ≠ [] → PassDecided 0 r w s.pacer.lag s.gen s t ∧
        ((∃ k ∈ w.enrol, ∀ e ∈ s.pacer.lag, e.carver ≠ k) → t.cond.has .carverAbsent = true)) ∧
      UnchangedBut [.bus, .job, .gen, .pacer, .store, .motion, .guard, .cond] s t := by
  have harm := exec_enrolmentTimerExpiry_eq htimer henrolling
  obtain ⟨-, hdecision, -⟩ := (enrolling_iff _).1 henrolling
  refine ⟨_, harm, fun hstate => ?_, fun hstate hlag => ?_, fun hstate hlag => ?_,
    commandsWriteOnlyTheirBlocks _ _ _ harm⟩
  · rw [endEnrolment_of_stopped hstate]
    exact ⟨rfl, unchangedBut_setPacer _ s⟩
  · rw [endEnrolment_of_running hstate, enrolmentResult_of_empty hlag, pacer_notEnrolled, hdecision.symm]
    exact ⟨job_notEnrolled s, rfl, has_noCarvers_notEnrolled s, notEnrolled_unchangedBut s⟩
  · rw [endEnrolment_of_running hstate, enrolmentResult_of_entries (tracerJob_of_record hr hw) hlag]
    exact ⟨passDecided_enrolled hr hw hstate, fun hmissing => has_carverAbsent_enrolled ((lacks_iff _ _).2 hmissing)⟩

/-- Settles O36, timer by timer. -/
theorem pacerTimersEnd : Obligations.PacerTimersEnd := by
  unfold Obligations.PacerTimersEnd
  refine fun s => ⟨fun r hr w hw hfinish => ⟨fun htimer hphase hdecision => ?_, fun htimer hphase => ?_⟩,
    fun hphase k e he hdropped hsilent => ?_⟩
  · exact enrolmentTimer_ends hr hw htimer ((enrolling_iff _).2 ⟨hphase, hdecision, hfinish⟩)
  · intro waited collected
    have harm := exec_tailTimerExpiry_eq htimer
    set u := s.setPacer waited with hu
    have hcollected : u.pacer.collected = true ↔ collected := collected_iff u.pacer
    refine ⟨_, harm, fun hopen => ?_, fun hdone hstate => ?_, fun hdone hstate => ?_,
      commandsWriteOnlyTheirBlocks _ _ _ harm⟩
    · rw [testCollection_of_open (s := u) (by rwa [← Bool.not_eq_true, hcollected])]
      exact ⟨rfl, unchangedBut_setPacer _ s⟩
    · rw [testCollection_of_stopped (s := u) hphase hfinish (hcollected.2 hdone) hstate]
      exact ⟨rfl, (unchangedBut_setPacer _ s).trans (unchangedBut_setPacer _ u)⟩
    · rw [testCollection_of_running (s := u) hphase hfinish (hcollected.2 hdone) hstate]
      exact (passDecided_decidePass (s := u) hr hw hstate _).at_ rfl rfl rfl (.refl _)
  · have harm := exec_entrySilent_eq he hphase hdropped hsilent
    have hentry : { e with silent := true } ∈ s.pacer.lag.map fun x =>
        if x.carver = k then { e with silent := true } else x := by
      refine List.mem_map.2 ⟨e, List.mem_of_find?_eq_some he, if_pos ?_⟩
      simpa using List.find?_some he
    have hpacer : (fallSilent k e s).pacer = s.pacer.setEntry k { e with silent := true } := by simp [fallSilent]
    refine ⟨_, harm, hpacer, fun hstate => ?_, fun hstate => ?_, ?_, commandsWriteOnlyTheirBlocks _ _ _ harm⟩
    · simp [fallSilent, has_raiseIf, State.isRunning, hstate]
    · simp [fallSilent, raiseIf, State.isRunning, hstate]
    · refine gateOpen_of_silent (e := { e with silent := true }) ?_ hdropped rfl
      rw [hpacer]
      exact hentry

end

end Sys2Proof.Machine

/-! SUPPORT. A raster job whose travel window is empty, its least x beyond its greatest (R61, R85): a face move and a return move
are clamped to the least x. -/

namespace Sys2Proof.Machine

open Sys2Proof

/-- A grid of one point at x 200. -/
def onePointGrid : TracerJob where
  mode := .raster
  u0 := 200
  u1 := 200
  v0 := 0
  v1 := 0
  spacing := 50
  stepovers := [50, 50, 50, 50]
  passLimit := 2
  useStore := false
  faces := [0]
  enrol := []

/-- A tracer's record whose travel window runs from x 100 down to x 0. -/
def crossedRecord : JobRecord := { followRecord with xMin := 100, xMax := 0, work := .tracer onePointGrid }

/-- A tracer in a pass of that job, with one record due and no carver in its lag table. -/
def tracerCrossed (kind : RecordKind) (phase : GenPhase) : State :=
  { State.reset with
    straps := { Straps.unsampled with role := .tracer }
    job := { JobStore.afterReset with state := .running, record := some crossedRecord }
    pacer := { Pacer.afterReset with phase := .passing, pass := 1, cls := 2 }
    gen := { Generator.afterReset with
      phase := phase, current := some ⟨1, 2⟩, due := [⟨1, 1, kind, 0, 0, 0, 0, 0, 0, 0⟩] } }

/-- The station after its PASS_END, and after its face-start LIFT. -/
def crossedPassEnded : State := emitHead (tracerCrossed .passEnd .atSample)

def crossedFaceBegun : State := emitHead (tracerCrossed .lift .faceMove)

/-- Refutes O39: with the least x of the travel window beyond the greatest, the return move goes to the least x (R85), where the
obligation has the greatest. -/
theorem not_passEndBeginsCollection : ¬ Obligations.PassEndBeginsCollection := by
  intro h
  obtain ⟨t, ht, -, hhome, -⟩ := h (tracerCrossed .passEnd .atSample) _ [] rfl crossedRecord rfl onePointGrid rfl (by decide)
    (.inl rfl) rfl rfl
  have hexec : exec .emission (tracerCrossed .passEnd .atSample) = .next crossedPassEnded := rfl
  obtain rfl : crossedPassEnded = t := Host.Outcome.next.inj (hexec.symm.trans ht)
  revert hhome
  decide

/-- Refutes O38: with the least x of the travel window beyond the greatest, the face move goes to the least x (R61), where the
obligation has the greatest. -/
theorem not_rasterEmissionMovesTheCarriage : ¬ Obligations.RasterEmissionMovesTheCarriage := by
  intro h
  obtain ⟨t, ht, -, hface, -⟩ := h (tracerCrossed .lift .faceMove) _ [] rfl crossedRecord rfl onePointGrid rfl rfl (by decide)
    rfl nofun 1 2 rfl 50 rfl 0 0 (by decide) (by decide) (by unfold RoundsDown; decide) (by unfold RoundsDown; decide)
  have hexec : exec .emission (tracerCrossed .lift .faceMove) = .next crossedFaceBegun := rfl
  obtain rfl : crossedFaceBegun = t := Host.Outcome.next.inj (hexec.symm.trans ht)
  obtain ⟨hmove, -⟩ := (hface nofun rfl).2
  obtain ⟨hthere, -⟩ := hmove (by decide) rfl
  revert hthere
  decide

end Sys2Proof.Machine

/-! SUPPORT. EMISSION (R57, R58, R81, R94 to R99): the gate, the record handed to the Store, and a replay. -/

namespace Sys2Proof.Machine

open Sys2Proof

section

variable {s t u : State} {j : JobRecord} {w : TracerJob} {r : TraceRecord} {rest : List TraceRecord}

/-! ## The gate (R57, R81) -/

theorem allows_iff (p : Pacer) (n : Seq) : p.allows n = true ↔
    ∀ e ∈ p.lag, e.dropped = false → e.silent = false ∧ (n - e.released).toNat ≤ e.capacity := by
  have hone (e : LagEntry) (p : Prop) : e.dropped = true ∨ p ↔ (e.dropped = false → p) := by cases e.dropped <;> simp
  simp [Pacer.allows, Pacer.participating, hone]

theorem gateOpen_iff (hdue : s.gen.due = r :: rest) : s.gateOpen = true ↔
    s.straps.role = .tracer ∧ s.job.state = .running ∧ s.gen.phase ≠ .awaitStart ∧ s.bus.mute = false ∧
      s.bus.generalHeld < 5 ∧ s.bus.tracesHeld < 4 ∧
      ∀ e ∈ s.pacer.lag, e.dropped = false → e.silent = false ∧ (r.seq - e.released).toNat ≤ e.capacity := by
  rw [← allows_iff]
  simp only [State.gateOpen, hdue, Bus.hasTraceRoom, Bus.hasRoom, State.isTracer, State.isRunning, Bool.and_eq_true,
    beq_iff_eq, bne_iff_ne, Bool.not_eq_true', decide_eq_true_eq]
  tauto

theorem exec_emission_of_open (h : s.gateOpen = true) : exec .emission s = .next (emitHead s) := by
  have harm : exec .emission s = execEmission s := rfl
  rw [harm, execEmission, if_pos h]

theorem exec_emission_of_shut (h : s.gateOpen = false) : exec .emission s = .next s := by
  have harm : exec .emission s = execEmission s := rfl
  simp [harm, execEmission, h]

/-! ## The record emitted and handed to the Store (R58, R94 to R96) -/

/-- The record emitted (R58), before the Store is handed it. -/
def sent (r : TraceRecord) (rest : List TraceRecord) (s : State) : State :=
  ((s.setGen { s.gen with due := rest }).setBus (s.bus.fill .trace 255 (tracePayload r))).setPacer
    { s.pacer with emitted := r.seq }

theorem emittedState_eq (w : TracerJob) (r : TraceRecord) (rest : List TraceRecord) (s : State) :
    emittedState w r rest s = recordEmitted w r (sent r rest s) := rfl

theorem recordEmitted_of_begun (hstate : s.store.state = .empty) (hkind : r.kind = .passStart) (huse : w.useStore = true) :
    recordEmitted w r s = s.setStore { s.store with
      state := .recording, records := [], faces := r.faces, cls := if w.mode = .raster then r.cls else 0 } := by
  cases hmode : w.mode <;> simp [recordEmitted, hstate, hkind, huse, hmode]

theorem recordEmitted_of_unused (hstate : s.store.state = .empty) (h : r.kind ≠ .passStart ∨ w.useStore = false) :
    recordEmitted w r s = s := by
  have hnot : ¬ (r.kind = .passStart ∧ w.useStore = true) := by
    rintro ⟨hkind, huse⟩
    simp [hkind, huse] at h
  simp only [recordEmitted, hstate, if_neg hnot]

theorem recordEmitted_of_point (hstate : s.store.state = .recording) (hkind : r.kind ∈ [.surface, .stroke, .lift]) :
    recordEmitted w r s = if s.store.records.length < 16384 then
        s.setStore { s.store with records := s.store.records ++ [⟨r.kind, r.u, r.v, r.depth, r.angle, r.width⟩] }
      else raise .storeFull (s.setStore { s.store with state := .overflowed, records := [], cls := 0, faces := 0 }) := by
  have hpoint : r.kind = .surface ∨ r.kind = .stroke ∨ r.kind = .lift := by simpa using hkind
  obtain h | h | h := hpoint <;> simp only [recordEmitted, hstate, h, storeLimit, TraceRecord.stored]

theorem recordEmitted_of_room (hstate : s.store.state = .recording) (hkind : r.kind ∈ [.surface, .stroke, .lift])
    (hroom : s.store.records.length < 16384) : recordEmitted w r s = s.setStore { s.store with
      records := s.store.records ++ [⟨r.kind, r.u, r.v, r.depth, r.angle, r.width⟩] } := by
  rw [recordEmitted_of_point hstate hkind, if_pos hroom]

theorem recordEmitted_of_full (hstate : s.store.state = .recording) (hkind : r.kind ∈ [.surface, .stroke, .lift])
    (hfull : 16384 ≤ s.store.records.length) : recordEmitted w r s = raise .storeFull (s.setStore { s.store with
      state := .overflowed, records := [], cls := 0, faces := 0 }) := by
  rw [recordEmitted_of_point hstate hkind, if_neg (Nat.not_lt.2 hfull)]

theorem recordEmitted_of_passEnd (hstate : s.store.state = .recording) (hkind : r.kind = .passEnd) :
    recordEmitted w r s = s.setStore { s.store with state := .complete } := by
  simp only [recordEmitted, hstate, hkind]

theorem recordEmitted_of_closed (h : s.store.state = .complete ∨ s.store.state = .overflowed) :
    recordEmitted w r s = s := by
  obtain h | h := h <;> simp only [recordEmitted, h]

theorem recordEmitted_unchangedBut (w : TracerJob) (r : TraceRecord) (s : State) :
    UnchangedBut [.bus, .store, .cond] s (recordEmitted w r s) := by
  obtain ⟨x, h | h⟩ := recordEmitted_cases w r s
  all_goals
    rw [h]
    intro b hb
    cases b <;> simp [Block.same] at hb ⊢

theorem cursor_recordEmitted (w : TracerJob) (r : TraceRecord) (s : State) :
    (recordEmitted w r s).store.cursor = s.store.cursor := by
  unfold recordEmitted
  split
  · split <;> rfl
  · split
    · rfl
    · rfl
    · split <;> simp
  · rfl
  · rfl

theorem emitHead_of_live (hdue : s.gen.due = r :: rest) (hj : s.job.record = some j) (hw : j.work = .tracer w)
    (hcursor : s.store.cursor = none) : emitHead s = afterLive j w r (emittedState w r rest s) := by
  have hkept : (emittedState w r rest s).store.cursor = none := (cursor_recordEmitted w r _).trans hcursor
  rw [emitHead_eq hdue hj (tracerJob_of_record hj hw), hkept]

theorem emitHead_of_replay (hdue : s.gen.due = r :: rest) (hj : s.job.record = some j) (hw : j.work = .tracer w)
    {c : Cursor} (hcursor : s.store.cursor = some c) : emitHead s = afterReplay j w c (emittedState w r rest s) := by
  have hkept : (emittedState w r rest s).store.cursor = some c := (cursor_recordEmitted w r _).trans hcursor
  rw [emitHead_eq hdue hj (tracerJob_of_record hj hw), hkept]

/-- What follows a live record other than the PASS_END is the Generator's and a move. -/
theorem afterLive_unchangedBut (h : r.kind ≠ .passEnd) :
    UnchangedBut [.bus, .gen, .motion, .guard, .cond] s (afterLive j w r s) := by
  unfold afterLive
  intro b hb
  split
  · contradiction
  · split <;> cases b <;> simp [Block.same] at hb ⊢
  · split
    · split <;> cases b <;> simp [Block.same] at hb ⊢
    · cases b <;> simp [Block.same] at hb ⊢

theorem sent_unchangedBut (r : TraceRecord) (rest : List TraceRecord) (s : State) :
    UnchangedBut [.bus, .gen, .pacer] s (sent r rest s) := by
  intro b hb
  cases b <;> simp [Block.same, sent] at hb ⊢

theorem emittedState_unchangedBut (w : TracerJob) (r : TraceRecord) (rest : List TraceRecord) (s : State) :
    UnchangedBut [.bus, .gen, .pacer, .store, .cond] s (emittedState w r rest s) :=
  ((sent_unchangedBut r rest s).mono (by decide)).trans ((recordEmitted_unchangedBut w r _).mono (by decide))

theorem gen_emittedState (w : TracerJob) (r : TraceRecord) (rest : List TraceRecord) (s : State) :
    (emittedState w r rest s).gen = { s.gen with due := rest } :=
  (recordEmitted_unchangedBut w r (sent r rest s) .gen (by decide) : _ = _)

/-! ## The emission of the head record (R57, R58, R94 to R96) -/

/-- A live record other than the PASS_END leaves the recording as the Store has it after it was handed the record. -/
theorem store_emitHead_of_live (hdue : s.gen.due = r :: rest) (hj : s.job.record = some j) (hw : j.work = .tracer w)
    (hcursor : s.store.cursor = none) (hkind : r.kind ≠ .passEnd) :
    (emitHead s).store = (recordEmitted w r (sent r rest s)).store := by
  rw [emitHead_of_live hdue hj hw hcursor, emittedState_eq]
  exact (afterLive_unchangedBut hkind .store (by decide) : _ = _)

theorem has_storeFull_emitHead (hdue : s.gen.due = r :: rest) (hj : s.job.record = some j) (hw : j.work = .tracer w)
    (hcursor : s.store.cursor = none) (hfull : (emittedState w r rest s).cond.has .storeFull = true) :
    (emitHead s).cond.has .storeFull = true := by
  rw [emitHead_of_live hdue hj hw hcursor]
  exact (evolves_afterLive (a := false) j w r _).has hfull

/-- Settles O37: the record is handed to the Store before what follows it, which leaves the recording as it is. -/
theorem emissionPassesTheGate : Obligations.EmissionPassesTheGate := by
  unfold Obligations.EmissionPassesTheGate
  intro s r rest hdue j hj w hw open_
  have hopen : s.gateOpen = true ↔ open_ := gateOpen_iff hdue
  refine ⟨fun h => ?_, fun h => exec_emission_of_shut (by rwa [← Bool.not_eq_true, hopen])⟩
  have harm := exec_emission_of_open (hopen.2 h)
  have hfollows := follows_emitHead hdue hj (tracerJob_of_record hj hw)
  obtain ⟨⟨hplace, hqueue⟩, -, hpacer⟩ := emittedState_sent w r rest s
  refine ⟨_, harm, ?_, ?_, ⟨_, hfollows.queue hplace, rfl, rfl, rfl, rfl⟩, fun g hg => hfollows.queue (hqueue hg),
    fun hcursor => ⟨fun hstate hkind huse => ?_, fun hstate hnot hkind => ?_, fun hstate hkind => ?_, fun hstate hkind => ?_,
      fun hstate hkind => ?_⟩, commandsWriteOnlyTheirBlocks _ _ _ harm⟩
  · rw [hfollows.emitted, hpacer]
  · rw [hfollows.lag, hpacer]
  · rw [store_emitHead_of_live hdue hj hw hcursor (by simp [hkind]), recordEmitted_of_begun (s := sent r rest s) hstate hkind huse]
    rfl
  · rw [store_emitHead_of_live hdue hj hw hcursor hkind, recordEmitted_of_unused (s := sent r rest s) hstate hnot]
    rfl
  · have hlive : r.kind ≠ .passEnd := by
      rintro hend
      simp [hend] at hkind
    refine ⟨fun hroom => ?_, fun hfull => ?_⟩
    · rw [store_emitHead_of_live hdue hj hw hcursor hlive, recordEmitted_of_room (s := sent r rest s) hstate hkind hroom]
      rfl
    · have hover := recordEmitted_of_full (s := sent r rest s) (w := w) hstate hkind hfull
      refine ⟨?_, has_storeFull_emitHead hdue hj hw hcursor ?_⟩
      · rw [store_emitHead_of_live hdue hj hw hcursor hlive, hover]
        simp [sent]
      · rw [emittedState_eq, hover]
        simp [has_raise]
  · have hcompleted : (emittedState w r rest s).store = { s.store with state := .complete } := by
      rw [emittedState_eq, recordEmitted_of_passEnd (s := sent r rest s) hstate hkind]
      rfl
    refine ⟨?_, ?_, ?_, ?_⟩
    · rw [hfollows.storeState, hcompleted]
    · rw [hfollows.records, hcompleted]
    · rw [hfollows.storeCls, hcompleted]
    · rw [hfollows.storeFaces, hcompleted]
  · rw [store_emitHead_of_live hdue hj hw hcursor hkind, recordEmitted_of_closed (s := sent r rest s) hstate]
    rfl

/-! ## A replay (R97 to R99) -/

theorem afterReplay_of_next {c next : Cursor} (h : s.store.after c = some next) :
    afterReplay j w c s = buildReplay next s := by
  simp only [afterReplay, h]

/-- The item a replay builds at place k of the recording: its record, or the PASS_END after the last one (R98). -/
def TraceStore.place (st : TraceStore) (k : Nat) : Cursor := if k < st.records.length then .record k else .passEnd

theorem after_of_place (st : TraceStore) (k : Nat) :
    st.after (if k = 0 then .passStart else .record (k - 1)) = some (st.place k) := by
  cases k with
  | zero => cases hrecords : st.records <;> simp [TraceStore.after, TraceStore.place, hrecords]
  | succ k =>
    simp only [Nat.succ_ne_zero, if_false, Nat.add_sub_cancel, TraceStore.after, TraceStore.place]
    split <;> rfl

/-- Settles O40: each emission of a replay builds the item at the next place of the recording. -/
theorem replayFollowsTheRecording : Obligations.ReplayFollowsTheRecording := by
  unfold Obligations.ReplayFollowsTheRecording
  intro s r rest hdue j hj w hw hgate hstate k hcursor
  have harm := exec_emission_of_open hgate
  have hcursor' : s.store.cursor = some (if k = 0 then .passStart else .record (k - 1)) := by
    rw [hcursor]
    split <;> rfl
  have hemit : emitHead s = buildReplay (s.store.place k) (sent r rest s) := by
    rw [emitHead_of_replay hdue hj hw hcursor', emittedState_eq, recordEmitted_of_closed (s := sent r rest s) (.inl hstate)]
    exact afterReplay_of_next (after_of_place s.store k)
  rw [hemit] at harm
  refine ⟨_, harm, fun q hq => ?_, fun hend => ?_, rfl, ?_⟩
  · obtain ⟨hlt, -⟩ := List.getElem?_eq_some_iff.1 hq
    have hplace : s.store.place k = .record k := if_pos hlt
    have hitem : s.store.item s.pacer.pass (.record k) =
        { pass := s.pacer.pass, kind := q.kind, u := q.u, v := q.v, depth := q.depth, angle := q.angle
          width := q.width } := by
      simp only [TraceStore.item, hq]
    rw [hplace]
    refine ⟨rfl, ?_⟩
    have hbuilt : (buildReplay (.record k) (sent r rest s)).gen = { s.gen with
      due := rest ++ [(s.store.item s.pacer.pass (.record k)).record s.gen.nextSeq], nextSeq := s.gen.nextSeq + 1 } := rfl
    rw [hbuilt, hitem]
    rfl
  · rw [show s.store.place k = .passEnd from if_neg (Nat.not_lt.2 hend)]
    exact ⟨rfl, rfl⟩
  · intro b hb
    cases b <;> simp [Block.same, sent] at hb ⊢

end

end Sys2Proof.Machine

/-! SUPPORT. CREDIT (R76 to R80, R86, R91): the entry it updates, drops or reports, and the carver it admits. -/

namespace Sys2Proof.Machine

open Sys2Proof

section

variable {s t u : State} {r : JobRecord} {w : TracerJob} {f : Frame} {rest : List Frame} {e : LagEntry} {c : CreditReport}
  {emitted : Seq} {now : Nat}

/-! ## A CREDIT read (section 13.6) -/

theorem flagOf_eq_beq {n : Nat} (h : n ≤ 1) : flagOf n = (n == 1) := by
  interval_cases n <;> rfl

theorem classOf_eq {n : Nat} (h : n ≤ 3) : classOf n = n := if_pos (Nat.lt_succ_of_le h)

/-- The fields of a CREDIT whose flag and class are in range (section 13.6). -/
def creditOf (f : Frame) : CreditReport :=
  ⟨f.src, u16At f.payload 0, stateOf (byteAt f.payload 2), BitVec.ofNat 16 (u16At f.payload 3), byteAt f.payload 5,
    byteAt f.payload 6, byteAt f.payload 7 == 1, byteAt f.payload 8⟩

theorem readCredit_eq (hflag : byteAt f.payload 7 ≤ 1) (hcls : byteAt f.payload 8 ≤ 3) : readCredit f = creditOf f := by
  rw [creditOf, ← flagOf_eq_beq hflag]
  exact congrArg (CreditReport.mk _ _ _ _ _ _ _) (classOf_eq hcls)

theorem takesPart_stateOf (n : Nat) : (stateOf n).takesPart = true ↔ n ∈ [4, 5, 7] := by
  unfold stateOf
  split <;> simp_all [StationState.takesPart]

theorem hasLeft_stateOf (n : Nat) : (stateOf n).hasLeft = true ↔ n ∈ [6, 8, 9] := by
  unfold stateOf
  split <;> simp_all [StationState.hasLeft]

theorem not_takesPart_of_left {n : Nat} (h : n ∈ [6, 8, 9]) : (stateOf n).takesPart = false := by
  rw [← Bool.not_eq_true, takesPart_stateOf]
  simp only [List.mem_cons, List.not_mem_nil, or_false] at h ⊢
  omega

theorem stateOf_eq_running (n : Nat) : stateOf n = .running ↔ n = 5 := by
  unfold stateOf
  split <;> simp_all

theorem exec_credit_of_front (hrx : s.bus.rx = f :: rest) (hkind : f.kind = .credit) (hrole : s.straps.role = .tracer) :
    exec .credit s = .next (takeCredit (readCredit f) (s.dropFrame rest)) := by
  have harm : exec .credit s = .next (takeFrame .credit creditFrame s) := rfl
  have htracer : (s.dropFrame rest).isTracer = true := by simp [State.isTracer, hrole]
  rw [harm, takeFrame_of_front creditFrame hrx hkind, creditFrame, if_pos htracer]

/-! ## The entry of its sender (R79, R80) -/

theorem takeCredit_of_entry (he : s.pacer.entryOf c.src = some e) (hphase : s.pacer.phase ≠ .off) :
    takeCredit c s = creditFromEntry e c s := by
  simp only [takeCredit, he, if_neg hphase]

theorem takeCredit_of_done (he : s.pacer.entryOf c.src = some e) (hphase : s.pacer.phase = .off)
    (hstate : s.job.state = .done) : takeCredit c s = creditInDone e c s := by
  simp only [takeCredit, he, if_pos hphase, if_pos hstate]

theorem takeCredit_of_off (he : s.pacer.entryOf c.src = some e) (hphase : s.pacer.phase = .off)
    (hstate : s.job.state ≠ .done) : takeCredit c s = s := by
  simp only [takeCredit, he, if_pos hphase, if_neg hstate]

theorem takeCredit_of_stranger (h : ∀ e ∈ s.pacer.lag, e.carver ≠ c.src) :
    takeCredit c s = if admits s c then admitCarver c s else s := by
  have hnone : s.pacer.entryOf c.src = none := by simpa [Pacer.entryOf, List.find?_eq_none] using h
  simp only [takeCredit, hnone]

theorem creditFromEntry_of_dropped (h : e.dropped = true) :
    creditFromEntry e c s = s.setPacer (s.pacer.setEntry c.src (e.report c s.now)) := if_pos h

theorem creditFromEntry_of_part (hdropped : e.dropped = false) (hid : s.holdsId c.jobId = true)
    (hpart : c.state.takesPart = true) : creditFromEntry e c s = creditUpdate e c s := by
  simp [creditFromEntry, hdropped, hid, hpart]

theorem creditFromEntry_of_left (hdropped : e.dropped = false) (hid : s.holdsId c.jobId = true)
    (hpart : c.state.takesPart = false) (hleft : c.state.hasLeft = true) : creditFromEntry e c s =
      testCollection (dropEntry c.src (e.update c s.pacer.emitted s.now (s.pacer.phase == .enrolling)) s) := by
  simp [creditFromEntry, hdropped, hid, hpart, hleft]

theorem creditFromEntry_of_other (hdropped : e.dropped = false)
    (hother : s.holdsId c.jobId = false ∨ (c.state.takesPart = false ∧ c.state.hasLeft = false)) :
    creditFromEntry e c s = testCollection (dropEntry c.src { e with last := c.state, lastHeard := s.now } s) := by
  obtain hid | ⟨hpart, hleft⟩ := hother
  · simp [creditFromEntry, hdropped, hid]
  · simp [creditFromEntry, hdropped, hpart, hleft]

/-- The entry of a carver heard now (R79), before its end-of-pass fields. -/
def LagEntry.heard (e : LagEntry) (c : CreditReport) (emitted : Seq) (now : Nat) : LagEntry :=
  { e with
    last := c.state, free := c.free, lastHeard := now, silent := false, released := forward e.released emitted c.released }

theorem update_of_enrolling : e.update c emitted now true = e.heard c emitted now := rfl

theorem update_of_pass : e.update c emitted now false = (e.heard c emitted now).updatePass c := rfl

theorem updatePass_of_new (h : e.completed ≤ c.completed) : (e.heard c emitted now).updatePass c =
    { e.heard c emitted now with completed := c.completed, wants := c.wants, cls := c.cls, presumed := false } := if_pos h

theorem updatePass_of_old (h : ¬ e.completed ≤ c.completed) :
    (e.heard c emitted now).updatePass c = e.heard c emitted now := if_neg h

theorem creditUpdate_of_phase (hphase : s.pacer.phase ≠ .collecting) : creditUpdate e c s =
    s.setPacer (s.pacer.setEntry c.src (e.update c s.pacer.emitted s.now (s.pacer.phase == .enrolling))) := by
  have hnot (x : LagEntry) : presumes s.pacer x c = false := by simp [presumes, hphase]
  simp only [creditUpdate, hnot, Bool.false_eq_true, if_false]
  exact testCollection_of_phase hphase

theorem pacer_dropEntry (k : Nat) (e : LagEntry) (s : State) :
    (dropEntry k e s).pacer = s.pacer.setEntry k { e with dropped := true, silent := false } := by
  simp [dropEntry]

theorem has_carverDropped_dropEntry (k : Nat) (e : LagEntry) (s : State) :
    (dropEntry k e s).cond.has .carverDropped = true := by
  simp [dropEntry, has_raise]

theorem dropEntry_unchangedBut (k : Nat) (e : LagEntry) (s : State) :
    UnchangedBut [.bus, .pacer, .cond] s (dropEntry k e s) := by
  intro b hb
  cases b <;> simp [Block.same, dropEntry] at hb ⊢

/-- A CREDIT that drops its sender's entry in PASSING (R79, R80). -/
theorem dropped_in_passing (hphase : s.pacer.phase = .passing)
    (harm : exec .credit s = .next (testCollection (dropEntry f.src e (s.dropFrame rest)))) :
    ∃ t, exec .credit s = .next t ∧ t.bus.rx = rest ∧
      t.pacer = { s.pacer with
        lag := s.pacer.lag.map fun x => if x.carver = f.src then { e with dropped := true, silent := false } else x } ∧
      t.cond.has .carverDropped = true ∧ UnchangedBut [.bus, .pacer, .cond] s t := by
  have hpacer := pacer_dropEntry f.src e (s.dropFrame rest)
  rw [testCollection_of_phase (by simp [hpacer, Pacer.setEntry, hphase])] at harm
  refine ⟨_, harm, by simp [dropEntry], hpacer, has_carverDropped_dropEntry _ _ _, ?_⟩
  exact ((dropFrame_unchangedBut s rest).mono (by decide)).trans (dropEntry_unchangedBut _ _ _)

theorem pacerSet_unchangedBut (s : State) (rest : List Frame) (x : Pacer) :
    UnchangedBut [.bus, .pacer] s ((s.dropFrame rest).setPacer x) :=
  ((dropFrame_unchangedBut s rest).mono (by decide)).trans ((unchangedBut_setPacer x _).mono (by decide))

theorem holdsId_dropFrame (hr : s.job.record = some r) (rest : List Frame) (id : Nat) :
    (s.dropFrame rest).holdsId id = true ↔ id = r.id := by
  have hur : (s.dropFrame rest).job.record = some r := hr
  rw [holdsId_of_record hur, beq_iff_eq, eq_comm]

/-- Settles O34, by the row of R79's table that the CREDIT meets. -/
theorem creditUpdatesItsEntry : Obligations.CreditUpdatesItsEntry := by
  unfold Obligations.CreditUpdatesItsEntry
  intro s f rest hrx hkind hrole r hr hphase
  have harm := exec_credit_of_front hrx hkind hrole
  let u := s.dropFrame rest
  refine ⟨fun hnone => ?_, fun e he hcode hcode' hflag hcls => ?_⟩
  · have hnot : admits u (readCredit f) = false := by
      have huphase : u.pacer.phase = .passing := hphase
      simp [admits, Pacer.enrolling, huphase]
    rw [takeCredit_of_stranger (s := u) (c := readCredit f) hnone, hnot, if_neg Bool.false_ne_true] at harm
    exact ⟨_, harm, rfl, dropFrame_unchangedBut s rest⟩
  · intro l' updated with_ named drops
    have huphase : u.pacer.phase = .passing := hphase
    have hnamed : u.holdsId (creditOf f).jobId = true ↔ named := holdsId_dropFrame hr rest _
    have hupdated : e.update (creditOf f) u.pacer.emitted u.now (u.pacer.phase == .enrolling) = updated := by
      have hpass : (u.pacer.phase == .enrolling) = false := by simp [huphase]
      rw [hpass, update_of_pass]
      by_cases hnew : e.completed ≤ byteAt f.payload 6
      · rw [updatePass_of_new (c := creditOf f) hnew]
        simp only [updated, if_pos hnew, Nat.max_eq_right hnew]
        rfl
      · rw [updatePass_of_old (c := creditOf f) hnew]
        simp only [updated, if_neg hnew, Nat.max_eq_left (Nat.le_of_not_le hnew)]
        rfl
    have hdrops {x : LagEntry} (hdrop : takeCredit (creditOf f) u = testCollection (dropEntry f.src x u)) :
        drops { x with silent := false } := dropped_in_passing hphase (e := x) (by rw [harm, readCredit_eq hflag hcls, hdrop])
    rw [readCredit_eq hflag hcls, takeCredit_of_entry (s := u) (c := creditOf f) he (by rw [huphase]; nofun)] at harm
    rw [takeCredit_of_entry (s := u) (c := creditOf f) he (by rw [huphase]; nofun)] at hdrops
    refine ⟨fun hdropped hid hpart => ?_, fun hdropped hid hleft => ?_, fun hdropped hother => ?_, fun hdropped => ?_⟩
    · rw [creditFromEntry_of_part hdropped (hnamed.2 hid) ((takesPart_stateOf _).2 hpart),
        creditUpdate_of_phase (by rw [huphase]; nofun), hupdated] at harm
      exact ⟨_, harm, rfl, rfl, pacerSet_unchangedBut s rest _⟩
    · refine hdrops (x := updated) ?_
      rw [creditFromEntry_of_left hdropped (hnamed.2 hid) (not_takesPart_of_left hleft) ((hasLeft_stateOf _).2 hleft),
        hupdated]
      rfl
    · refine hdrops (x := { e with last := stateOf (byteAt f.payload 2), lastHeard := s.now }) ?_
      refine creditFromEntry_of_other hdropped (hother.imp (fun hid => ?_) fun hout => ?_)
      · rwa [← Bool.not_eq_true, hnamed]
      · rw [← Bool.not_eq_true, ← Bool.not_eq_true]
        refine ⟨fun hpart => ?_, fun hleft => ?_⟩
        · replace hpart := (takesPart_stateOf _).1 hpart
          simp only [List.mem_cons, List.not_mem_nil, or_false] at hpart hout
          omega
        · replace hleft := (hasLeft_stateOf _).1 hleft
          simp only [List.mem_cons, List.not_mem_nil, or_false] at hleft hout
          omega
    · rw [creditFromEntry_of_dropped hdropped] at harm
      exact ⟨_, harm, rfl, rfl, pacerSet_unchangedBut s rest _⟩

/-! ## The end of collection tested at a CREDIT (R86, R87, R89) -/

theorem sameRoom_dropFrame (s : State) (rest : List Frame) : SameRoom s (s.dropFrame rest) := ⟨rfl, rfl⟩

/-- A CREDIT in COLLECTING, from a carver taking part or not, has written the lag table l, and the end of collection has been
tested from there (R79, R86, R87, R89). -/
def CollectionTested (takesPart : Prop) (r : JobRecord) (w : TracerJob) (rest : List Frame) (l : List LagEntry)
    (s t : State) : Prop :=
  let collected := ∀ x ∈ l, x.dropped = false → s.pacer.pass ≤ x.completed
  t.bus.rx = rest ∧ (¬ takesPart → t.cond.has .carverDropped = true) ∧
  (takesPart → s.job.state = .stopped ∨ ¬ collected → t.cond = s.cond ∧ t.bus = { s.bus with rx := rest }) ∧
  (¬ collected → t.pacer = { s.pacer with lag := l } ∧ UnchangedBut [.bus, .pacer, .cond] s t) ∧
  (collected → s.job.state = .stopped → t.pacer = { s.pacer with lag := l, decision := some .collection } ∧
    UnchangedBut [.bus, .pacer, .cond] s t) ∧
  (collected → s.job.state = .running → PassDecided s.pacer.pass r w l s.gen s t) ∧
  UnchangedBut [.bus, .job, .gen, .pacer, .store, .motion, .guard, .cond] s t

theorem collection_tested {v : State} {l : List LagEntry} {takesPart : Prop} (hr : s.job.record = some r)
    (hw : r.work = .tracer w) (hphase : s.pacer.phase = .collecting) (hfinish : s.pacer.finishDue = false)
    (harm : exec .credit s = .next (testCollection v)) (hpacer : v.pacer = { s.pacer with lag := l })
    (hframe : UnchangedBut [.bus, .pacer, .cond] s v) (hroom : SameRoom s v) (hrx : v.bus.rx = rest)
    (hdrop : ¬ takesPart → v.cond.has .carverDropped = true)
    (hkept : takesPart → v.cond = s.cond ∧ v.bus = { s.bus with rx := rest }) :
    ∃ t, exec .credit s = .next t ∧ CollectionTested takesPart r w rest l s t := by
  let collected := ∀ x ∈ l, x.dropped = false → s.pacer.pass ≤ x.completed
  have hvjob : v.job = s.job := hframe .job (by decide)
  have hvgen : v.gen = s.gen := hframe .gen (by decide)
  have hvphase : v.pacer.phase = .collecting := by rw [hpacer, hphase]
  have hvfinish : v.pacer.finishDue = false := by rw [hpacer, hfinish]
  have hvpass : v.pacer.pass = s.pacer.pass := by rw [hpacer]
  have hvlag : v.pacer.lag = l := by rw [hpacer]
  have hcollected : v.pacer.collected = true ↔ collected := by rw [collected_iff, hvlag, hvpass]
  have hopen (h : ¬ collected) : testCollection v = v :=
    testCollection_of_open (by rwa [← Bool.not_eq_true, hcollected])
  have hstopped (h : collected) (hstate : s.job.state = .stopped) :
      testCollection v = v.setPacer { v.pacer with decision := some .collection } :=
    testCollection_of_stopped hvphase hvfinish (hcollected.2 h) (by rwa [hvjob])
  refine ⟨_, harm, by simp [hrx], fun hnot => (evolves_testCollection (a := false) v).has (hdrop hnot),
    fun hpart hstay => ?_, fun hnot => ?_, fun hdone hstate => ?_, fun hdone hstate => ?_,
    commandsWriteOnlyTheirBlocks _ _ _ harm⟩
  · by_cases hdone : collected
    · rw [hstopped hdone (hstay.resolve_right (not_not_intro hdone))]
      exact hkept hpart
    · rw [hopen hdone]
      exact hkept hpart
  · rw [hopen hnot]
    exact ⟨hpacer, hframe⟩
  · rw [hstopped hdone hstate, hpacer]
    exact ⟨rfl, hframe.trans ((unchangedBut_setPacer _ v).mono (by decide))⟩
  · rw [testCollection_of_running hvphase hvfinish (hcollected.2 hdone) (by rwa [hvjob]), hvpass]
    have hdecided := passDecided_decidePass (s := v) (by rwa [hvjob]) hw (by rwa [hvjob]) s.pacer.pass
    rw [hvlag, hvgen] at hdecided
    exact hdecided.at_ hvjob (hframe .store (by decide)) (hframe .inputs (by decide)) hroom

theorem collection_tested_of_drop {x : LagEntry} {takesPart : Prop} (hnot : ¬ takesPart) (hr : s.job.record = some r)
    (hw : r.work = .tracer w) (hphase : s.pacer.phase = .collecting) (hfinish : s.pacer.finishDue = false)
    (harm : exec .credit s = .next (testCollection (dropEntry f.src x (s.dropFrame rest)))) :
    ∃ t, exec .credit s = .next t ∧ CollectionTested takesPart r w rest
      (s.pacer.lag.map fun y => if y.carver = f.src then { x with dropped := true, silent := false } else y) s t := by
  have hframe := (dropFrame_unchangedBut s rest).mono (l' := [.bus, .pacer, .cond]) (by decide)
  have hroom : SameRoom s (dropEntry f.src x (s.dropFrame rest)) :=
    (sameRoom_dropFrame s rest).trans (.after (sameRoom_raise _ _) rfl)
  exact collection_tested hr hw hphase hfinish harm (pacer_dropEntry _ _ _) (hframe.trans (dropEntry_unchangedBut _ _ _)) hroom
    (by simp [dropEntry]) (fun _ => has_carverDropped_dropEntry _ _ _) fun h => absurd h hnot

theorem presumes_iff (p : Pacer) (e : LagEntry) (c : CreditReport) : presumes p e c = true ↔
    p.phase = .collecting ∧ p.tailExpired = true ∧ e.completed < p.pass ∧ e.free = e.capacity ∧ c.state = .running ∧
      e.dropped = false := by
  simp [presumes, and_assoc]

theorem dropped_update (enrolling : Bool) : (e.update c emitted now enrolling).dropped = e.dropped := by
  cases enrolling
  · rw [update_of_pass, LagEntry.updatePass]
    split <;> rfl
  · rfl

theorem silent_update (enrolling : Bool) : (e.update c emitted now enrolling).silent = false := by
  cases enrolling
  · rw [update_of_pass, LagEntry.updatePass]
    split <;> rfl
  · rfl

theorem drop_of_heard (h : e.silent = false) : { e with dropped := true, silent := false } = { e with dropped := true } := by
  rw [← h]

/-- The entry a CREDIT of the job from a carver taking part leaves (R79, R86). -/
def creditedEntry (e : LagEntry) (c : CreditReport) (s : State) : LagEntry :=
  let new := e.update c s.pacer.emitted s.now (s.pacer.phase == .enrolling)
  if presumes s.pacer new c then new.presume s.pacer.pass c else new

theorem creditUpdate_eq (e : LagEntry) (c : CreditReport) (s : State) :
    creditUpdate e c s = testCollection (s.setPacer (s.pacer.setEntry c.src (creditedEntry e c s))) := rfl

/-- Settles O35, by the Pacer's phase. -/
theorem creditsCloseAPassAndAreReported : Obligations.CreditsCloseAPassAndAreReported := by
  unfold Obligations.CreditsCloseAPassAndAreReported
  intro s f rest hrx hkind hrole e he hcode hflag hcls code l' heard updated with_
  have harm := exec_credit_of_front hrx hkind hrole
  rw [readCredit_eq hflag hcls] at harm
  let u := s.dropFrame rest
  let c := creditOf f
  have hpassed : e.update c u.pacer.emitted u.now false = updated := rfl
  have huentry : u.pacer.entryOf c.src = some e := he
  refine ⟨fun r hr w hw hdropped hfinish hphase => ?_, fun hphase hdropped hid hpart => ?_, fun hphase hstate => ?_,
    fun hphase hstate => ?_⟩
  · intro takesPart left presumed new collected
    have hupass : (u.pacer.phase == .enrolling) = false :=
      beq_eq_false_iff_ne.2 (hphase ▸ nofun : s.pacer.phase ≠ .enrolling)
    have hnamed : u.holdsId c.jobId = true ↔ u16At f.payload 0 = r.id := holdsId_dropFrame hr rest _
    have hentry : e.update c u.pacer.emitted u.now (u.pacer.phase == .enrolling) = updated := by rw [hupass, hpassed]
    have hdropframe := (dropFrame_unchangedBut s rest).mono (l' := [.bus, .pacer, .cond]) (by decide)
    rw [takeCredit_of_entry huentry (hphase ▸ nofun : s.pacer.phase ≠ .off)] at harm
    by_cases hpart : takesPart
    · have hpresumes : presumes u.pacer updated c = true ↔ presumed := by
        have hkept : updated.dropped = false := (dropped_update (e := e) (c := c) false).trans hdropped
        have hstate : c.state = .running ↔ code = 5 := stateOf_eq_running _
        rw [presumes_iff, hstate]
        exact ⟨fun ⟨_, hexpired, hlags, hfree, hcode, _⟩ => ⟨hexpired, hlags, hfree, hcode⟩,
          fun ⟨hexpired, hlags, hfree, hcode⟩ => ⟨hphase, hexpired, hlags, hfree, hcode, hkept⟩⟩
      have hnew : creditedEntry e c u = new := by
        simp only [creditedEntry, hentry, new, if_pos hpart]
        by_cases h : presumed
        · rw [if_pos (hpresumes.2 h), if_pos h]
          rfl
        · rw [if_neg (mt hpresumes.1 h), if_neg h]
      rw [creditFromEntry_of_part hdropped (hnamed.2 hpart.1) ((takesPart_stateOf _).2 hpart.2), creditUpdate_eq,
        hnew] at harm
      exact collection_tested hr hw hphase hfinish harm rfl ((pacerSet_unchangedBut s rest _).mono (by decide)) ⟨rfl, rfl⟩
        rfl (absurd hpart) fun _ => ⟨rfl, rfl⟩
    · have hdrops {x : LagEntry} (hx : { x with dropped := true, silent := false } = new)
          (hdrop : creditFromEntry e c u = testCollection (dropEntry f.src x u)) :
          ∃ t, exec .credit s = .next t ∧ CollectionTested takesPart r w rest (with_ new) s t :=
        hx ▸ collection_tested_of_drop hpart hr hw hphase hfinish (hdrop ▸ harm)
      by_cases hleft : left
      · refine hdrops (x := updated) ?_ ?_
        · have hsilent : updated.silent = false := silent_update (e := e) (c := c) false
          rw [drop_of_heard (e := updated) hsilent]
          simp only [new, if_neg hpart, if_pos hleft]
        · rw [creditFromEntry_of_left hdropped (hnamed.2 hleft.1) (not_takesPart_of_left hleft.2)
            ((hasLeft_stateOf _).2 hleft.2), hentry]
          rfl
      · refine hdrops (x := { e with last := stateOf code, lastHeard := s.now }) ?_ ?_
        · simp only [new, if_neg hpart, if_neg hleft]
        · refine creditFromEntry_of_other hdropped ?_
          by_cases hid : u16At f.payload 0 = r.id
          · refine .inr ⟨?_, ?_⟩
            · rw [← Bool.not_eq_true]
              exact fun h => hpart ⟨hid, (takesPart_stateOf _).1 h⟩
            · rw [← Bool.not_eq_true]
              exact fun h => hleft ⟨hid, (hasLeft_stateOf _).1 h⟩
          · rw [← Bool.not_eq_true, hnamed]
            exact .inl hid
  · have hupass : (u.pacer.phase == .enrolling) = true := beq_iff_eq.2 hphase
    rw [takeCredit_of_entry huentry (hphase ▸ nofun : s.pacer.phase ≠ .off),
      creditFromEntry_of_part hdropped hid ((takesPart_stateOf _).2 hpart),
      creditUpdate_of_phase (s := u) (hphase ▸ nofun : s.pacer.phase ≠ .collecting), hupass, update_of_enrolling] at harm
    exact ⟨_, harm, rfl, rfl, pacerSet_unchangedBut s rest _⟩
  · rw [takeCredit_of_done (s := u) huentry hphase hstate] at harm
    exact ⟨_, harm, rfl, rfl, pacerSet_unchangedBut s rest _⟩
  · rw [takeCredit_of_off (s := u) huentry hphase hstate] at harm
    exact ⟨_, harm, rfl, dropFrame_unchangedBut s rest⟩

end

end Sys2Proof.Machine

/-! SUPPORT. A carver admitted (R76 to R78, R84, R89). -/

namespace Sys2Proof.Machine

open Sys2Proof

section

variable {s t u : State} {r : JobRecord} {w : TracerJob} {f : Frame} {rest : List Frame} {c : CreditReport}

theorem enrolComplete_iff (hw : s.tracerJob = some w) :
    s.enrolComplete = true ↔ ∀ k ∈ w.enrol, ∃ e ∈ s.pacer.lag, e.carver = k := by
  simp [State.enrolComplete, hw]

theorem testEnrolment_of_open (h : s.enrolComplete = false) : testEnrolment s = s := by
  simp [testEnrolment, h]

theorem testEnrolment_of_complete (henrolling : s.pacer.enrolling = true) (hcomplete : s.enrolComplete = true) :
    testEnrolment s = endEnrolment s := by
  simp [testEnrolment, henrolling, hcomplete]

/-- The entry of a carver admitted (R77). -/
def admitted (c : CreditReport) (s : State) : LagEntry where
  carver := c.src
  capacity := capacityOf s c
  released := 0
  last := c.state
  completed := 0
  wants := c.wants
  cls := c.cls
  free := c.free
  lastHeard := s.now
  silent := false
  dropped := false
  presumed := false

theorem admitCarver_eq (c : CreditReport) (s : State) : admitCarver c s =
    testEnrolment (s.setPacer { s.pacer with lag := s.pacer.lag ++ [admitted c s] }) := rfl

theorem ofNat_eq_zero_iff {n : Nat} (h : n < 65536) : BitVec.ofNat 16 n = 0#16 ↔ n = 0 := by
  rw [← BitVec.toNat_inj, BitVec.toNat_ofNat, Nat.mod_eq_of_lt h]
  rfl

theorem admits_iff (hr : s.job.record = some r) (hw : r.work = .tracer w) : admits s (readCredit f) = true ↔
    s.pacer.enrolling = true ∧ (f.src ∈ w.enrol ∧ u16At f.payload 0 = r.id ∧ byteAt f.payload 2 ∈ [4, 5, 7] ∧
      u16At f.payload 3 = 0 ∧ byteAt f.payload 6 = 0 ∧ 1 ≤ byteAt f.payload 5 ∧ byteAt f.payload 5 ≤ 240) ∧
      f.src ∉ s.pacer.restarted := by
  have hid : s.holdsId (readCredit f).jobId = true ↔ u16At f.payload 0 = r.id := by
    rw [holdsId_of_record hr, beq_iff_eq, eq_comm]
    rfl
  have hpart : (readCredit f).state.takesPart = true ↔ byteAt f.payload 2 ∈ [4, 5, 7] := takesPart_stateOf _
  have hreleased : ((readCredit f).released == 0) = true ↔ u16At f.payload 3 = 0 := by
    rw [beq_iff_eq]
    exact ofNat_eq_zero_iff (u16At_lt _ _)
  have hcompleted : ((readCredit f).completed == 0) = true ↔ byteAt f.payload 6 = 0 := beq_iff_eq
  simp only [admits, tracerJob_of_record hr hw, Bool.and_eq_true, hid, hpart, hreleased, hcompleted, decide_eq_true_eq,
    List.any_eq_true, beq_iff_eq, exists_eq_right, Bool.not_eq_true', List.contains_eq_mem, decide_eq_false_iff_not]
  exact ⟨fun ⟨⟨⟨⟨⟨⟨⟨hopen, hid⟩, hpart⟩, hreleased⟩, hcompleted⟩, hfree⟩, hrestarted⟩, henrol⟩ =>
      ⟨hopen, ⟨henrol, hid, hpart, hreleased, hcompleted, hfree⟩, hrestarted⟩,
    fun ⟨hopen, ⟨henrol, hid, hpart, hreleased, hcompleted, hfree⟩, hrestarted⟩ =>
      ⟨⟨⟨⟨⟨⟨⟨hopen, hid⟩, hpart⟩, hreleased⟩, hcompleted⟩, hfree⟩, hrestarted⟩, henrol⟩⟩

/-- Settles O33, by whether the CREDIT meets every condition, and whether every carver of the list then has an entry. -/
theorem creditAdmitsACarver : Obligations.CreditAdmitsACarver := by
  unfold Obligations.CreditAdmitsACarver
  intro s f rest hrx hkind hrole r hr w hw hphase hdecision hfinish hstranger qualifies lag complete
  have harm := exec_credit_of_front hrx hkind hrole
  let u := s.dropFrame rest
  have hopen : u.pacer.enrolling = true := (enrolling_iff _).2 ⟨hphase, hdecision, hfinish⟩
  have hadmits : admits u (readCredit f) = true ↔ u.pacer.enrolling = true ∧ qualifies ∧ f.src ∉ s.pacer.restarted :=
    admits_iff (s := u) hr hw
  rw [takeCredit_of_stranger (s := u) (c := readCredit f) hstranger] at harm
  refine ⟨fun hqualifies hrestarted hflag hcls => ?_, fun hnot => ?_⟩
  · let v := u.setPacer { s.pacer with lag := lag }
    have hframe : UnchangedBut [.bus, .pacer] s v := pacerSet_unchangedBut s rest _
    have hentries : admitCarver (readCredit f) u = testEnrolment v := by
      rw [admitCarver_eq, readCredit_eq hflag hcls]
      rfl
    rw [if_pos (hadmits.2 ⟨hopen, hqualifies, hrestarted⟩), hentries] at harm
    have hcomplete : v.enrolComplete = true ↔ complete := by
      rw [enrolComplete_iff (tracerJob_of_record (s := v) hr hw)]
      refine forall₂_congr fun k _ => ?_
      simp only [v, lag, State.setPacer_pacer, List.mem_append, List.mem_singleton, or_and_right, exists_or,
        exists_eq_left, or_comm, eq_comm]
    refine ⟨_, harm, ?_, fun hwait => ?_, fun hdone hstate => ?_, fun hdone hstate => ?_,
      commandsWriteOnlyTheirBlocks _ _ _ harm⟩
    · simp [v, u]
    · rw [testEnrolment_of_open (s := v) (by rwa [← Bool.not_eq_true, hcomplete])]
      exact ⟨rfl, rfl, hframe⟩
    · rw [testEnrolment_of_complete (s := v) hopen (hcomplete.2 hdone), endEnrolment_of_stopped (s := v) hstate]
      exact ⟨rfl, rfl, hframe.trans ((unchangedBut_setPacer _ v).mono (by decide))⟩
    · rw [testEnrolment_of_complete (s := v) hopen (hcomplete.2 hdone), endEnrolment_of_running (s := v) hstate,
        enrolmentResult_of_entries (tracerJob_of_record (s := v) hr hw) (by simp [v, lag])]
      exact (passDecided_enrolled (s := v) hr hw hstate).at_ rfl rfl rfl ⟨rfl, rfl⟩
  · have hrefused : admits u (readCredit f) = false := by
      rw [← Bool.not_eq_true, hadmits]
      rintro ⟨-, hqualifies, hrestarted⟩
      exact hnot.elim (fun h => h hqualifies) fun h => hrestarted h
    rw [hrefused, if_neg Bool.false_ne_true] at harm
    exact ⟨_, harm, rfl, dropFrame_unchangedBut s rest⟩

end

end Sys2Proof.Machine

/-! SUPPORT. FOLLOW mode (R65 to R71): the distance the stylus has gone, a report with and without a hold, the pass buttons, and
the end of a hold. -/

namespace Sys2Proof.Machine

open Sys2Proof

section

variable {s t u : State} {j : JobRecord} {w : TracerJob} {r : TraceRecord} {rest : List TraceRecord} {p : ProbeReport}

/-! ## The distance between two points (R66) -/

/-- q is the square root of n, rounded down. -/
def IsRoot (q n : Nat) : Prop := q * q ≤ n ∧ n < (q + 1) * (q + 1)

theorem IsRoot.unique {p q n : Nat} (hp : IsRoot p n) (hq : IsRoot q n) : p = q := by
  obtain ⟨hple, hplt⟩ := hp
  obtain ⟨hqle, hqlt⟩ := hq
  refine le_antisymm ?_ ?_
  · exact Nat.lt_succ_iff.1 (Nat.mul_self_lt_mul_self_iff.1 (hple.trans_lt hqlt))
  · exact Nat.lt_succ_iff.1 (Nat.mul_self_lt_mul_self_iff.1 (hqle.trans_lt hplt))

/-- One bit more keeps the guess below the root and halves the distance it may lie off it. -/
theorem rootBit_bounds {n guess bit : Nat} (hle : guess * guess ≤ n)
    (hlt : n < (guess + 2 * bit) * (guess + 2 * bit)) :
    rootBit n guess bit * rootBit n guess bit ≤ n ∧ n < (rootBit n guess bit + bit) * (rootBit n guess bit + bit) := by
  unfold rootBit
  split
  case isTrue h =>
    refine ⟨h, ?_⟩
    rwa [show guess + bit + bit = guess + 2 * bit by omega]
  case isFalse h => exact ⟨hle, Nat.lt_of_not_le h⟩

theorem isRoot_rootFrom {n : Nat} (k : Nat) {guess : Nat} (hle : guess * guess ≤ n)
    (hlt : n < (guess + 2 ^ (k + 1)) * (guess + 2 ^ (k + 1))) : IsRoot (rootFrom n k guess) n := by
  induction k generalizing guess with
  | zero => exact rootBit_bounds hle hlt
  | succ k ih =>
    rw [pow_succ'] at hlt
    obtain ⟨hle', hlt'⟩ := rootBit_bounds hle hlt
    exact ih hle' hlt'

theorem isRoot_intRoot (n : Nat) : IsRoot (intRoot n) n := by
  refine isRoot_rootFrom _ (Nat.zero_le _) ?_
  have hlog : n < 2 ^ (Nat.log2 n + 1) := Nat.lt_log2_self
  have hpow : 2 ^ (Nat.log2 n + 1) ≤ 2 ^ (Nat.log2 n / 2 + 1 + (Nat.log2 n / 2 + 1)) :=
    Nat.pow_le_pow_right (by omega) (by omega)
  rw [Nat.zero_add, ← pow_add]
  exact hlog.trans_le hpow

theorem distance_eq {a b : Point} {far : Nat} (hle : far * far ≤ (b.u - a.u).natAbs ^ 2 + (b.v - a.v).natAbs ^ 2)
    (hlt : (b.u - a.u).natAbs ^ 2 + (b.v - a.v).natAbs ^ 2 < (far + 1) * (far + 1)) : distance a b = far := by
  have hu : (a.u - b.u).natAbs = (b.u - a.u).natAbs := by omega
  have hv : (a.v - b.v).natAbs = (b.v - a.v).natAbs := by omega
  rw [distance, hu, hv, ← sq, ← sq]
  exact (isRoot_intRoot _).unique ⟨hle, hlt⟩

/-! ## The end of a hold (R70, R71) -/

theorem lastPoint_eq (g : Generator) : g.lastPoint = (g.last.map (·.at_)).getD ⟨0, 0⟩ := by
  cases h : g.last <;> simp [Generator.lastPoint, h]

/-- The LIFT record built at a point with sequence n (R55). -/
def Generator.liftAt (g : Generator) (w : TracerJob) (p : Point) (n : Seq) : TraceRecord :=
  ⟨n, g.pass, .lift, saturate p.u, saturate p.v, 0, (w.faces[if w.mode = .follow then 0 else g.face]?).getD 0, 0, 0, 0⟩

/-- The PASS_END record with sequence n (R55). -/
def Generator.endAt (g : Generator) (n : Seq) : TraceRecord := ⟨n, g.pass, .passEnd, 0, 0, 0, 0, 0, 0, 0⟩

theorem gen_buildLift (w : TracerJob) (p : Point) (s : State) : (buildLift w p s).gen =
    { s.gen with due := s.gen.due ++ [s.gen.liftAt w p s.gen.nextSeq], nextSeq := s.gen.nextSeq + 1 } := by
  cases hmode : w.mode <;>
    simp [buildLift, build, Built.record, Generator.liftAt, TracerJob.liftAngle, TracerJob.faceAngle, hmode, saturate,
      List.getD_eq_getElem?_getD]

theorem gen_buildPassEnd (s : State) : (buildPassEnd s).gen =
    { s.gen with due := s.gen.due ++ [s.gen.endAt s.gen.nextSeq], nextSeq := s.gen.nextSeq + 1 } := rfl

theorem gen_endFollowPass (w : TracerJob) (s : State) : (endFollowPass w s).gen =
    if s.gen.following then { s.gen with
      due := s.gen.due ++ [s.gen.liftAt w s.gen.lastPoint s.gen.nextSeq, s.gen.endAt (s.gen.nextSeq + 1)]
      nextSeq := s.gen.nextSeq + 1 + 1, following := false }
    else { s.gen with due := s.gen.due ++ [s.gen.endAt s.gen.nextSeq], nextSeq := s.gen.nextSeq + 1 } := by
  unfold endFollowPass
  split
  · simp [gen_buildPassEnd, gen_buildLift]
    rfl
  · rfl

/-- The stylus has outrun the stream while it is followed, and left the groove nowhere: a hold ends with a skip lift (R70). -/
def Generator.SkipLift (g : Generator) (w : TracerJob) : Prop :=
  g.exitPoint = none ∧ g.following = true ∧ 2 * w.spacing < (g.acc : Int)

theorem gen_holdLift_of_exit {q : Point} (h : s.gen.exitPoint = some q) : (holdLift w s).gen =
    { s.gen with due := s.gen.due ++ [s.gen.liftAt w q s.gen.nextSeq], nextSeq := s.gen.nextSeq + 1, acc := 0 } := by
  simp [holdLift, h, gen_buildLift]

theorem gen_holdLift_of_skip (h : s.gen.SkipLift w) : (holdLift w s).gen = { s.gen with
    due := s.gen.due ++ [s.gen.liftAt w s.gen.lastPoint s.gen.nextSeq], nextSeq := s.gen.nextSeq + 1, acc := 0
    following := false } := by
  obtain ⟨hexit, hfollowing, hskip⟩ := h
  have hskips : s.gen.skips w = true := decide_eq_true hskip
  simp [holdLift, hexit, hfollowing, hskips, gen_buildLift]

theorem holdLift_of_none (hexit : s.gen.exitPoint = none) (h : ¬ s.gen.SkipLift w) : holdLift w s = s := by
  have hnot : (s.gen.following && s.gen.skips w) = false := by
    rw [← Bool.not_eq_true, Bool.and_eq_true, Generator.skips, decide_eq_true_eq]
    exact fun ⟨hfollowing, hskip⟩ => h ⟨hexit, hfollowing, hskip⟩
  simp [holdLift, hexit, hnot]

/-- The Generator once a hold's end has built what it calls for before a noted pass-end (R70). -/
def holdOver (w : TracerJob) (s : State) : State :=
  (holdLift w s).setGen { (holdLift w s).gen with exitPoint := none, passEndNoted := false }

theorem endHold_eq (hw : s.tracerJob = some w) (hphase : s.gen.phase = .inPass) (hdue : s.gen.due = [])
    (hstate : s.job.state ≠ .stopped) :
    endHold s = if s.gen.passEndNoted then endFollowPass w (holdOver w s) else holdOver w s := by
  have hopen : s.gen.phase = .inPass ∧ s.gen.due = [] ∧ s.isStopped = false :=
    ⟨hphase, hdue, by simp [State.isStopped, hstate]⟩
  simp only [endHold, hw, if_pos hopen]
  rfl

theorem seq_add_two (n : Seq) : n + 1#16 + 1#16 = n + 2#16 := by
  rw [BitVec.add_assoc]
  rfl

theorem seq_add_three (n : Seq) : n + 2#16 + 1#16 = n + 3#16 := by
  rw [BitVec.add_assoc]
  rfl

theorem gen_endHold (hw : s.tracerJob = some w) (hphase : s.gen.phase = .inPass) (hdue : s.gen.due = [])
    (hstate : s.job.state ≠ .stopped) : (endHold s).gen = s.gen.holdEnded w := by
  have hend : (endHold s).gen =
      if s.gen.passEndNoted then (endFollowPass w (holdOver w s)).gen else (holdOver w s).gen := by
    rw [endHold_eq hw hphase hdue hstate]
    split <;> rfl
  have hover : (holdOver w s).gen = { (holdLift w s).gen with exitPoint := none, passEndNoted := false } := rfl
  rw [hend, gen_endFollowPass, hover]
  cases hexit : s.gen.exitPoint with
  | some q =>
    rw [gen_holdLift_of_exit hexit]
    cases hnoted : s.gen.passEndNoted <;> cases hfollowing : s.gen.following <;>
      simp [Generator.holdEnded, hexit, hnoted, hfollowing, Generator.liftAt, Generator.endAt, lastPoint_eq,
        Generator.pass, seq_add_two, seq_add_three]
  | none =>
    by_cases hskip : s.gen.SkipLift w
    · rw [gen_holdLift_of_skip hskip]
      obtain ⟨-, hfollowing, hfar⟩ := hskip
      cases hnoted : s.gen.passEndNoted <;>
        simp [Generator.holdEnded, hexit, hnoted, hfollowing, hfar, Generator.liftAt, Generator.endAt, lastPoint_eq,
        Generator.pass, seq_add_two]
    · rw [holdLift_of_none hexit hskip]
      have hnear (hfollowing : s.gen.following = true) : ¬ 2 * w.spacing < (s.gen.acc : Int) :=
        fun hfar => hskip ⟨hexit, hfollowing, hfar⟩
      cases hfollowing : s.gen.following with
      | false => cases hnoted : s.gen.passEndNoted <;>
        simp [Generator.holdEnded, hexit, hnoted, hfollowing, Generator.endAt,
          Generator.pass]
      | true => cases hnoted : s.gen.passEndNoted <;>
        simp [Generator.holdEnded, hexit, hnoted, hfollowing, hnear hfollowing, Generator.liftAt, Generator.endAt,
          lastPoint_eq, Generator.pass, seq_add_two]

theorem endHold_unchangedBut (s : State) : UnchangedBut [.bus, .gen, .cond] s (endHold s) := by
  intro b hb
  cases b <;> simp [Block.same] at hb ⊢

/-- The stylus outran the stream: TRACE_SKIP, whether it left the groove or is still followed (R70). -/
theorem has_traceSkip_holdLift (hskip : 2 * w.spacing < (s.gen.acc : Int))
    (hfollowed : s.gen.exitPoint.isSome = true ∨ s.gen.following = true) :
    (holdLift w s).cond.has .traceSkip = true := by
  have hskips : s.gen.skips w = true := decide_eq_true hskip
  cases hexit : s.gen.exitPoint with
  | some q => simp [holdLift, hexit, hskips, has_raiseIf]
  | none =>
    have hfollowing : s.gen.following = true := by simpa [hexit] using hfollowed
    simp [holdLift, hexit, hskips, hfollowing, has_raise]

theorem has_traceSkip_endHold (hw : s.tracerJob = some w) (hphase : s.gen.phase = .inPass) (hdue : s.gen.due = [])
    (hstate : s.job.state ≠ .stopped) (hskip : 2 * w.spacing < (s.gen.acc : Int))
    (hfollowed : s.gen.exitPoint.isSome = true ∨ s.gen.following = true) :
    (endHold s).cond.has .traceSkip = true := by
  have hover : (holdOver w s).cond.has .traceSkip = true := has_traceSkip_holdLift hskip hfollowed
  rw [endHold_eq hw hphase hdue hstate]
  split
  · exact (evolves_endFollowPass (a := false) w (holdOver w s)).has hover
  · exact hover

/-! ## A report of the stylus (R65 to R67, R69) -/

theorem inGroove_iff (w : TracerJob) (p : ProbeReport) : inGroove w p = true ↔
    p.inGroove = true ∧ p.overtravel = false ∧ w.u0 ≤ p.u ∧ p.u ≤ w.u1 ∧ w.v0 ≤ p.v ∧ p.v ≤ w.v1 := by
  simp [inGroove, and_assoc]

theorem inHold_iff (hphase : s.gen.phase = .inPass) : s.inHold = true ↔ s.gen.due ≠ [] ∨ s.job.state = .stopped := by
  simp [State.inHold, State.isStopped, hphase]

/-- The STROKE record of a report with sequence n (R55, R66). -/
def Generator.strokeAt (g : Generator) (w : TracerJob) (p : ProbeReport) (n : Seq) : TraceRecord :=
  ⟨n, g.pass, .stroke, saturate p.u, saturate p.v, saturate p.depth, (w.faces[0]?).getD 0, min 65535 p.width, 0, 0⟩

theorem gen_buildStroke (w : TracerJob) (p : ProbeReport) (s : State) : (buildStroke w p s).gen =
    { s.gen with due := s.gen.due ++ [s.gen.strokeAt w p s.gen.nextSeq], nextSeq := s.gen.nextSeq + 1 } := by
  simp [buildStroke, build, Built.record, Generator.strokeAt, TracerJob.faceAngle, List.getD_eq_getElem?_getD]

/-- A report with no hold in force (R66). -/
theorem gen_followReport (w : TracerJob) (p : ProbeReport) (s : State) : (followReport w p s).gen =
    if s.gen.following then
      if inGroove w p then
        if w.spacing ≤ (s.gen.accTo p : Int) then { s.gen with
          due := s.gen.due ++ [s.gen.strokeAt w p s.gen.nextSeq], nextSeq := s.gen.nextSeq + 1, acc := 0 }
        else { s.gen with acc := s.gen.accTo p }
      else { s.gen with
        due := s.gen.due ++ [s.gen.liftAt w s.gen.lastPoint s.gen.nextSeq], nextSeq := s.gen.nextSeq + 1
        following := false, acc := 0 }
    else if inGroove w p then { s.gen with
      due := s.gen.due ++ [s.gen.strokeAt w p s.gen.nextSeq], nextSeq := s.gen.nextSeq + 1, following := true, acc := 0 }
    else s.gen := by
  unfold followReport
  simp only [apply_ite State.gen, State.setGen_gen, gen_buildStroke, gen_buildLift]

/-- A report during a hold (R69). -/
theorem gen_holdReport (w : TracerJob) (p : ProbeReport) (s : State) : (holdReport w p s).gen =
    if s.gen.following then
      if inGroove w p then { s.gen with acc := s.gen.accTo p }
      else { s.gen with exitPoint := some s.gen.lastPoint, following := false }
    else s.gen := by
  unfold holdReport
  simp only [apply_ite State.gen, State.setGen_gen]

theorem gen_passReport (w : TracerJob) (p : ProbeReport) (s : State) : (passReport w p s).gen =
    { (if s.inHold then (holdReport w p s).gen else (followReport w p s).gen) with
      last := some ⟨⟨p.u, p.v⟩, p.inGroove⟩ } := by
  set v := raiseIf p.overtravel .probeOvertravel s with hv
  have hgen : v.gen = s.gen := by simp [hv]
  have hhold : v.inHold = s.inHold := by simp [State.inHold, State.isStopped, hv]
  have hpass : (passReport w p s).gen =
      { (if v.inHold then (holdReport w p v).gen else (followReport w p v).gen) with
        last := some ⟨⟨p.u, p.v⟩, p.inGroove⟩ } := by
    rw [← apply_ite State.gen]
    rfl
  rw [hpass, hhold, gen_holdReport, gen_holdReport, gen_followReport, gen_followReport, hgen]

theorem has_probeOvertravel_passReport (h : p.overtravel = true) :
    (passReport w p s).cond.has .probeOvertravel = true := by
  have hraised : (raiseIf p.overtravel .probeOvertravel s).cond.has .probeOvertravel = true := by simp [has_raiseIf, h]
  simp only [passReport, noteReport, State.setGen_cond]
  split
  · simpa using hraised
  · simpa using hraised

theorem followJob_of_tracer (hrole : s.straps.role = .tracer) (hw : s.tracerJob = some w) (hmode : w.mode = .follow) :
    s.followJob = some w := by
  simp [State.followJob, State.isTracer, hrole, hw, hmode]

theorem exec_probeReport_of_awaitStart (hw : s.followJob = some w) (hphase : s.gen.phase = .awaitStart)
    (p : ProbeReport) : exec (.probeReport p) s = .next (noteReport p s) := by
  have harm : exec (.probeReport p) s = execProbeReport p s := rfl
  simp only [harm, execProbeReport, hw, hphase]

theorem exec_probeReport_of_inPass (hw : s.followJob = some w) (hphase : s.gen.phase = .inPass)
    (p : ProbeReport) : exec (.probeReport p) s = .next (passReport w p s) := by
  have harm : exec (.probeReport p) s = execProbeReport p s := rfl
  simp only [harm, execProbeReport, hw, hphase]

theorem exec_probeReport_of_other (hstart : s.gen.phase ≠ .awaitStart) (hpass : s.gen.phase ≠ .inPass)
    (p : ProbeReport) : exec (.probeReport p) s = .next s := by
  have harm : exec (.probeReport p) s = execProbeReport p s := rfl
  simp only [harm, execProbeReport]
  split <;> rfl

theorem exec_passEndButton_eq (hw : s.followJob = some w) (hphase : s.gen.phase = .inPass) : exec .passEndButton s =
    .next (if s.inHold then s.setGen { s.gen with passEndNoted := true } else endFollowPass w s) := by
  have harm : exec .passEndButton s = execPassEndButton s := rfl
  simp only [harm, execPassEndButton, hw, if_pos hphase]

theorem exec_passEndButton_of_phase (hphase : s.gen.phase ≠ .inPass) : exec .passEndButton s = .next s := by
  have harm : exec .passEndButton s = execPassEndButton s := rfl
  simp only [harm, execPassEndButton, if_neg hphase]
  split <;> rfl

theorem exec_passStartButton_of_taken (hw : s.followJob = some w) (hphase : s.gen.phase = .awaitStart)
    (htable : s.gen.tableArrived = true) (hstate : s.job.state = .running) : exec .passStartButton s =
    .next (s.setGen { s.gen with phase := .inPass, following := false, acc := 0 }) := by
  have harm : exec .passStartButton s = execPassStartButton s := rfl
  simp [harm, execPassStartButton, hw, hphase, htable, State.isRunning, hstate]

theorem exec_passStartButton_of_ignored
    (h : ¬ (s.gen.phase = .awaitStart ∧ s.gen.tableArrived = true ∧ s.job.state = .running)) :
    exec .passStartButton s = .next s := by
  have harm : exec .passStartButton s = execPassStartButton s := rfl
  have hnot : ¬ (s.followJob.isSome ∧ s.gen.phase = .awaitStart ∧ s.gen.tableArrived = true ∧ s.isRunning = true) :=
    fun ⟨_, hphase, htable, hrunning⟩ => h ⟨hphase, htable, by simpa [State.isRunning] using hrunning⟩
  rw [harm, execPassStartButton, if_neg hnot]

theorem unchangedBut_setGen (x : Generator) (s : State) : UnchangedBut [.gen] s (s.setGen x) := by
  intro b hb
  cases b <;> simp [Block.same] at hb ⊢

theorem endFollowPass_unchangedBut (w : TracerJob) (s : State) : UnchangedBut [.gen] s (endFollowPass w s) := by
  intro b hb
  cases b <;> simp [Block.same] at hb ⊢

theorem inHold_eq_false (hphase : s.gen.phase = .inPass) (h : ¬ (s.gen.due ≠ [] ∨ s.job.state = .stopped)) :
    s.inHold = false := by
  rwa [← Bool.not_eq_true, inHold_iff hphase]

theorem afterLive_of_follow (hmode : w.mode = .follow) (hkind : r.kind ≠ .passEnd) : afterLive j w r s = endHold s := by
  unfold afterLive
  split
  · contradiction
  · simp only [hmode]
  · simp only [hmode]

theorem isRunning_of_gateOpen (h : s.gateOpen = true) : s.job.state = .running := by
  simp only [State.gateOpen, Bool.and_eq_true] at h
  obtain ⟨⟨⟨⟨-, hrunning⟩, -⟩, -⟩, -⟩ := h
  simpa [State.isRunning] using hrunning

/-- Settles O41: each event through what it makes of the Generator. -/
theorem theStylusIsFollowed : Obligations.TheStylusIsFollowed := by
  unfold Obligations.TheStylusIsFollowed
  intro s hrole r hr w hw hmode last held angle record end_ built begins
  have htracer := tracerJob_of_record hr hw
  have hfollow := followJob_of_tracer hrole htracer hmode
  have hlast : s.gen.lastPoint = last := lastPoint_eq s.gen
  have hlift (n : Seq) (p : Point) : s.gen.liftAt w p n =
      ⟨n, s.gen.pass, .lift, saturate p.u, saturate p.v, saturate 0, angle, min 65535 0, 0, 0⟩ := by
    simp [Generator.liftAt, hmode, saturate, angle]
  refine ⟨fun p => ?_, fun hbegins => ?_, exec_passStartButton_of_ignored,
    fun hphase => ?_, exec_passEndButton_of_phase, fun x hdue hgate hcursor hphase hkind => ?_⟩
  · intro at_ inside noted far hle hlt acc
    have hacc : s.gen.accTo p = acc := by
      rw [Generator.accTo, hlast, distance_eq hle hlt]
    have hinside : inGroove w p = true ↔ inside := inGroove_iff w p
    by_cases hstart : s.gen.phase = .awaitStart
    · have harm := exec_probeReport_of_awaitStart hfollow hstart p
      exact ⟨_, harm, fun _ => ⟨rfl, unchangedBut_setGen _ s⟩, fun hin => absurd (hstart.symm.trans hin) nofun,
        fun hnot => absurd hstart hnot, commandsWriteOnlyTheirBlocks _ _ _ harm⟩
    by_cases hin : s.gen.phase = .inPass
    · have harm := exec_probeReport_of_inPass hfollow hin p
      refine ⟨_, harm, fun h => absurd h hstart, fun _ =>
        ⟨has_probeOvertravel_passReport, fun hfree => ?_, fun hheld => ?_⟩, fun _ hnot => absurd hin hnot, commandsWriteOnlyTheirBlocks _ _ _ harm⟩
      · have hgen : (passReport w p s).gen = { (followReport w p s).gen with last := some ⟨at_, p.inGroove⟩ } := by
          rw [gen_passReport, inHold_eq_false hin hfree, if_neg Bool.false_ne_true]
        rw [hgen, gen_followReport, hacc, hlast]
        refine ⟨fun hfollowing hinside' => ?_, fun hfollowing hout => ?_, fun hfollowing hinside' hnear => ?_,
          fun hfollowing hinside' hfar => ?_, fun hfollowing hout => ?_⟩
        · rw [if_neg (by simp [hfollowing]), if_pos (hinside.2 hinside')]
          rfl
        · rw [if_neg (by simp [hfollowing]), if_neg (mt hinside.1 hout)]
        · rw [if_pos hfollowing, if_pos (hinside.2 hinside'), if_neg (not_le.2 hnear)]
        · rw [if_pos hfollowing, if_pos (hinside.2 hinside'), if_pos hfar]
          rfl
        · rw [if_pos hfollowing, if_neg (mt hinside.1 hout), hlift]
      · have hgen : (passReport w p s).gen = { (holdReport w p s).gen with last := some ⟨at_, p.inGroove⟩ } := by
          rw [gen_passReport, (inHold_iff hin).2 hheld, if_pos rfl]
        rw [hgen, gen_holdReport, hacc, hlast]
        refine ⟨fun hfollowing hinside' => ?_, fun hfollowing hout => ?_, fun hfollowing => ?_⟩
        · rw [if_pos hfollowing, if_pos (hinside.2 hinside')]
        · rw [if_pos hfollowing, if_neg (mt hinside.1 hout)]
        · rw [if_neg (by simp [hfollowing])]
    · exact ⟨_, exec_probeReport_of_other hstart hin p, fun h => absurd h hstart, fun h => absurd h hin, fun _ _ => rfl,
        .refl _ s⟩
  · obtain ⟨hphase, htable, hstate⟩ := hbegins
    exact ⟨_, exec_passStartButton_of_taken hfollow hphase htable hstate, rfl, unchangedBut_setGen _ s⟩
  · have harm := exec_passEndButton_eq hfollow hphase
    have hfree (h : ¬ held) : s.inHold = false ∧ s.gen.due = [] :=
      ⟨inHold_eq_false hphase h, not_not.1 fun hdue => h (.inl hdue)⟩
    refine ⟨_, harm, ?_, fun hheld => ?_, fun hnot hfollowing => ?_, fun hnot hfollowing => ?_⟩
    · split
      · exact unchangedBut_setGen _ s
      · exact endFollowPass_unchangedBut w s
    · rw [if_pos ((inHold_iff hphase).2 hheld)]
      rfl
    · obtain ⟨hhold, hdue⟩ := hfree hnot
      rw [hhold, if_neg Bool.false_ne_true, gen_endFollowPass, if_neg (by simp [hfollowing]), hdue]
      rfl
    · obtain ⟨hhold, hdue⟩ := hfree hnot
      rw [hhold, if_neg Bool.false_ne_true, gen_endFollowPass, if_pos hfollowing, hdue, hlift, hlast]
      rfl
  · have harm := exec_emission_of_open hgate
    let u := emittedState w x [] s
    have hframe : UnchangedBut [.bus, .gen, .pacer, .store, .cond] s u := emittedState_unchangedBut w x [] s
    have hgen : u.gen = { s.gen with due := [] } := gen_emittedState w x [] s
    have hjob : u.job = s.job := hframe .job (by decide)
    have hutracer : u.tracerJob = some w := tracerJob_of_record (by rwa [hjob]) hw
    have hustate : u.job.state ≠ .stopped := by
      rw [hjob, isRunning_of_gateOpen hgate]
      nofun
    have huphase : u.gen.phase = .inPass := by rw [hgen, hphase]
    have hudue : u.gen.due = [] := by rw [hgen]
    rw [emitHead_of_live hdue hr hw hcursor, afterLive_of_follow hmode hkind] at harm
    refine ⟨_, harm, ?_, fun hskip hfollowed => ?_, hframe.trans ((endHold_unchangedBut u).mono (by decide))⟩
    · rw [gen_endHold (s := u) hutracer huphase hudue hustate, hgen]
    · exact has_traceSkip_endHold (s := u) hutracer huphase hudue hustate (by rwa [hgen]) (by rwa [hgen])

end

end Sys2Proof.Machine

/-! SUPPORT. A tracer back in RUNNING (R72, R82, R88, R89, R175): its held moves commanded again, the silence told, a hold ended,
and what the Pacer held acted on. -/

namespace Sys2Proof.Machine

open Sys2Proof

section

variable {s t u x : State} {r : JobRecord} {w : TracerJob} {p : Nat}

/-! ## The moves that stand (R72, R165) -/

/-- What a resume acts on behind the held moves: the check in progress stays, and the moves that wait stay in front. -/
structure KeepsMoves (s t : State) : Prop where
  held : t.motion.held = s.motion.held
  outstanding : t.motion.outstanding = s.motion.outstanding
  closing : t.motion.closing = s.motion.closing
  portLift : t.motion.portLift = s.motion.portLift
  busy : s.guard.isFree = false → t.guard = s.guard ∧ ∃ later, t.motion.waiting = s.motion.waiting ++ later

namespace KeepsMoves

theorem refl (s : State) : KeepsMoves s s := ⟨rfl, rfl, rfl, rfl, fun _ => ⟨rfl, [], by simp⟩⟩

theorem trans (h : KeepsMoves s t) (h' : KeepsMoves t u) : KeepsMoves s u where
  held := h'.held.trans h.held
  outstanding := h'.outstanding.trans h.outstanding
  closing := h'.closing.trans h.closing
  portLift := h'.portLift.trans h.portLift
  busy hbusy := by
    obtain ⟨hguard, later, hwaiting⟩ := h.busy hbusy
    obtain ⟨hguard', later', hwaiting'⟩ := h'.busy (by rwa [hguard])
    exact ⟨hguard'.trans hguard, later ++ later', by rw [hwaiting', hwaiting, List.append_assoc]⟩

end KeepsMoves

theorem keepsMoves_raise (c : Cond) (s : State) : KeepsMoves s (raise c s) := by
  constructor <;> simp

theorem keepsMoves_raiseIf (b : Bool) (c : Cond) (s : State) : KeepsMoves s (raiseIf b c s) := by
  constructor <;> simp

theorem keepsMoves_setPacer (q : Pacer) (s : State) : KeepsMoves s (s.setPacer q) := by
  constructor <;> simp

theorem keepsMoves_offerFinish (s : State) : KeepsMoves s (offerFinish s) := by
  constructor <;> simp

theorem keepsMoves_notEnrolled (s : State) : KeepsMoves s (notEnrolled s) := by
  constructor <;> simp [notEnrolled]

theorem keepsMoves_commandMove (sp : Setpoint) (s : State) : KeepsMoves s (commandMove sp s) where
  held := by simp
  outstanding := by simp
  closing := by simp
  portLift := by simp
  busy hbusy := by
    have hnot : s.guard.atCheck ≠ none ∨ s.guard.passed ≠ none ∨ s.motion.portLift ≠ none := by
      rw [← Bool.not_eq_true, isFree_iff, not_and_or] at hbusy
      tauto
    obtain ⟨hmotion, hguard⟩ := (moveCommanded_commandMove sp s).2 hnot
    exact ⟨hguard, [sp], by rw [hmotion]⟩

theorem keepsMoves_orderPass (hr : s.job.record = some r) (hw : r.work = .tracer w) (p c : Nat) :
    KeepsMoves s (orderPass p c s) := by
  rw [orderPass_eq hr hw]
  split
  · constructor <;> simp [ordered]
  · cases hmode : w.mode with
    | raster =>
      rw [beginLive_of_raster hmode]
      constructor <;> simp [ordered]
    | follow =>
      rw [beginLive_of_follow hmode]
      refine KeepsMoves.trans ?_ (keepsMoves_commandMove _ _)
      constructor <;> simp [ordered]

theorem keepsMoves_decidePass (hr : s.job.record = some r) (hw : r.work = .tracer w) (p : Nat) :
    KeepsMoves s (decidePass p s) := by
  have hdone : KeepsMoves s (raise .jobDone (offerFinish s)) := (keepsMoves_offerFinish s).trans (keepsMoves_raise _ _)
  unfold decidePass
  split
  · exact hdone
  · split
    · exact hdone.trans (keepsMoves_raise _ _)
    · exact keepsMoves_orderPass hr hw _ _

theorem keepsMoves_enrolled (w : TracerJob) (s : State) : KeepsMoves s (enrolled w s) :=
  (keepsMoves_setPacer _ s).trans (keepsMoves_raiseIf _ _ _)

/-! ## The held moves commanded again (R72) -/

/-- The held moves commanded again, in their order. -/
def heldCommanded (s : State) : State :=
  pumpPort (s.setMotion { s.motion with waiting := s.motion.held ++ s.motion.waiting, held := [] })

theorem heldCommanded_unchangedBut (hclosing : s.motion.closing = none) (hport : s.motion.portLift = none) :
    UnchangedBut [.bus, .motion, .guard] s (heldCommanded s) := by
  rw [heldCommanded, pumpPort_of_no_lifts (by exact hport) (by exact hclosing)]
  exact ((setMotion_unchangedBut s _).mono (by decide)).trans (pumpMoves_unchangedBut _)

theorem pumpMoves_of_free {sp : Setpoint} {more : List Setpoint} (hwaiting : s.motion.waiting = sp :: more)
    (hfree : s.guard.isFree = true) (hport : s.motion.portLift = none) :
    pumpMoves s = beginCheck sp (s.setMotion { s.motion with waiting := more }) := by
  simp only [pumpMoves, hwaiting, hfree, hport, Option.isNone_none, Bool.and_self, if_true]

theorem heldCommanded_spec (hclosing : s.motion.closing = none) (hport : s.motion.portLift = none)
    (hwaiting : s.motion.waiting = []) (hfree : s.guard.isFree = true) :
    (heldCommanded s).motion = { s.motion with waiting := s.motion.held.tail, held := [] } ∧
      (∀ sp more, s.motion.held = sp :: more →
        (heldCommanded s).guard.atCheck = some sp ∨ (heldCommanded s).guard.passed = some sp) ∧
      SameRoom s (heldCommanded s) := by
  have hpump := pumpPort_of_no_lifts
    (s := s.setMotion { s.motion with waiting := s.motion.held ++ s.motion.waiting, held := [] }) hport hclosing
  rw [heldCommanded, hpump]
  cases hheld : s.motion.held with
  | nil =>
    rw [hwaiting, List.append_nil, pumpMoves_of_no_move (s := s.setMotion { s.motion with waiting := [], held := [] }) rfl]
    exact ⟨rfl, fun _ _ h => absurd h (List.cons_ne_nil _ _).symm, .same rfl⟩
  | cons sp more =>
    rw [hwaiting, List.append_nil,
      pumpMoves_of_free (s := s.setMotion { s.motion with waiting := sp :: more, held := [] }) rfl hfree hport]
    refine ⟨by simp, fun sp' more' heq => ?_, .after (sameRoom_beginCheck sp _) rfl⟩
    obtain ⟨rfl, rfl⟩ := List.cons.inj heq
    exact atCheck_or_passed_beginCheck sp _

theorem raiseIf_unchangedBut (b : Bool) (c : Cond) (s : State) : UnchangedBut [.bus, .cond] s (raiseIf b c s) := by
  intro k hk
  cases k <;> simp [Block.same] at hk ⊢

/-! ## A hold that can end (R70) -/

theorem endHold_of_open (h : ¬ (s.gen.phase = .inPass ∧ s.gen.due = [])) : endHold s = s := by
  have hnot : ¬ (s.gen.phase = .inPass ∧ s.gen.due = [] ∧ s.isStopped = false) :=
    fun ⟨hphase, hdue, _⟩ => h ⟨hphase, hdue⟩
  unfold endHold
  split
  · exact if_neg hnot
  · rfl

theorem sameRoom_endHold (s : State) : SameRoom s (endHold s) := by
  have hlift (w : TracerJob) : SameRoom s (holdLift w s) := by
    unfold holdLift
    dsimp only
    split
    · exact .after (sameRoom_raiseIf _ _ _) rfl
    · exact .ite (.after (sameRoom_raise _ _) rfl) (.refl s)
  have hend (w : TracerJob) (u : State) : SameRoom u (endFollowPass w u) := .ite (.same rfl) (.same rfl)
  unfold endHold
  split
  case h_1 w _ =>
    have hover : SameRoom s (holdOver w s) := (hlift w).trans (.same rfl)
    exact .ite (.ite (hover.trans (hend w _)) hover) (.refl s)
  case h_2 => exact .refl s

/-! ## Back in RUNNING, before what the Pacer held -/

/-- The tracer back in RUNNING: its moves commanded, the silence told, and a hold ended (R70, R72, R82). -/
def restarted (s : State) : State :=
  endHold (raiseIf (heldCommanded s).silentCause .carverSilent (heldCommanded s))

theorem resumeTracer_eq (s : State) : resumeTracer s = reachHeld (offerHeldFinish (restarted s)) := rfl

theorem resumed_of_tracer (hr : s.job.record = some r) (hw : r.work = .tracer w) (hrunning : s.job.remembered = .running) :
    resumed s = setStation .running s := by
  have hnone : (setStation s.job.remembered s).carverJob = none := by
    simp [State.carverJob, hr, hw]
  rw [resumed, offerCredit, hnone, hrunning]

/-- The Generator of a tracer back in RUNNING: a hold that can end has ended. -/
def Generator.restarted (g : Generator) (w : TracerJob) : Generator :=
  if g.phase = .inPass ∧ g.due = [] then g.holdEnded w else g

/-- What the restart leaves of the station at s, before what the Pacer held is acted on. -/
structure TracerRestarted (w : TracerJob) (s z : State) : Prop where
  job : z.job = { s.job with state := .running }
  gen : z.gen = s.gen.restarted w
  held : z.motion.held = []
  waiting : z.motion.waiting = s.motion.held.tail
  outstanding : z.motion.outstanding = []
  closing : z.motion.closing = none
  portLift : z.motion.portLift = none
  first : ∀ sp more, s.motion.held = sp :: more → z.guard.atCheck = some sp ∨ z.guard.passed = some sp
  room : SameRoom s z
  silent : (∃ e ∈ s.pacer.lag, e.dropped = false ∧ e.silent = true) → z.cond.has .carverSilent = true
  skip : s.gen.phase = .inPass ∧ s.gen.due = [] → 2 * w.spacing < (s.gen.acc : Int) →
    s.gen.exitPoint.isSome = true ∨ s.gen.following = true → z.cond.has .traceSkip = true
  frame : UnchangedBut [.bus, .job, .gen, .motion, .guard, .cond] s z

theorem tracerRestarted (hstill : s.motion.outstanding = [] ∧ s.guard.atCheck = none ∧ s.guard.passed = none ∧
      s.pq.issued = [] ∧ s.motion.closing = none ∧ s.motion.portLift = none ∧ s.motion.waiting = [] ∧
      s.motion.spindle = .off) (hr : s.job.record = some r)
    (hw : r.work = .tracer w) (hrunning : s.job.remembered = .running) :
    TracerRestarted w s (restarted (resumed s)) := by
  obtain ⟨hout, hcheck, hpassed, -, hclosing, hport, hwaiting, -⟩ := hstill
  rw [resumed_of_tracer hr hw hrunning]
  let x := setStation .running s
  have hxframe : UnchangedBut [.job, .motion] s x := setStation_unchangedBut .running s
  have hxjob : x.job = { s.job with state := .running } := job_setStation _ s
  have hxclosing : x.motion.closing = none := by simp [x, hclosing]
  have hxport : x.motion.portLift = none := by simp [x, hport]
  have hxwaiting : x.motion.waiting = [] := by simp [x, hwaiting]
  have hxheld : x.motion.held = s.motion.held := by simp [x]
  have hxout : x.motion.outstanding = [] := by simp [x, hout]
  have hxfree : x.guard.isFree = true := (isFree_iff _).2 ⟨hcheck, hpassed⟩
  obtain ⟨hmotion, hfirst, hroom⟩ := heldCommanded_spec hxclosing hxport hxwaiting hxfree
  have hyframe := heldCommanded_unchangedBut hxclosing hxport
  let y := raiseIf (heldCommanded x).silentCause .carverSilent (heldCommanded x)
  have hframe : UnchangedBut [.bus, .job, .motion, .guard, .cond] s y :=
    (hxframe.mono (by decide)).trans ((hyframe.mono (by decide)).trans ((raiseIf_unchangedBut _ _ _).mono (by decide)))
  have hvjob : (heldCommanded x).job = x.job := hyframe .job (by decide)
  have hyjob : y.job = { s.job with state := .running } := by simp [y, hvjob, hxjob]
  have hygen : y.gen = s.gen := hframe .gen (by decide)
  have hymotion : y.motion = { x.motion with waiting := x.motion.held.tail, held := [] } := by
    simp [y, hmotion]
  have hytracer : y.tracerJob = some w := tracerJob_of_record (by rw [hyjob]; exact hr) hw
  have hystate : y.job.state ≠ .stopped := by
    rw [hyjob]
    nofun
  have hend := endHold_unchangedBut y
  have hzmotion : (endHold y).motion = { x.motion with waiting := x.motion.held.tail, held := [] } :=
    (hend .motion (by decide) : (endHold y).motion = y.motion).trans hymotion
  have hzguard : (endHold y).guard = (heldCommanded x).guard := by simp [y]
  refine {
    job := (hend .job (by decide) : (endHold y).job = y.job).trans hyjob
    gen := ?_
    held := congrArg Motion.held hzmotion
    waiting := (congrArg Motion.waiting hzmotion).trans (congrArg List.tail hxheld)
    outstanding := (congrArg Motion.outstanding hzmotion).trans hxout
    closing := (congrArg Motion.closing hzmotion).trans hxclosing
    portLift := (congrArg Motion.portLift hzmotion).trans hxport
    first := fun sp more hheld => ?_
    room := ?_
    silent := fun hsilent => ?_
    skip := fun ⟨hphase, hdue⟩ hskip hfollowed => ?_
    frame := (hframe.mono (by decide)).trans (hend.mono (by decide)) }
  · unfold Generator.restarted
    split
    case isTrue h => exact (gen_endHold hytracer (hygen ▸ h.1) (hygen ▸ h.2) hystate).trans (by rw [hygen])
    case isFalse h => exact (congrArg State.gen (endHold_of_open (s := y) (by rwa [hygen]))).trans hygen
  · rw [restarted, hzguard]
    exact hfirst sp more (hxheld.trans hheld)
  · have hsame : SameRoom s x := .same (by simp [x])
    exact ((hsame.trans hroom).trans (sameRoom_raiseIf _ _ _)).trans (sameRoom_endHold y)
  · have hcause : (heldCommanded x).silentCause = true := by
      have hpacer : (heldCommanded x).pacer = s.pacer := (hyframe .pacer (by decide)).trans (hxframe .pacer (by decide))
      obtain ⟨e, he, hdropped, hesilent⟩ := hsilent
      have hany : s.pacer.anySilent = true :=
        List.any_eq_true.2 ⟨e, by simp [Pacer.participating, he, hdropped], hesilent⟩
      simp [State.silentCause, State.isRunning, hvjob, hxjob, hpacer, hany]
    have hraised : y.cond.has .carverSilent = true := by simp [y, has_raiseIf, hcause]
    exact (evolves_endHold (a := false) y).has hraised
  · exact has_traceSkip_endHold hytracer (by rwa [hygen]) (by rwa [hygen]) hystate (by rwa [hygen]) (by rwa [hygen])

/-! ## What the Pacer held (R88, R89) -/

theorem offerHeldFinish_of_none (h : s.pacer.finishDue = false) : offerHeldFinish s = s := by
  simp [offerHeldFinish, h]

theorem offerHeldFinish_of_due (h : s.pacer.finishDue = true) : offerHeldFinish s = offerFinish s := by
  simp [offerHeldFinish, h]

theorem reachHeld_of_none (h : s.pacer.decision = none) : reachHeld s = s := by
  simp only [reachHeld, h]

theorem reachHeld_of_enrolment (h : s.pacer.decision = some .enrolment) : reachHeld s = enrolmentResult s := by
  simp only [reachHeld, h]

theorem reachHeld_of_collection (h : s.pacer.decision = some .collection) :
    reachHeld s = decidePass s.pacer.pass (s.setPacer { s.pacer with decision := none }) := by
  simp only [reachHeld, h]

theorem decision_offerFinish (h : s.pacer.decision = none) : (offerFinish s).pacer.decision = none := by
  unfold offerFinish
  split
  · simp
  · simp [h]

theorem pacer_orderPass (p c : Nat) (s : State) : (orderPass p c s).pacer = (ordered p c s).pacer := by
  unfold orderPass
  dsimp only
  split
  · split <;> simp [ordered]
  · rfl

theorem decision_decidePass (h : s.pacer.decision = none) (p : Nat) : (decidePass p s).pacer.decision = none := by
  have hfinish := decision_offerFinish h
  unfold decidePass
  split
  · simp [hfinish]
  · split
    · simp [hfinish]
    · exact (congrArg Pacer.decision (pacer_orderPass _ _ s)).trans h

theorem keepsMoves_reachHeld (hr : s.job.record = some r) (hw : r.work = .tracer w) : KeepsMoves s (reachHeld s) := by
  have hdecide (u : State) (hu : u.job.record = some r) := keepsMoves_decidePass hu hw
  cases hdecision : s.pacer.decision with
  | none => rw [reachHeld_of_none hdecision]; exact .refl s
  | some d => cases d with
    | enrolment =>
      rw [reachHeld_of_enrolment hdecision]
      by_cases hlag : s.pacer.lag = []
      · rw [enrolmentResult_of_empty hlag]
        exact keepsMoves_notEnrolled s
      · have hjob : (enrolled w s).job = s.job := enrolled_unchangedBut w s .job (by decide)
        rw [enrolmentResult_of_entries (tracerJob_of_record hr hw) hlag]
        exact (keepsMoves_enrolled w s).trans (hdecide _ (by rwa [hjob]) 0)
    | collection =>
      rw [reachHeld_of_collection hdecision]
      exact (keepsMoves_setPacer _ s).trans (hdecide (s.setPacer { s.pacer with decision := none }) hr _)

theorem offerHeldFinish_unchangedBut (s : State) :
    UnchangedBut [.bus, .job, .pacer, .motion] s (offerHeldFinish s) := by
  intro b hb
  cases b <;> simp [Block.same] at hb ⊢

theorem reachHeld_unchangedBut (s : State) :
    UnchangedBut [.bus, .job, .gen, .pacer, .store, .motion, .guard, .cond] s (reachHeld s) := by
  intro b hb
  cases b <;> simp [Block.same] at hb ⊢

/-- A FINISH that waits, offered again (R88). -/
theorem offerHeldFinish_spec (hr : s.job.record = some r) (hrun : s.job.state = .running)
    (hdue : s.pacer.finishDue = true) (hdecision : s.pacer.decision = none) :
    let room := s.bus.mute = false ∧ s.bus.generalHeld < 5
    let t := reachHeld (offerHeldFinish s)
    t.gen = s.gen ∧
      (room → t.job = { s.job with state := .done } ∧ t.pacer.phase = .off ∧ t.pacer.finishDue = false ∧
        ∃ g ∈ t.bus.queue, g.kind = .finish ∧ g.dest = 255 ∧ g.payload = put16 r.id) ∧
      (¬ room → t.job = s.job ∧ t.pacer = s.pacer) := by
  intro room t
  have hoffer : t = offerFinish s := by
    rw [show t = reachHeld (offerHeldFinish s) from rfl, offerHeldFinish_of_due hdue,
      reachHeld_of_none (decision_offerFinish hdecision)]
  have hrunning : s.isRunning = true := by simp [State.isRunning, hrun]
  rw [hoffer]
  refine ⟨by simp, fun hroom => ?_, fun hnot => ?_⟩
  · obtain ⟨hjob, hpacer, -⟩ := offerFinish_of_room hrunning (Bus.hasRoom_iff.2 hroom)
    rw [hjob, hpacer]
    exact ⟨rfl, rfl, rfl, exists_finish_offerFinish hr hrunning (Bus.hasRoom_iff.2 hroom)⟩
  · rw [offerFinish_of_no_room (by rwa [← Bool.not_eq_true, Bus.hasRoom_iff])]
    exact ⟨rfl, by rw [← hdue]; rfl⟩

/-- A decision held is reached (R89). -/
theorem reachHeld_spec (hr : s.job.record = some r) (hw : r.work = .tracer w) (hrun : s.job.state = .running)
    (hdecision : s.pacer.decision = some .collection ∨ (s.pacer.decision = some .enrolment ∧ s.pacer.lag ≠ [])) :
    (reachHeld s).pacer.decision = none ∧
      PassDecided (if s.pacer.decision = some .enrolment then 0 else s.pacer.pass) r w s.pacer.lag s.gen s (reachHeld s) := by
  obtain hdecision | ⟨hdecision, hlag⟩ := hdecision
  · rw [reachHeld_of_collection hdecision, if_neg (by rw [hdecision]; nofun)]
    let v := s.setPacer { s.pacer with decision := none }
    exact ⟨decision_decidePass (s := v) rfl _, (passDecided_decidePass (s := v) hr hw hrun _).at_ rfl rfl rfl (.refl s)⟩
  · rw [reachHeld_of_enrolment hdecision, if_pos hdecision, enrolmentResult_of_entries (tracerJob_of_record hr hw) hlag]
    exact ⟨decision_decidePass (by simp [enrolled]) 0, passDecided_enrolled hr hw hrun⟩

theorem keepsMoves_offerHeldFinish (s : State) : KeepsMoves s (offerHeldFinish s) := by
  unfold offerHeldFinish
  split
  · exact keepsMoves_offerFinish s
  · exact .refl s

/-- A decision reached at a station back in RUNNING speaks of the job it was stopped in. -/
theorem PassDecided.at_resumed {lag : List LagEntry} {g : Generator} (h : PassDecided p r w lag g u t)
    (hjob : u.job = { s.job with state := .running }) (hstore : u.store = s.store) (hinputs : u.inputs = s.inputs)
    (hroom : SameRoom s u) : PassDecided p r w lag g s t := by
  obtain ⟨hmute, hheld⟩ := hroom
  simp only [PassDecided, PassOrdered, hjob, hstore, hinputs, hmute, hheld] at h ⊢
  exact h

/-- Settles O28, by what the Pacer held when the tracer was stopped. -/
theorem resumeRestartsTheTracer : Obligations.ResumeRestartsTheTracer := by
  unfold Obligations.ResumeRestartsTheTracer
  intro s hsettled f rest hrx hkind hstate hhigh hrunning hrole r hr hid w hw holdEnds ended room p decides
  let u := s.dropFrame rest
  have harm : exec .resume s = .next (takeFrame .resume takeResume s) := rfl
  have hhigh' : ¬ u.bus.sensedLow = true := by rw [Bool.not_eq_true]; exact hhigh
  have hrole' : u.straps.role = .tracer := hrole
  rw [takeFrame_of_front takeResume hrx hkind, takeResume_of_stopped (s := u) hstate hr hid, if_neg hhigh',
    resumeJob_of_running (s := u) hrunning, hrole', resumeTracer_eq] at harm
  let z := restarted (resumed u)
  have hz : TracerRestarted w u z := tracerRestarted (hsettled.still hstate) hr hw hrunning
  have hzrecord : z.job.record = some r := by rw [hz.job]; exact hr
  have hzpacer : z.pacer = s.pacer := hz.frame .pacer (by decide)
  have hzrun : z.job.state = .running := by rw [hz.job]
  have hzroom : (z.bus.mute = false ∧ z.bus.generalHeld < 5) ↔ room := by
    obtain ⟨hmute, hheld⟩ := hz.room
    rw [hmute, hheld]
    rfl
  have hu : UnchangedBut [.bus] s u := dropFrame_unchangedBut s rest
  have hoffers : Evolves false z (offerHeldFinish z) := .ite (evolves_offerFinish z) (.refl false z)
  have hgrows : Evolves false z (reachHeld (offerHeldFinish z)) := hoffers.trans (evolves_reachHeld _)
  have hrecord : (offerHeldFinish z).job.record = some r := by simp [hzrecord]
  have hkeeps : KeepsMoves z (reachHeld (offerHeldFinish z)) :=
    (keepsMoves_offerHeldFinish z).trans (keepsMoves_reachHeld hrecord hw)
  refine ⟨_, harm, ?_, fun sp more hheld => ?_, hkeeps.held.trans hz.held, hkeeps.outstanding.trans hz.outstanding,
    hkeeps.closing.trans hz.closing, hkeeps.portLift.trans hz.portLift, fun hsilent _ => ?_, fun hends hskip hfollowed => ?_,
    fun hdecision hfinish => ?_, fun hdecision hfinish => ?_, fun hdecision hfinish hlag => ?_,
    fun hdecision hmissing hdecides => ?_, fun hdecides => ?_, ?_⟩
  · simp [restarted, heldCommanded, resumed, u]
  · have hbusy : z.guard.isFree = false := by
      rw [← Bool.not_eq_true, isFree_iff]
      obtain hfirst | hfirst := hz.first sp more hheld <;> simp [hfirst]
    obtain ⟨hguard, later, hwaiting⟩ := hkeeps.busy hbusy
    rw [hguard, hwaiting, hz.waiting]
    exact ⟨hz.first sp more hheld, later, by rw [show u.motion.held = _ from hheld]; rfl⟩
  · exact hgrows.has (hz.silent hsilent)
  · exact hgrows.has (hz.skip hends hskip hfollowed)
  · rw [offerHeldFinish_of_none (by rw [hzpacer, hfinish]), reachHeld_of_none (by rw [hzpacer, hdecision])]
    exact ⟨hz.job, hz.gen, hz.waiting, (hu.mono (by decide)).trans hz.frame⟩
  · have hheld := offerHeldFinish_spec hzrecord hzrun (by rw [hzpacer, hfinish]) (by rw [hzpacer, hdecision])
    obtain ⟨hgen, hdone, hwaits⟩ := hheld
    refine ⟨hgen.trans hz.gen, fun hroom => ?_, fun hnot => ?_⟩
    · have hdone' := hdone (hzroom.2 hroom)
      rw [hz.job] at hdone'
      exact hdone'
    · obtain ⟨hjob, hpacer⟩ := hwaits (mt hzroom.1 hnot)
      exact ⟨hjob.trans hz.job, hpacer.trans hzpacer⟩
  · rw [offerHeldFinish_of_none (by rw [hzpacer, hfinish]), reachHeld_of_enrolment (by rw [hzpacer, hdecision]),
      enrolmentResult_of_empty (by rw [hzpacer, hlag]), job_notEnrolled, pacer_notEnrolled, hz.job]
    exact ⟨rfl, rfl, rfl, has_noCarvers_notEnrolled z⟩
  · obtain ⟨hfinish, hcollection | ⟨-, hlag⟩⟩ := hdecides
    · exact absurd (hdecision.symm.trans hcollection) nofun
    · rw [offerHeldFinish_of_none (by rw [hzpacer, hfinish]), reachHeld_of_enrolment (by rw [hzpacer, hdecision]),
        enrolmentResult_of_entries (tracerJob_of_record hzrecord hw) (by rwa [hzpacer])]
      exact has_carverAbsent_enrolled (by rw [hzpacer]; exact (lacks_iff _ _).2 hmissing)
  · obtain ⟨hfinish, hheld⟩ := hdecides
    obtain ⟨hnone, hdecided⟩ := reachHeld_spec hzrecord hw hzrun (by rwa [hzpacer])
    rw [offerHeldFinish_of_none (by rw [hzpacer, hfinish])]
    rw [hz.gen, hzpacer] at hdecided
    exact ⟨hnone, hdecided.at_resumed hz.job (hz.frame .store (by decide)) (hz.frame .inputs (by decide)) hz.room⟩
  · exact ((hu.mono (by decide)).trans (hz.frame.mono (by decide))).trans
      (((offerHeldFinish_unchangedBut z).mono (by decide)).trans (reachHeld_unchangedBut _))

end

end Sys2Proof.Machine
